-- ==== Sys2Proof/Word.lean ====
section
/-!
DEFINITION. The byte and word types of the block, and their plainest arithmetic.

Bit vectors hold only what the manual treats as bits: bytes, TEP words and 64-bit records. Counters, times,
indexes and addresses are `Nat`; signed quantities are `Int` (R4).
-/
namespace Sys2Proof

/-- A byte of memory or of a message (R5, R6). -/
abbrev Byte := BitVec 8
/-- A TEP word (R7) and any other 32-bit record word. -/
abbrev Word := BitVec 32
/-- A 64-bit record: canonical event (R93), block record (R105), spike record (R224). -/
abbrev DWord := BitVec 64

end Sys2Proof
end

