-- ==== Sys2Proof/Syntax.lean ====
section
/-!
DEFINITION. The commands of the block: one constructor of `Instr` for each row of spec/opcode_table.json, with the row's
operands. A command is something that reaches the block from outside (a datagram, a packet, a register write, a bus
transfer, an edge on a pin) or an event of the block itself that the table lists (a boundary, a timeout, an engine's
turn). What an engine computes is the command's effect on the state, and never an operand.
-/
namespace Sys2Proof

/-- Who owns a bale (R46, R127, R164, R504). -/
inductive Owner where
  | session (id : Nat)
  | mailbox
  | groom
  | sieve
  | boot
  deriving DecidableEq, Repr, Inhabited

/-- State of a CSI-2 packet header after its ECC check (R79). -/
inductive HeaderEcc where
  | ok | corrected | uncorrectable
  deriving DecidableEq, Repr

/-- A CSI-2 packet as the receiver of a gate sees it (R79, R80). -/
structure Packet where
  short : Bool
  vc : Nat
  extVc : Nat
  dataType : Nat
  header : HeaderEcc
  crcOk : Bool
  payload : List Byte
  deriving DecidableEq, Repr

/-- The outcome of a memory read under its code (R367, R379). -/
inductive ReadCheck where
  | ok | corrected | uncorrectable
  deriving DecidableEq, Repr

/-- How a device-side bus transfer to the host or to memory ends (R356, R396). -/
inductive MoveEnd where
  | ok
  | readUncorrectable (moved : Nat)
  | readRefused (moved : Nat)
  | writeRefused (moved : Nat)
  deriving DecidableEq, Repr

/-- The answer of an I²C device to one record (R113). -/
inductive I2cAnswer where
  | ok (data : List Byte)
  | addressNack
  | dataNack
  deriving DecidableEq, Repr

/-- The answer of a PMBus slave: acknowledged, or the number of NACKs in a row (R464). -/
structure PmbAnswer where
  nacks : Nat
  deriving DecidableEq, Repr

/-- A PTP message header as far as the device uses it (R407, R408). -/
structure PtpHdr where
  port : Nat
  domain : Nat
  clockId : Nat
  portNumber : Nat
  seq : Nat
  rxStamp : Nat          -- device time at the SFD, 2⁻¹⁶ ns
  correction : Int       -- 2⁻¹⁶ ns
  stamped : Bool         -- false: the stamp of an event message found no room (R409)
  deriving DecidableEq, Repr

/-- The data set of an Announce message (R408). -/
structure AnnounceData where
  gmId : Nat
  priority1 : Nat
  clockClass : Nat
  accuracy : Nat
  variance : Nat
  priority2 : Nat
  stepsRemoved : Nat
  utcOffset : Int
  deriving DecidableEq, Repr, Inhabited

/-- A yard frame as received, header fields first (R431). -/
structure YardFrame where
  port : Nat
  magic : Nat
  version : Nat
  kind : Nat
  src : Nat
  dst : Nat
  seq : Nat
  leadYard : Nat
  memberYard : Nat
  part : Nat
  parts : Nat
  step : Nat
  payloadLen : Nat
  payload : List Byte
  deriving DecidableEq, Repr

/-- What WAKE[n] shows (R457): a level held for 3 PCLK cycles, or an edge. -/
inductive WakeSignal where
  | high | low | rising | falling
  deriving DecidableEq, Repr

/-- Why a slice is pre-empted (R486). -/
inductive PreemptCause where
  | work | votesWithdrawn | throttle | disabled
  deriving DecidableEq, Repr

/-- The header of a recovery transfer (R398): tag, and whether magic and lengths are right. -/
structure RecHdr where
  tag : Nat
  good : Bool
  deriving DecidableEq, Repr

/-- The target of a REGISTER_WRITE: an object of the dictionary, or a place in BAR0. -/
inductive RegTarget where
  | object (addr elem : Nat) (values : List Nat)
  | domain (addr : Nat) (bytes : List Byte)
  | bar0 (offset : Nat) (bytes : List Byte)
  deriving DecidableEq, Repr

/-- The clock that the PCLK monitor finds lost (R406, CCLK_LOSS). -/
inductive LostClock where
  | tclk | cclk
  deriving DecidableEq, Repr

/-- Why an Ethernet frame is not received (R426). -/
inductive FrameError where
  | fcs | length | noBuffer
  deriving DecidableEq, Repr

/-- Why a well-formed Ethernet frame is not wanted (R426, R427). -/
inductive Unwanted where
  | notForPort | foreignVlan | pause
  deriving DecidableEq, Repr

/-- The commands, one per row of the table, in the table's order. -/
inductive Instr where
  -- steps
  | stepBoundary
  | ingressClose (k : Nat)
  | stretchLimitClose (k : Nat)
  | computeLimit (k : Nat)
  | gateSilent (g : Nat)
  | stallDeliver (s k : Nat)
  | fusionStart (k : Nat)
  | solveCapped
  | fusionComplete
  | stepDoneUnfused (k : Nat)
  -- HOLD
  | holdResultReceive (demandErr complementErr stepErr rearmErr : Nat)
  | holdWatchdogTrip
  | holdReadbackMismatch (pair : Nat) (negative : Bool) (outNs : Nat)
  -- SDP and the dictionary
  | sdpDatagramRx (port source : Nat) (payload : List Byte)
  | sdpReassemblyTimeout (source : Nat)
  | sessionTimeout (id : Nat)
  | read
  | write
  | readBlock
  | writeBlock
  | commit
  | discard
  | list
  | sessionOpen
  | sessionClose
  | attest
  | baleCommit (who : Owner)
  | baleDiscard (who : Owner)
  | mbxGo
  | mbxResponse
  | registerWrite (target : RegTarget)
  | counterClear (addr : Nat)
  -- gates
  | csi2Packet (g : Nat) (p : Packet)
  | evNeg (g : Nat)
  | evPos (g : Nat)
  | vecNeg (g : Nat)
  | vecPos (g : Nat)
  | timeHigh (g : Nat)
  | marker (g : Nat)
  | pad (g : Nat)
  | status (g : Nat)
  | reservedWord (g : Nat)
  | stagingFlushTimeout (g : Nat)
  | blockRelease (g block : Nat)
  | tableLoadLateSwitch (g : Nat)
  | tableSwitchLimit (g : Nat)
  -- I²C
  | i2cXfer (grp : Nat) (script : List Byte)
  | i2cWrite (grp : Nat) (answer : I2cAnswer)
  | i2cRead (grp : Nat) (answer : I2cAnswer)
  | i2cWriteRead (grp : Nat) (answer : I2cAnswer)
  | i2cDelay (grp : Nat)
  | i2cEnd (grp : Nat)
  | i2cTimeout (grp : Nat)
  -- groom
  | groomCycleStart
  | groomEpochCommit
  | groomAccept (number : Nat)
  | biasScriptGiveUp (g : Nat)
  -- sieve
  | chainInput (c : Nat)
  | chainSettled (c : Nat)
  | sieveEvaluation
  -- jobs and yards
  | jobLoad (slot : Nat)
  | jobUnload (slot : Nat)
  | jobLoadDone (slot : Nat)
  | yardReadmit (y member : Nat)
  | haloArrival (s layer : Nat)
  | haloDeadline (s layer : Nat)
  -- leaf work
  | ingressBlockConsume (s : Nat)
  | sheafSeal (s layer : Nat)
  | spikeLayerStart (s layer : Nat)
  | denseLayerStart (s layer : Nat)
  | detectListMerge (slot layer : Nat)
  | gleanVisit (s layer port y x channel : Nat)
  | timingErrorReplay (s successive : Nat)
  | replayEmergency (s : Nat)
  -- supply loop
  | supplyWindowEnd
  | supplyConfirmTimeout
  | supplySettled
  | throttleEnd (s : Nat)
  | holdoffEnd
  -- PMBus
  | operationOn (slot : Nat) (a : PmbAnswer)
  | operationOff (slot : Nat) (a : PmbAnswer)
  | voutCommand (slot : Nat) (a : PmbAnswer)
  | readVout (slot : Nat) (word : Nat) (a : PmbAnswer)
  | statusWord (slot : Nat) (word : Nat) (a : PmbAnswer)
  | pmbusStretchTimeout
  | pmbAlert
  | pgoodRise (slot : Nat)
  | pgoodFall (slot : Nat)
  | pgoodTimeout (slot : Nat)
  -- troughs and barrow
  | tailAdvance (t : Nat)
  | headWrite (t h : Nat)
  | pop (t offset len : Nat) (check : ReadCheck)
  | chanStart (c : Nat)
  | chanPause (c : Nat)
  | chanResume (c : Nat)
  | chanStop (c : Nat)
  | engineTurn (e : Nat)
  | descriptorEnd (e : Nat) (how : MoveEnd)
  | pauseDrained (c moved : Nat)
  -- memory
  | gddr6TrainingDone (half : Nat) (rate : Nat) (devices : Nat)
  | gddr6ZeroingDone (half : Nat)
  | memRetrain (channel : Nat) (ok : Bool) (moved10C : Bool)
  | memScrubRead (badBytes : Nat)
  | scrubWriteback
  | ceLimitExceeded (channel : Nat)
  | granarySweep (corrected : Nat) (bad : List Nat)
  -- host link
  | usb4LinkUp (rate : Nat)
  | pcieTunnelUp
  | busMasterEnter
  | busMasterExit (d3hot : Bool)
  | pcieFunctionReset
  | usb4LinkLoss
  | bar2Access (isWrite : Bool) (offset len : Nat) (data : List Byte)
  | timeSecondsLatch
  | statusClearOnRead (offset : Nat)
  | timeNowLatch
  | recoveryIdentify (h : RecHdr)
  | recoveryLoad (h : RecHdr) (offset : Nat) (bytes : List Byte)
  | recoveryBoot (h : RecHdr) (len : Nat)
  | recoveryStatus (h : RecHdr)
  -- time unit and PTP
  | timeSet (ns : Nat)
  | syncRx (h : PtpHdr) (twoStep : Bool) (origin : Nat)
  | followUpRx (h : PtpHdr) (preciseOrigin : Nat)
  | delayRespRx (h : PtpHdr) (receive : Nat)
  | announceRx (h : PtpHdr) (a : AnnounceData)
  | delayReqRx (h : PtpHdr)
  | pdelayReqRx (h : PtpHdr) (txStamp : Nat)
  | pdelayRespRx (h : PtpHdr)
  | managementRx (h : PtpHdr)
  | syncTx (txStamp : Nat)
  | announceTx
  | delayReqTx (txStamp : Option Nat)
  | pdelayReqTx (port : Nat) (txStamp : Option Nat)
  | announceTimeout
  | syncTimeout
  | followUpTimeout
  | gsyncPulseEnd
  | toutPulse (i : Nat)
  | toutPulseEnd (i : Nat)
  | tcapEdge (i : Nat) (rising : Bool) (stableNs : Nat)
  | clockLoss (c : LostClock)
  -- fieldnet
  | heartbeat (f : YardFrame)
  | halo (f : YardFrame)
  | delivery (f : YardFrame)
  | records (f : YardFrame)
  | tracks (f : YardFrame)
  | remap (f : YardFrame)
  | peerLost (node : Nat)
  | remapDeadline
  | portLinkUp (p : Nat)
  | portLinkDown (p : Nat)
  | arpRequest (p target : Nat)
  | icmpEchoRequest (p : Nat) (v6 : Bool) (target source : Nat) (data : List Byte)
  | neighbourSolicitation (p target : Nat)
  | unwantedFrame (p : Nat) (why : Unwanted)
  -- power
  | domainPhaseReady (d : Nat)
  | domainSwitchesOpen (d : Nat)
  | quiesceDone (d : Nat)
  | quiesceTimeout (d : Nat)
  | switchFail (d : Nat)
  | wakeInput (n : Nat) (w : WakeSignal)
  | wakeClear (mask : Nat)
  | retainedSleep
  | deepSleep
  | pclkTrim
  | powerOnReset
  | resetNAssert (lowNs : Nat)
  | resetNRelease (bootsel : Nat)
  -- boot and security
  | firmwareStart
  | bootReset
  | qspiWriteImage
  | qspiWriteConfig
  | qspiErasePointer
  | qspiWriteDone (flashError : Bool)
  | rollbackAdvance (value : Nat)
  | fwWatchdog
  -- faults and muck-out
  | paddockResetDone
  | faultClear (b mask : Nat)
  | faultForce (b mask : Nat)
  | faultClearCounts (b : Nat)
  | muckPassStart (u : Nat)
  | sliceStart (u : Nat)
  | slicePreempt (u : Nat) (why : PreemptCause)
  | sliceEnd (u : Nat) (observed : Nat)
  | muckRequest (u : Nat)
  | muckRelease (s : Nat)
  -- rows that the table lists last
  | deskewSequence (g : Nat) (aligned : Bool)
  | powerOnResetRelease (resetNHigh : Bool) (bootsel : Nat)
  | wakeRelease (n : Nat)
  | frameErrorRx (p : Nat) (why : FrameError)
  | qualificationTimeout
  | troughResetDone
  deriving DecidableEq, Repr

end Sys2Proof
end

