-- ==== Sys2Proof/Config.lean ====
section
/-!
DEFINITION. What one part fixes and what the manual leaves open. Every `opaque` here is a free value: nothing in Lean
can evaluate it, and a statement holds for every value of it. Each is named in the assumption log (entries 4 to 7).
-/
namespace Sys2Proof.Config

/-- SHAKE256 with 32-byte output (R179, R499, R506): the manual names the function and does not define it. -/
opaque shake256 : List Byte → Vector Byte 32
/-- ML-DSA-65 verification (R61, R178, R499, R504): public key, context string, signed data, signature. -/
opaque verify : List Byte → List Byte → List Byte → List Byte → Bool
/-- ML-DSA-65 signature of the identity key over a message under a context (R505, R506). -/
opaque identitySign : List Byte → List Byte → List Byte
/-- ID.SERIAL, fixed per part. -/
opaque serial : BitVec 64
/-- PTP.CLOCK_ID, fixed per part. -/
opaque clockId : BitVec 64
/-- Default PORT.MAC of port p, fixed per part. -/
opaque portMac : Nat → BitVec 48
/-- SEC.ID_PUBKEY and SEC.ID_CERT, fixed per part (R505). -/
opaque idPubkey : List Byte
opaque idCert : List Byte
/-- OTP hash of root slot r (R499). -/
opaque rootHash : Nat → Vector Byte 32
/-- Whether the part is a CT32-KB (R3); otherwise it is a CT32-XB. -/
opaque isKB : Bool
/-- The signature muck-out's ROM expects of a slice of a unit (R489). -/
opaque muckExpected : Nat → Nat → BitVec 32
/-- Whether a codeword beyond the guaranteed detection of R367 is miscorrected: block address, erroneous bytes. -/
opaque miscorrects : Nat → Nat → Bool
/-- Where the device has put buffer `b` of output record `o` for leaf `l` of slot `j` in the job area (R229, R264): the
manual gives the area and no places in it. -/
opaque jobBuffer : Nat → Nat → Nat → Nat → Nat
/-- What a byte that is undefined after a failed barrow move reads as (R356, R360): address, draw number. -/
opaque undefinedByte : Nat → Nat → Byte
/-- A value that the manual leaves open, by draw number; `State.draws` counts the draws. -/
opaque freeNat : Nat → Nat
/-- The rotation in µrad of a fit whose co-observations allow every rotation alike (R138): the sums of the fit. -/
opaque alignAngle : Int → Int → Int
/-- A correction (dx, dy, dθ) scaled down to the limits of R139, whose rounding the manual does not state. It counts only where it
is a scaling that meets the limits (`scaledOk`). -/
opaque alignScale : Int × Int × Int → Nat → Nat → Int × Int × Int
/-- Whether a quotient that is not exact is rounded up, where the manual states no rounding: dividend, divisor. -/
opaque roundBit : Int → Nat → Bool
/-- Which fault block's record, and which stalls' marks, an uncorrectable word of the granary damages (R384, R482, MARK_LOST):
the manual gives the areas and not the places in them. -/
opaque granarySlot : Nat → Nat
opaque granaryMarks : Nat → BitVec 32
/-- Whether the root of n / d is rounded up where it is no integer, and the manual states no rounding. -/
opaque rootUp : Nat → Nat → Bool
/-- What an access to an object of 0xF000 to 0xFFFF answers, by draw number (R9): a place in the table of aborts, and the bytes
of a value; the type code of such an object, and the objects of an index (subindex, type, access, elements), which change
between firmware releases. -/
opaque diagAnswer : Nat → Nat × List Byte
opaque diagType : Nat → Nat
opaque diagIndex : Nat → List (Nat × Nat × Nat × Nat)
/-- What a byte reads as in an area whose contents the manual names and does not lay out, by address and draw number (R376,
R377). -/
opaque areaByte : Nat → Nat → Byte
/-- A raw sensor-time record of the quarantine area (R97), whose layout the manual does not state: sensor time, x, y, polarity. -/
opaque quarantineRecord : Int → Nat → Nat → Bool → BitVec 64
/-- What a byte of a staged DOMAIN that no chunk has brought yet reads as (R47, R65): address, offset. -/
opaque gapByte : Nat → Nat → Byte
/-- How many slices of a pass fall to section i of a unit of a kind (R484 gives their order only). -/
opaque sectionSlices : Nat → Nat → Nat
end Sys2Proof.Config
end

