-- ==== Sys2Proof/Machine/FaultTable.lean ====
section
/-!
DEFINITION. The fault sources of the 93 fault blocks (R469, R470): for each kind of block the sources that its chapter
lists, with severity and default reactions (R473's bit layout: bit 0 CPI, 1 NMI, 2 BLOCK_RESET, 3 CHIP_RESET, 4 PIN).
-/
namespace Sys2Proof.Machine

/-- A row of a chapter's table of fault sources: number, severity 0 NOTE to 3 GRAVE, default reactions. -/
structure FaultSource where
  src : Nat
  severity : Nat
  react : Nat
  deriving DecidableEq, Repr

namespace Src

/-- PAIR_STORE (chapter 02). -/
abbrev dictPairStore : Nat := 0
/-- PAIR_STORE_HOLD (chapter 02). -/
abbrev dictPairStoreHold : Nat := 1
/-- STORE_ECC (chapter 02). -/
abbrev dictStoreEcc : Nat := 2
/-- STORE_UNCORRECTABLE (chapter 02). -/
abbrev dictStoreUncorrectable : Nat := 3
/-- AUTH_BURST (chapter 02). -/
abbrev dictAuthBurst : Nat := 4
/-- FIFO_OVERFLOW (chapter 03). -/
abbrev gateFifoOverflow : Nat := 0
/-- HEADER_ECC (chapter 03). -/
abbrev gateHeaderEcc : Nat := 1
/-- PAYLOAD_CRC (chapter 03). -/
abbrev gatePayloadCrc : Nat := 2
/-- DESKEW_FAIL (chapter 03). -/
abbrev gateDeskewFail : Nat := 3
/-- UNHITCHED (chapter 03). -/
abbrev gateUnhitched : Nat := 4
/-- TIME_DISCONTINUITY (chapter 03). -/
abbrev gateTimeDiscontinuity : Nat := 5
/-- SILENT (chapter 03). -/
abbrev gateSilent : Nat := 6
/-- RING_FULL (chapter 03). -/
abbrev gateRingFull : Nat := 7
/-- TABLE_PARITY (chapter 03). -/
abbrev gateTableParity : Nat := 8
/-- MASK_ECC (chapter 03). -/
abbrev gateMaskEcc : Nat := 9
/-- SAFETY_COVERAGE (chapter 03). -/
abbrev gateSafetyCoverage : Nat := 10
/-- I2C_ERROR (chapter 03). -/
abbrev gateI2cError : Nat := 11
/-- WORK_ECC (chapter 04). -/
abbrev groomWorkEcc : Nat := 0
/-- WORK_UNCORRECTABLE (chapter 04). -/
abbrev groomWorkUncorrectable : Nat := 1
/-- SAMPLE_SKIPPED (chapter 04). -/
abbrev groomSampleSkipped : Nat := 2
/-- TIME_LIMIT (chapter 04). -/
abbrev groomTimeLimit : Nat := 3
/-- ALIGN_CHECK (chapter 04). -/
abbrev groomAlignCheck : Nat := 4
/-- ALIGN_IMPLAUSIBLE (chapter 04). -/
abbrev groomAlignImplausible : Nat := 5
/-- EPOCH_REFUSED (chapter 04). -/
abbrev groomEpochRefused : Nat := 6
/-- PROPOSAL_DROPPED (chapter 04). -/
abbrev groomProposalDropped : Nat := 7
/-- BIAS_SCRIPT_FAIL (chapter 04). -/
abbrev groomBiasScriptFail : Nat := 8
/-- HOT_LIMIT (chapter 04). -/
abbrev groomHotLimit : Nat := 9
/-- STATE_PARITY (chapter 05). -/
abbrev sieveStateParity : Nat := 0
/-- SATURATION (chapter 05). -/
abbrev sieveSaturation : Nat := 1
/-- EPOCH_REFUSED (chapter 05). -/
abbrev sieveEpochRefused : Nat := 2
/-- FLICKER_LOST (chapter 05). -/
abbrev sieveFlickerLost : Nat := 3
/-- LATE_SHED (chapter 06). -/
abbrev stallLateShed : Nat := 0
/-- HALO_ZERO_FILL (chapter 06). -/
abbrev stallHaloZeroFill : Nat := 1
/-- STEP_MISSED (chapter 06). -/
abbrev stallStepMissed : Nat := 2
/-- STORE_ECC (chapter 06). -/
abbrev stallStoreEcc : Nat := 3
/-- STORE_UNCORRECTABLE (chapter 06). -/
abbrev stallStoreUncorrectable : Nat := 4
/-- OUT_OF_SERVICE (chapter 06). -/
abbrev stallOutOfService : Nat := 5
/-- ROWS_RESTARTED (chapter 06). -/
abbrev stallRowsRestarted : Nat := 6
/-- QUEUE_PARITY (chapter 06). -/
abbrev stallQueueParity : Nat := 7
/-- CONTRIB_PARITY (chapter 07). -/
abbrev stallContribParity : Nat := 8
/-- GLEAN_OVERRUN (chapter 07). -/
abbrev stallGleanOverrun : Nat := 9
/-- ROW_TRUNCATED (chapter 07). -/
abbrev stallRowTruncated : Nat := 10
/-- OVERDRIVE_LIMIT (chapter 07). -/
abbrev stallOverdriveLimit : Nat := 11
/-- RECORDS_DROPPED (chapter 07). -/
abbrev stallRecordsDropped : Nat := 12
/-- ARRAY_PARITY (chapter 08). -/
abbrev stallArrayParity : Nat := 13
/-- EXPANSION_PARITY (chapter 08). -/
abbrev stallExpansionParity : Nat := 14
/-- WEIGHT_ECC (chapter 08). -/
abbrev stallWeightEcc : Nat := 15
/-- SHEAF_SATURATION (chapter 08). -/
abbrev stallSheafSaturation : Nat := 16
/-- BOXES_DROPPED (chapter 08). -/
abbrev stallBoxesDropped : Nat := 17
/-- WATCH_MISMATCH (chapter 09). -/
abbrev stallWatchMismatch : Nat := 18
/-- WATCH_FORCED (chapter 09). -/
abbrev stallWatchForced : Nat := 19
/-- REPLAY_EMERGENCY (chapter 09). -/
abbrev stallReplayEmergency : Nat := 20
/-- REPLAY_STUCK (chapter 09). -/
abbrev stallReplayStuck : Nat := 21
/-- BOUND_PARITY (chapter 09). -/
abbrev stallBoundParity : Nat := 22
/-- SUPPLY_CEILING (chapter 09). -/
abbrev powerSupplyCeiling : Nat := 16
/-- SUPPLY_PMBUS (chapter 09). -/
abbrev powerSupplyPmbus : Nat := 17
/-- VOTE_PARITY (chapter 16). -/
abbrev powerVoteParity : Nat := 0
/-- PMBUS_NACK (chapter 16). -/
abbrev powerPmbusNack : Nat := 1
/-- PMBUS_TIMEOUT (chapter 16). -/
abbrev powerPmbusTimeout : Nat := 2
/-- PMB_ALERT (chapter 16). -/
abbrev powerPmbAlert : Nat := 3
/-- PGOOD_TIMEOUT (chapter 16). -/
abbrev powerPgoodTimeout : Nat := 4
/-- PGOOD_LOST_CORE (chapter 16). -/
abbrev powerPgoodLostCore : Nat := 5
/-- PGOOD_LOST (chapter 16). -/
abbrev powerPgoodLost : Nat := 6
/-- VOUT_LIMIT (chapter 16). -/
abbrev powerVoutLimit : Nat := 7
/-- LIMIT_PAIR (chapter 16). -/
abbrev powerLimitPair : Nat := 8
/-- QUIESCE_TIMEOUT (chapter 16). -/
abbrev powerQuiesceTimeout : Nat := 9
/-- RESTORE_FAIL (chapter 16). -/
abbrev powerRestoreFail : Nat := 10
/-- SWITCH_FAIL (chapter 16). -/
abbrev powerSwitchFail : Nat := 11
/-- TRACK_ECC (chapter 10). -/
abbrev padTrackEcc : Nat := 0
/-- TRACK_UNCORRECTABLE (chapter 10). -/
abbrev padTrackUncorrectable : Nat := 1
/-- PAIR_PATH (chapter 10). -/
abbrev padPairPath : Nat := 2
/-- PIN_READBACK (chapter 10). -/
abbrev padPinReadback : Nat := 3
/-- WATCHDOG (chapter 10). -/
abbrev padWatchdog : Nat := 4
/-- OVERRUN (chapter 10). -/
abbrev padOverrun : Nat := 5
/-- SOLVE_CAPPED (chapter 10). -/
abbrev padSolveCapped : Nat := 6
/-- TRACKS_FULL (chapter 10). -/
abbrev padTracksFull : Nat := 7
/-- CONTRADICTION (chapter 10). -/
abbrev padContradiction : Nat := 8
/-- STEPS_DROPPED (chapter 10). -/
abbrev padStepsDropped : Nat := 9
/-- RING_ECC (chapter 11). -/
abbrev troughRingEcc : Nat := 0
/-- RING_UNCORRECTABLE (chapter 11). -/
abbrev troughRingUncorrectable : Nat := 1
/-- ENTRY_DROPPED (chapter 11). -/
abbrev troughEntryDropped : Nat := 2
/-- HEAD_REFUSED (chapter 11). -/
abbrev troughHeadRefused : Nat := 3
/-- HOST_WRITE (chapter 11). -/
abbrev troughHostWrite : Nat := 4
/-- POINTER_PARITY (chapter 11). -/
abbrev troughPointerParity : Nat := 5
/-- READ_UNCORRECTABLE (chapter 11). -/
abbrev barrowReadUncorrectable : Nat := 0
/-- HOST_ERROR (chapter 11). -/
abbrev barrowHostError : Nat := 1
/-- DESCRIPTOR_ERROR (chapter 11). -/
abbrev barrowDescriptorError : Nat := 2
/-- OVERLAP_REFUSED (chapter 11). -/
abbrev barrowOverlapRefused : Nat := 3
/-- BUFFER_PARITY (chapter 11). -/
abbrev barrowBufferParity : Nat := 4
/-- CORRECTED (chapter 12). -/
abbrev memCorrected : Nat := 0
/-- UNCORRECTABLE (chapter 12). -/
abbrev memUncorrectable : Nat := 1
/-- CHANNEL_DEGRADED (chapter 12). -/
abbrev memChannelDegraded : Nat := 2
/-- LINK_RETRY_FAIL (chapter 12). -/
abbrev memLinkRetryFail : Nat := 3
/-- TRAINING_FAIL (chapter 12). -/
abbrev memTrainingFail : Nat := 4
/-- RETRAIN_FAIL (chapter 12). -/
abbrev memRetrainFail : Nat := 5
/-- OFF_ACCESS (chapter 12). -/
abbrev memOffAccess : Nat := 6
/-- CONTROLLER_PARITY (chapter 12). -/
abbrev memControllerParity : Nat := 7
/-- LOFT_ECC (chapter 12). -/
abbrev loftLoftEcc : Nat := 0
/-- LOFT_UNCORRECTABLE (chapter 12). -/
abbrev loftLoftUncorrectable : Nat := 1
/-- OFF_ACCESS (chapter 12). -/
abbrev loftOffAccess : Nat := 2
/-- GRANARY_ECC (chapter 12). -/
abbrev granaryGranaryEcc : Nat := 0
/-- GRANARY_UNCORRECTABLE (chapter 12). -/
abbrev granaryGranaryUncorrectable : Nat := 1
/-- LINK_DOWN (chapter 13). -/
abbrev hostLinkDown : Nat := 0
/-- COMPLETION_ERROR (chapter 13). -/
abbrev hostCompletionError : Nat := 1
/-- POISONED_RX (chapter 13). -/
abbrev hostPoisonedRx : Nat := 2
/-- POISONED_TX (chapter 13). -/
abbrev hostPoisonedTx : Nat := 3
/-- BAR_ABSENT (chapter 13). -/
abbrev hostBarAbsent : Nat := 4
/-- TRANSPORT_RETRY (chapter 13). -/
abbrev hostTransportRetry : Nat := 5
/-- BUFFER_PARITY (chapter 13). -/
abbrev hostBufferParity : Nat := 6
/-- MASTER_LOST (chapter 14). -/
abbrev timeMasterLost : Nat := 0
/-- MASTER_CHANGED (chapter 14). -/
abbrev timeMasterChanged : Nat := 1
/-- OFFSET_LARGE (chapter 14). -/
abbrev timeOffsetLarge : Nat := 2
/-- RATE_LIMIT (chapter 14). -/
abbrev timeRateLimit : Nat := 3
/-- TIME_STEPPED (chapter 14). -/
abbrev timeTimeStepped : Nat := 4
/-- STAMP_LOST (chapter 14). -/
abbrev timeStampLost : Nat := 5
/-- TOUT_MISSED (chapter 14). -/
abbrev timeToutMissed : Nat := 6
/-- CONFIG_PARITY (chapter 14). -/
abbrev timeConfigParity : Nat := 7
/-- TIME_PARITY (chapter 14). -/
abbrev timeTimeParity : Nat := 8
/-- TCLK_LOSS (chapter 14). -/
abbrev timeTclkLoss : Nat := 9
/-- LINK_DOWN (chapter 15). -/
abbrev portLinkDown : Nat := 0
/-- RX_ERROR (chapter 15). -/
abbrev portRxError : Nat := 1
/-- RX_OVERFLOW (chapter 15). -/
abbrev portRxOverflow : Nat := 2
/-- BUFFER_PARITY (chapter 15). -/
abbrev portBufferParity : Nat := 3
/-- PEER_LOST (chapter 15). -/
abbrev portPeerLost : Nat := 8
/-- NODE_CONFLICT (chapter 15). -/
abbrev portNodeConflict : Nat := 9
/-- FRAME_INVALID (chapter 15). -/
abbrev portFrameInvalid : Nat := 10
/-- REMAP_INCOMPLETE (chapter 15). -/
abbrev portRemapIncomplete : Nat := 11
/-- CP_ECC (chapter 17). -/
abbrev cpCpEcc : Nat := 0
/-- CP_UNCORRECTABLE (chapter 17). -/
abbrev cpCpUncorrectable : Nat := 1
/-- FW_WATCHDOG (chapter 17). -/
abbrev cpFwWatchdog : Nat := 2
/-- FW_ASSERT (chapter 17). -/
abbrev cpFwAssert : Nat := 3
/-- CCLK_LOSS (chapter 17). -/
abbrev cpCclkLoss : Nat := 4
/-- QSPI_ECC (chapter 17). -/
abbrev cpQspiEcc : Nat := 5
/-- UNIT_FAIL (chapter 17). -/
abbrev muckUnitFail : Nat := 0
/-- STALL_MARKED (chapter 17). -/
abbrev muckStallMarked : Nat := 1
/-- COVERAGE_LATE (chapter 17). -/
abbrev muckCoverageLate : Nat := 2
/-- RESULT_DROPPED (chapter 17). -/
abbrev muckResultDropped : Nat := 3
/-- ENGINE_PARITY (chapter 17). -/
abbrev muckEngineParity : Nat := 4
/-- MARK_LOST (chapter 17). -/
abbrev muckMarkLost : Nat := 5
/-- FW_SIGNATURE (chapter 18). -/
abbrev secFwSignature : Nat := 0
/-- CONFIG_REJECTED (chapter 18). -/
abbrev secConfigRejected : Nat := 1
/-- QSPI_WRITE_FAIL (chapter 18). -/
abbrev secQspiWriteFail : Nat := 2
/-- OTP_ECC (chapter 18). -/
abbrev secOtpEcc : Nat := 3
/-- OTP_UNCORRECTABLE (chapter 18). -/
abbrev secOtpUncorrectable : Nat := 4
/-- BOOTSEL_RESERVED (chapter 18). -/
abbrev secBootselReserved : Nat := 5

end Src

/-- Sources of the dictionary server, block 92. -/
def dictSources : List FaultSource := [
  ⟨0, 2, 0x01⟩,
  ⟨1, 3, 0x12⟩,
  ⟨2, 1, 0x01⟩,
  ⟨3, 3, 0x12⟩,
  ⟨4, 0, 0x00⟩]
/-- Sources of the gate, blocks 0 to 35. -/
def gateSources : List FaultSource := [
  ⟨0, 1, 0x01⟩,
  ⟨1, 1, 0x01⟩,
  ⟨2, 1, 0x01⟩,
  ⟨3, 1, 0x01⟩,
  ⟨4, 1, 0x01⟩,
  ⟨5, 1, 0x01⟩,
  ⟨6, 0, 0x00⟩,
  ⟨7, 2, 0x01⟩,
  ⟨8, 2, 0x05⟩,
  ⟨9, 1, 0x01⟩,
  ⟨10, 2, 0x01⟩,
  ⟨11, 0, 0x00⟩]
/-- Sources of the groom, block 73. -/
def groomSources : List FaultSource := [
  ⟨0, 1, 0x01⟩,
  ⟨1, 2, 0x05⟩,
  ⟨2, 0, 0x00⟩,
  ⟨3, 1, 0x01⟩,
  ⟨4, 1, 0x01⟩,
  ⟨5, 1, 0x01⟩,
  ⟨6, 1, 0x01⟩,
  ⟨7, 0, 0x00⟩,
  ⟨8, 1, 0x01⟩,
  ⟨9, 0, 0x00⟩]
/-- Sources of the sieve, block 74. -/
def sieveSources : List FaultSource := [
  ⟨0, 2, 0x05⟩,
  ⟨1, 0, 0x00⟩,
  ⟨2, 1, 0x01⟩,
  ⟨3, 0, 0x00⟩]
/-- Sources of the stall, blocks 36 to 67. -/
def stallSources : List FaultSource := [
  ⟨0, 1, 0x01⟩,
  ⟨1, 1, 0x01⟩,
  ⟨2, 1, 0x01⟩,
  ⟨3, 1, 0x01⟩,
  ⟨4, 2, 0x05⟩,
  ⟨5, 2, 0x01⟩,
  ⟨6, 0, 0x00⟩,
  ⟨7, 2, 0x05⟩,
  ⟨8, 2, 0x05⟩,
  ⟨9, 2, 0x01⟩,
  ⟨10, 1, 0x01⟩,
  ⟨11, 0, 0x00⟩,
  ⟨12, 0, 0x00⟩,
  ⟨13, 2, 0x05⟩,
  ⟨14, 2, 0x05⟩,
  ⟨15, 1, 0x01⟩,
  ⟨16, 0, 0x00⟩,
  ⟨17, 0, 0x00⟩,
  ⟨18, 1, 0x01⟩,
  ⟨19, 0, 0x00⟩,
  ⟨20, 1, 0x01⟩,
  ⟨21, 2, 0x05⟩,
  ⟨22, 2, 0x05⟩]
/-- Sources of the power controller, block 88. -/
def powerSources : List FaultSource := [
  ⟨0, 2, 0x01⟩,
  ⟨1, 1, 0x01⟩,
  ⟨2, 1, 0x01⟩,
  ⟨3, 0, 0x00⟩,
  ⟨4, 2, 0x01⟩,
  ⟨5, 3, 0x12⟩,
  ⟨6, 2, 0x01⟩,
  ⟨7, 1, 0x01⟩,
  ⟨8, 3, 0x12⟩,
  ⟨9, 1, 0x01⟩,
  ⟨10, 1, 0x01⟩,
  ⟨11, 2, 0x01⟩,
  ⟨16, 2, 0x01⟩,
  ⟨17, 1, 0x01⟩]
/-- Sources of the paddock, block 72. -/
def padSources : List FaultSource := [
  ⟨0, 1, 0x01⟩,
  ⟨1, 2, 0x05⟩,
  ⟨2, 3, 0x12⟩,
  ⟨3, 3, 0x12⟩,
  ⟨4, 2, 0x01⟩,
  ⟨5, 0, 0x00⟩,
  ⟨6, 0, 0x00⟩,
  ⟨7, 1, 0x01⟩,
  ⟨8, 1, 0x01⟩,
  ⟨9, 1, 0x01⟩]
/-- Sources of the trough unit, block 83. -/
def troughSources : List FaultSource := [
  ⟨0, 1, 0x01⟩,
  ⟨1, 2, 0x01⟩,
  ⟨2, 0, 0x00⟩,
  ⟨3, 1, 0x01⟩,
  ⟨4, 2, 0x01⟩,
  ⟨5, 2, 0x05⟩]
/-- Sources of the barrow engine, blocks 75 to 82. -/
def barrowSources : List FaultSource := [
  ⟨0, 1, 0x01⟩,
  ⟨1, 1, 0x01⟩,
  ⟨2, 0, 0x00⟩,
  ⟨3, 0, 0x00⟩,
  ⟨4, 2, 0x05⟩]
/-- Sources of the memory half, blocks 69 and 70. -/
def memSources : List FaultSource := [
  ⟨0, 0, 0x00⟩,
  ⟨1, 2, 0x01⟩,
  ⟨2, 2, 0x01⟩,
  ⟨3, 2, 0x01⟩,
  ⟨4, 3, 0x12⟩,
  ⟨5, 2, 0x01⟩,
  ⟨6, 1, 0x01⟩,
  ⟨7, 2, 0x09⟩]
/-- Sources of the loft, block 68. -/
def loftSources : List FaultSource := [
  ⟨0, 1, 0x01⟩,
  ⟨1, 2, 0x01⟩,
  ⟨2, 1, 0x01⟩]
/-- Sources of the granary, block 71. -/
def granarySources : List FaultSource := [
  ⟨0, 1, 0x01⟩,
  ⟨1, 2, 0x01⟩]
/-- Sources of the host link, block 84. -/
def hostSources : List FaultSource := [
  ⟨0, 1, 0x01⟩,
  ⟨1, 1, 0x01⟩,
  ⟨2, 1, 0x01⟩,
  ⟨3, 0, 0x00⟩,
  ⟨4, 0, 0x00⟩,
  ⟨5, 0, 0x00⟩,
  ⟨6, 2, 0x05⟩]
/-- Sources of the time unit, block 87. -/
def timeSources : List FaultSource := [
  ⟨0, 1, 0x01⟩,
  ⟨1, 0, 0x00⟩,
  ⟨2, 1, 0x01⟩,
  ⟨3, 1, 0x01⟩,
  ⟨4, 0, 0x00⟩,
  ⟨5, 0, 0x00⟩,
  ⟨6, 0, 0x00⟩,
  ⟨7, 2, 0x01⟩,
  ⟨8, 3, 0x12⟩,
  ⟨9, 3, 0x12⟩]
/-- Sources of the fieldnet port, blocks 85 and 86. -/
def portSources : List FaultSource := [
  ⟨0, 1, 0x01⟩,
  ⟨1, 0, 0x00⟩,
  ⟨2, 1, 0x01⟩,
  ⟨3, 2, 0x05⟩]
/-- Sources of the fieldnet sources of block 85 only. -/
def port0Sources : List FaultSource := [
  ⟨8, 1, 0x01⟩,
  ⟨9, 2, 0x01⟩,
  ⟨10, 0, 0x00⟩,
  ⟨11, 2, 0x01⟩]
/-- Sources of the control processor, block 91. -/
def cpSources : List FaultSource := [
  ⟨0, 1, 0x01⟩,
  ⟨1, 2, 0x0A⟩,
  ⟨2, 2, 0x08⟩,
  ⟨3, 2, 0x0A⟩,
  ⟨4, 3, 0x1A⟩,
  ⟨5, 1, 0x01⟩]
/-- Sources of the muck-out, block 90. -/
def muckSources : List FaultSource := [
  ⟨0, 2, 0x01⟩,
  ⟨1, 1, 0x01⟩,
  ⟨2, 0, 0x00⟩,
  ⟨3, 0, 0x00⟩,
  ⟨4, 2, 0x05⟩,
  ⟨5, 1, 0x01⟩]
/-- Sources of the security, block 89. -/
def secSources : List FaultSource := [
  ⟨0, 2, 0x01⟩,
  ⟨1, 1, 0x01⟩,
  ⟨2, 2, 0x01⟩,
  ⟨3, 1, 0x01⟩,
  ⟨4, 3, 0x12⟩,
  ⟨5, 0, 0x00⟩]

/-! ### Block numbers (the table of fault blocks) -/

abbrev gateBlock (n : Nat) : Nat := n
abbrev stallBlock (s : Nat) : Nat := 36 + s
abbrev loftBlock : Nat := 68
abbrev halfBlock (h : Nat) : Nat := 69 + h
abbrev granaryBlock : Nat := 71
abbrev padBlock : Nat := 72
abbrev groomBlock : Nat := 73
abbrev sieveBlock : Nat := 74
abbrev barrowBlock (e : Nat) : Nat := 75 + e
abbrev troughBlock : Nat := 83
abbrev hostBlock : Nat := 84
abbrev portBlock (p : Nat) : Nat := 85 + p
abbrev timeBlock : Nat := 87
abbrev powerBlock : Nat := 88
abbrev secBlock : Nat := 89
abbrev muckBlock : Nat := 90
abbrev cpBlock : Nat := 91
abbrev dictBlock : Nat := 92

/-- The sources that block b has. -/
def faultSources (b : Nat) : List FaultSource :=
  if b < 36 then gateSources
  else if b < 68 then stallSources
  else if b = 68 then loftSources
  else if b < 71 then memSources
  else if b = 71 then granarySources
  else if b = 72 then padSources
  else if b = 73 then groomSources
  else if b = 74 then sieveSources
  else if b < 83 then barrowSources
  else if b = 83 then troughSources
  else if b = 84 then hostSources
  else if b = 85 then portSources ++ port0Sources
  else if b = 86 then portSources
  else if b = 87 then timeSources
  else if b = 88 then powerSources
  else if b = 89 then secSources
  else if b = 90 then muckSources
  else if b = 91 then cpSources
  else if b = 92 then dictSources
  else []

/-- FAULT.PRESENT of block b. -/
def faultPresent (b : Nat) : Nat := (faultSources b).foldl (fun m f => m + 2 ^ f.src) 0
/-- The severity of source i of block b, where the source exists. -/
def faultSeverity (b i : Nat) : Option Nat := ((faultSources b).find? (fun f => f.src == i)).map (·.severity)
/-- Default reactions of source i of block b; 0 for a source that does not exist. -/
def faultReact (b i : Nat) : Nat := (((faultSources b).find? (fun f => f.src == i)).map (·.react)).getD 0
/-- The GRAVE sources of block b as a mask. -/
def faultGrave (b : Nat) : Nat :=
  (faultSources b).foldl (fun m f => if f.severity = 3 then m + 2 ^ f.src else m) 0
/-- Whether BLOCK_RESET can be chosen as a reaction in block b (the table of fault blocks; R385, R425, R468). -/
def hasBlockReset (b : Nat) : Bool :=
  b < 68 || (72 ≤ b && b ≤ 86) || b == 90

end Sys2Proof.Machine
end

