-- ==== Sys2Proof/Machine/ObjNames.lean ====
section
/-!
DEFINITION. The address of every object of the dictionary under its manual name: index × 0x100 + subindex (R49). A family
of numbered units takes the unit number. The number after a name is the chapter that gives the object.
-/
namespace Sys2Proof.Machine.Obj

/-- STEP.PERIOD (01). -/
abbrev stepPeriod : Nat := 0x501001
/-- STEP.STRETCH (01). -/
abbrev stepStretch : Nat := 0x501002
/-- STEP.T0_SEC (01). -/
abbrev stepT0Sec : Nat := 0x501003
/-- STEP.T0_NS (01). -/
abbrev stepT0Ns : Nat := 0x501004
/-- STEP.OPEN (01). -/
abbrev stepOpen : Nat := 0x501005
/-- STEP.FUSED (01). -/
abbrev stepFused : Nat := 0x501006
/-- STEP.STRETCHED (01). -/
abbrev stepStretched : Nat := 0x501007
/-- STEP.LIMIT_CLOSED (01). -/
abbrev stepLimitClosed : Nat := 0x501008
/-- STEP.SILENT_GATES (01). -/
abbrev stepSilentGates : Nat := 0x501009
/-- STEP.LATE_CARRIED (01). -/
abbrev stepLateCarried : Nat := 0x50100A
/-- STEP.LATE_SHED (01). -/
abbrev stepLateShed : Nat := 0x50100B
/-- ID.VENDOR (02). -/
abbrev idVendor : Nat := 0x100001
/-- ID.PART (02). -/
abbrev idPart : Nat := 0x100002
/-- ID.SILICON (02). -/
abbrev idSilicon : Nat := 0x100003
/-- ID.ORDERING (02). -/
abbrev idOrdering : Nat := 0x100004
/-- ID.SERIAL (02). -/
abbrev idSerial : Nat := 0x100005
/-- ID.FIRMWARE (02). -/
abbrev idFirmware : Nat := 0x100006
/-- ID.DICT_VERSION (02). -/
abbrev idDictVersion : Nat := 0x100007
/-- FAMILY.STALLS (02). -/
abbrev familyStalls : Nat := 0x100101
/-- FAMILY.GATES (02). -/
abbrev familyGates : Nat := 0x100102
/-- FAMILY.GDDR6_DEVICES (02). -/
abbrev familyGddr6Devices : Nat := 0x100103
/-- FAMILY.CROP_RESIZE (02). -/
abbrev familyCropResize : Nat := 0x100104
/-- FAMILY.FIELDNET_GBPS (02). -/
abbrev familyFieldnetGbps : Nat := 0x100105
/-- FAMILY.MAX_NODES (02). -/
abbrev familyMaxNodes : Nat := 0x100106
/-- FAMILY.TROUGHS (02). -/
abbrev familyTroughs : Nat := 0x100107
/-- FAMILY.YARDS (02). -/
abbrev familyYards : Nat := 0x100108
/-- FAMILY.JOB_SLOTS (02). -/
abbrev familyJobSlots : Nat := 0x100109
/-- BALE.COMMIT (02). -/
abbrev baleCommit : Nat := 0x110001
/-- BALE.STAGED (02). -/
abbrev baleStaged : Nat := 0x110002
/-- BALE.BYTES (02). -/
abbrev baleBytes : Nat := 0x110003
/-- BALE.APPLY_STEP (02). -/
abbrev baleApplyStep : Nat := 0x110004
/-- BALE.LAST_ABORT (02). -/
abbrev baleLastAbort : Nat := 0x110005
/-- BALE.LAST_DETAIL (02). -/
abbrev baleLastDetail : Nat := 0x110006
/-- BALE.APPLIED_STEP (02). -/
abbrev baleAppliedStep : Nat := 0x110007
/-- BALE.WAITING (02). -/
abbrev baleWaiting : Nat := 0x110008
/-- MBX.REQUIRE_SIGNED (02). -/
abbrev mbxRequireSigned : Nat := 0x110009
/-- SDP.ENABLE (02). -/
abbrev sdpEnable : Nat := 0x120001
/-- SDP.READ_SIGNED (02). -/
abbrev sdpReadSigned : Nat := 0x120002
/-- SDP.SESSION_TIMEOUT (02). -/
abbrev sdpSessionTimeout : Nat := 0x120003
/-- SDP.RSP_DATAGRAM (02). -/
abbrev sdpRspDatagram : Nat := 0x120004
/-- SDP.SESSIONS_OPEN (02). -/
abbrev sdpSessionsOpen : Nat := 0x120005
/-- SDP.RX_DROPPED (02). -/
abbrev sdpRxDropped : Nat := 0x120006
/-- SDP.AUTH_FAILS (02). -/
abbrev sdpAuthFails : Nat := 0x120007
/-- SDP.STALE (02). -/
abbrev sdpStale : Nat := 0x120008
/-- SDP.SLOT_SEQUENCE (02). -/
abbrev sdpSlotSequence : Nat := 0x120101
/-- GATE.GANG (03). -/
abbrev gateGang : Nat := 0x200001
/-- GATE.SAFETY_LO (03). -/
abbrev gateSafetyLo : Nat := 0x200002
/-- GATE.SAFETY_HI (03). -/
abbrev gateSafetyHi : Nat := 0x200003
/-- GATE.RATE_BIN (03). -/
abbrev gateRateBin : Nat := 0x200004
/-- I2C.FAST (03). -/
abbrev i2cFast : Nat := 0x200005
/-- I2C.TIMEOUT (03). -/
abbrev i2cTimeout : Nat := 0x200006
/-- I2C.SETUP_g (03). -/
abbrev i2cSetup (u : Nat) : Nat := 0x200010 + u
/-- I2C.XFER_g (03). -/
abbrev i2cXfer (u : Nat) : Nat := 0x200018 + u
/-- I2C.RESULT_g (03). -/
abbrev i2cResult (u : Nat) : Nat := 0x200020 + u
/-- I2C.STATE_g (03). -/
abbrev i2cState (u : Nat) : Nat := 0x200028 + u
/-- GATE.RUN (03). -/
abbrev gateRun (u : Nat) : Nat := 0x210001 + u * 0x100
/-- GATE.LANES (03). -/
abbrev gateLanes (u : Nat) : Nat := 0x210002 + u * 0x100
/-- GATE.LANE_RATE (03). -/
abbrev gateLaneRate (u : Nat) : Nat := 0x210003 + u * 0x100
/-- GATE.CLOCK_MODE (03). -/
abbrev gateClockMode (u : Nat) : Nat := 0x210004 + u * 0x100
/-- GATE.LANE_INVERT (03). -/
abbrev gateLaneInvert (u : Nat) : Nat := 0x210005 + u * 0x100
/-- GATE.VC_MASK (03). -/
abbrev gateVcMask (u : Nat) : Nat := 0x210006 + u * 0x100
/-- GATE.WIDTH (03). -/
abbrev gateWidth (u : Nat) : Nat := 0x210007 + u * 0x100
/-- GATE.HEIGHT (03). -/
abbrev gateHeight (u : Nat) : Nat := 0x210008 + u * 0x100
/-- GATE.REFRACTORY (03). -/
abbrev gateRefractory (u : Nat) : Nat := 0x210009 + u * 0x100
/-- GATE.HITCH_MODE (03). -/
abbrev gateHitchMode (u : Nat) : Nat := 0x21000A + u * 0x100
/-- GATE.RELOCK_WINDOW (03). -/
abbrev gateRelockWindow (u : Nat) : Nat := 0x21000B + u * 0x100
/-- GATE.JUMP_LIMIT (03). -/
abbrev gateJumpLimit (u : Nat) : Nat := 0x21000C + u * 0x100
/-- GATE.STATE (03). -/
abbrev gateState (u : Nat) : Nat := 0x21000D + u * 0x100
/-- GATE.WATERMARK (03). -/
abbrev gateWatermark (u : Nat) : Nat := 0x21000E + u * 0x100
/-- GATE.RESIDUAL (03). -/
abbrev gateResidual (u : Nat) : Nat := 0x21000F + u * 0x100
/-- GATE.COUNT_OFFSET (03). -/
abbrev gateCountOffset (u : Nat) : Nat := 0x210010 + u * 0x100
/-- GATE.RING_BASE (03). -/
abbrev gateRingBase (u : Nat) : Nat := 0x210011 + u * 0x100
/-- GATE.FILED (03). -/
abbrev gateFiled (u : Nat) : Nat := 0x210012 + u * 0x100
/-- GATE.LATE_FILED (03). -/
abbrev gateLateFiled (u : Nat) : Nat := 0x210013 + u * 0x100
/-- GATE.DROPS (03). -/
abbrev gateDrops (u : Nat) : Nat := 0x210014 + u * 0x100
/-- GATE.WORD_COUNTS (03). -/
abbrev gateWordCounts (u : Nat) : Nat := 0x210015 + u * 0x100
/-- GATE.CLEAR (03). -/
abbrev gateClear (u : Nat) : Nat := 0x210016 + u * 0x100
/-- REBASE.SENSOR_REF (03). -/
abbrev rebaseSensorRef (u : Nat) : Nat := 0x220001 + u * 0x100
/-- REBASE.DEVICE_REF (03). -/
abbrev rebaseDeviceRef (u : Nat) : Nat := 0x220002 + u * 0x100
/-- REBASE.DEVICE_REF_FRAC (03). -/
abbrev rebaseDeviceRefFrac (u : Nat) : Nat := 0x220003 + u * 0x100
/-- REBASE.DRIFT (03). -/
abbrev rebaseDrift (u : Nat) : Nat := 0x220004 + u * 0x100
/-- REBASE.VALID (03). -/
abbrev rebaseValid (u : Nat) : Nat := 0x220005 + u * 0x100
/-- HOT.MASK (03). -/
abbrev hotMask (u : Nat) : Nat := 0x220006 + u * 0x100
/-- REGION.MAP (03). -/
abbrev regionMap (u : Nat) : Nat := 0x220007 + u * 0x100
/-- FLICKER.PERIOD (03). -/
abbrev flickerPeriod (u : Nat) : Nat := 0x220008 + u * 0x100
/-- FLICKER.ORIGIN (03). -/
abbrev flickerOrigin (u : Nat) : Nat := 0x220009 + u * 0x100
/-- FLICKER.START (03). -/
abbrev flickerStart (u : Nat) : Nat := 0x22000A + u * 0x100
/-- FLICKER.WIDTH (03). -/
abbrev flickerWidth (u : Nat) : Nat := 0x22000B + u * 0x100
/-- FLICKER.TILES (03). -/
abbrev flickerTiles (u : Nat) : Nat := 0x22000C + u * 0x100
/-- RATE.TILES (03). -/
abbrev rateTiles (u : Nat) : Nat := 0x22000D + u * 0x100
/-- GROOM.PERIOD (04). -/
abbrev groomPeriod : Nat := 0x280001
/-- GROOM.SAMPLE_SHIFT (04). -/
abbrev groomSampleShift : Nat := 0x280002
/-- GROOM.TROUGH (04). -/
abbrev groomTrough : Nat := 0x280003
/-- GROOM.MODE_HOT (04). -/
abbrev groomModeHot : Nat := 0x280004
/-- GROOM.MODE_TIME (04). -/
abbrev groomModeTime : Nat := 0x280005
/-- GROOM.MODE_ALIGN (04). -/
abbrev groomModeAlign : Nat := 0x280006
/-- GROOM.MODE_BIAS (04). -/
abbrev groomModeBias : Nat := 0x280007
/-- GROOM.LOCK_HOT (04). -/
abbrev groomLockHot : Nat := 0x280008
/-- GROOM.LOCK_TIME (04). -/
abbrev groomLockTime : Nat := 0x280009
/-- GROOM.LOCK_ALIGN (04). -/
abbrev groomLockAlign : Nat := 0x28000A
/-- GROOM.LOCK_BIAS (04). -/
abbrev groomLockBias : Nat := 0x28000B
/-- TIME.MIN_MARKERS (04). -/
abbrev timeMinMarkers : Nat := 0x280010
/-- TIME.WINDOW (04). -/
abbrev timeWindow : Nat := 0x280011
/-- TIME.OUTLIER (04). -/
abbrev timeOutlier : Nat := 0x280012
/-- TIME.OFFSET_STEP (04). -/
abbrev timeOffsetStep : Nat := 0x280013
/-- TIME.DRIFT_STEP (04). -/
abbrev timeDriftStep : Nat := 0x280014
/-- HOT.FACTOR (04). -/
abbrev hotFactor : Nat := 0x280018
/-- HOT.MIN_RATE (04). -/
abbrev hotMinRate : Nat := 0x280019
/-- HOT.PERSIST (04). -/
abbrev hotPersist : Nat := 0x28001A
/-- HOT.MAX_CHANGE (04). -/
abbrev hotMaxChange : Nat := 0x28001B
/-- HOT.MAX_MASKED (04). -/
abbrev hotMaxMasked : Nat := 0x28001C
/-- ALIGN.ANCHORS (04). -/
abbrev alignAnchors : Nat := 0x280020
/-- ALIGN.MIN_PAIRS (04). -/
abbrev alignMinPairs : Nat := 0x280021
/-- ALIGN.STEP_MM (04). -/
abbrev alignStepMm : Nat := 0x280022
/-- ALIGN.STEP_URAD (04). -/
abbrev alignStepUrad : Nat := 0x280023
/-- ALIGN.IMPLAUSIBLE_MM (04). -/
abbrev alignImplausibleMm : Nat := 0x280024
/-- ALIGN.WINDOW (04). -/
abbrev alignWindow : Nat := 0x280025
/-- BIAS.TARGET (04). -/
abbrev biasTarget : Nat := 0x280028
/-- BIAS.BAND (04). -/
abbrev biasBand : Nat := 0x280029
/-- BIAS.STEP (04). -/
abbrev biasStep : Nat := 0x28002A
/-- BIAS.MIN (04). -/
abbrev biasMin : Nat := 0x28002B
/-- BIAS.MAX (04). -/
abbrev biasMax : Nat := 0x28002C
/-- BIAS.SENSE (04). -/
abbrev biasSense : Nat := 0x28002D
/-- BIAS.POS (04). -/
abbrev biasPos : Nat := 0x28002E
/-- BIAS.NEG (04). -/
abbrev biasNeg : Nat := 0x28002F
/-- GROOM.ACCEPT (04). -/
abbrev groomAccept : Nat := 0x280030
/-- GROOM.NEXT_PROPOSAL (04). -/
abbrev groomNextProposal : Nat := 0x280032
/-- GROOM.CYCLES (04). -/
abbrev groomCycles : Nat := 0x280033
/-- GROOM.SAMPLES (04). -/
abbrev groomSamples : Nat := 0x280034
/-- GROOM.SAMPLES_SKIPPED (04). -/
abbrev groomSamplesSkipped : Nat := 0x280035
/-- GROOM.EPOCHS_APPLIED (04). -/
abbrev groomEpochsApplied : Nat := 0x280036
/-- GROOM.EPOCHS_REFUSED (04). -/
abbrev groomEpochsRefused : Nat := 0x280037
/-- GROOM.PROPOSALS_DROPPED (04). -/
abbrev groomProposalsDropped : Nat := 0x280038
/-- TIME.RMS (04). -/
abbrev timeRms : Nat := 0x280039
/-- TIME.MARKERS_USED (04). -/
abbrev timeMarkersUsed : Nat := 0x28003A
/-- ALIGN.PAIRS (04). -/
abbrev alignPairs : Nat := 0x28003B
/-- GROOM.SENSOR_STATUS (04). -/
abbrev groomSensorStatus : Nat := 0x28003C
/-- GROOM.HOT_COUNT (04). -/
abbrev groomHotCount : Nat := 0x28003D
/-- ALIGN.PAIRS_UNKEPT (04). -/
abbrev alignPairsUnkept : Nat := 0x28003E
/-- GROOM.BIAS_TEMPLATE_n (04). -/
abbrev groomBiasTemplate (u : Nat) : Nat := 0x280040 + u
/-- GROOM.HOT_PENDING_n (04). -/
abbrev groomHotPending (u : Nat) : Nat := 0x280080 + u
/-- SIEVE.UPDATE_PERIOD (05). -/
abbrev sieveUpdatePeriod : Nat := 0x2C0001
/-- SIEVE.EPOCHS_APPLIED (05). -/
abbrev sieveEpochsApplied : Nat := 0x2C0002
/-- SIEVE.EPOCHS_REFUSED (05). -/
abbrev sieveEpochsRefused : Nat := 0x2C0003
/-- SIEVE.PRESET_COEFF (05). -/
abbrev sievePresetCoeff : Nat := 0x2C0004
/-- SIEVE.PRESET_DELAY (05). -/
abbrev sievePresetDelay : Nat := 0x2C0005
/-- CHAIN.RUN (05). -/
abbrev chainRun (u : Nat) : Nat := 0x2C1001 + u * 0x100
/-- CHAIN.MODE (05). -/
abbrev chainMode (u : Nat) : Nat := 0x2C1002 + u * 0x100
/-- CHAIN.SOURCE (05). -/
abbrev chainSource (u : Nat) : Nat := 0x2C1003 + u * 0x100
/-- CHAIN.SOURCE_GATE (05). -/
abbrev chainSourceGate (u : Nat) : Nat := 0x2C1004 + u * 0x100
/-- CHAIN.SOURCE_TAP (05). -/
abbrev chainSourceTap (u : Nat) : Nat := 0x2C1005 + u * 0x100
/-- CHAIN.SOURCE_TRACK (05). -/
abbrev chainSourceTrack (u : Nat) : Nat := 0x2C1006 + u * 0x100
/-- CHAIN.DECIMATE (05). -/
abbrev chainDecimate (u : Nat) : Nat := 0x2C1007 + u * 0x100
/-- CHAIN.FIR_TAPS (05). -/
abbrev chainFirTaps (u : Nat) : Nat := 0x2C1008 + u * 0x100
/-- CHAIN.FIR_COEFF (05). -/
abbrev chainFirCoeff (u : Nat) : Nat := 0x2C1009 + u * 0x100
/-- CHAIN.SECTIONS (05). -/
abbrev chainSections (u : Nat) : Nat := 0x2C100A + u * 0x100
/-- CHAIN.BIQUAD (05). -/
abbrev chainBiquad (u : Nat) : Nat := 0x2C100B + u * 0x100
/-- CHAIN.PRESET (05). -/
abbrev chainPreset (u : Nat) : Nat := 0x2C100C + u * 0x100
/-- CHAIN.SETTLE (05). -/
abbrev chainSettle (u : Nat) : Nat := 0x2C100D + u * 0x100
/-- FLICKER.ENABLE (05). -/
abbrev flickerEnable (u : Nat) : Nat := 0x2C100E + u * 0x100
/-- FLICKER.WINDOW (05). -/
abbrev flickerWindow (u : Nat) : Nat := 0x2C100F + u * 0x100
/-- FLICKER.MIN_AMP (05). -/
abbrev flickerMinAmp (u : Nat) : Nat := 0x2C1010 + u * 0x100
/-- FLICKER.CYCLES (05). -/
abbrev flickerCycles (u : Nat) : Nat := 0x2C1011 + u * 0x100
/-- FLICKER.TOL (05). -/
abbrev flickerTol (u : Nat) : Nat := 0x2C1012 + u * 0x100
/-- FLICKER.DUTY (05). -/
abbrev flickerDuty (u : Nat) : Nat := 0x2C1013 + u * 0x100
/-- FLICKER.RELEASE (05). -/
abbrev flickerRelease (u : Nat) : Nat := 0x2C1014 + u * 0x100
/-- CHAIN.STATE (05). -/
abbrev chainState (u : Nat) : Nat := 0x2C1015 + u * 0x100
/-- CHAIN.DELAY (05). -/
abbrev chainDelay (u : Nat) : Nat := 0x2C1016 + u * 0x100
/-- CHAIN.INPUTS (05). -/
abbrev chainInputs (u : Nat) : Nat := 0x2C1017 + u * 0x100
/-- CHAIN.OUTPUTS (05). -/
abbrev chainOutputs (u : Nat) : Nat := 0x2C1018 + u * 0x100
/-- CHAIN.OUT_LAST (05). -/
abbrev chainOutLast (u : Nat) : Nat := 0x2C1019 + u * 0x100
/-- CHAIN.OUT_HISTORY (05). -/
abbrev chainOutHistory (u : Nat) : Nat := 0x2C101A + u * 0x100
/-- CHAIN.SATURATIONS (05). -/
abbrev chainSaturations (u : Nat) : Nat := 0x2C101B + u * 0x100
/-- CHAIN.GAPS (05). -/
abbrev chainGaps (u : Nat) : Nat := 0x2C101C + u * 0x100
/-- FLICKER.STATE (05). -/
abbrev flickerState (u : Nat) : Nat := 0x2C101D + u * 0x100
/-- FLICKER.PERIOD_EST (05). -/
abbrev flickerPeriodEst (u : Nat) : Nat := 0x2C101E + u * 0x100
/-- FLICKER.ORIGIN_EST (05). -/
abbrev flickerOriginEst (u : Nat) : Nat := 0x2C101F + u * 0x100
/-- FLICKER.START_EST (05). -/
abbrev flickerStartEst (u : Nat) : Nat := 0x2C1020 + u * 0x100
/-- FLICKER.WIDTH_EST (05). -/
abbrev flickerWidthEst (u : Nat) : Nat := 0x2C1021 + u * 0x100
/-- FLICKER.AMPLITUDE (05). -/
abbrev flickerAmplitude (u : Nat) : Nat := 0x2C1022 + u * 0x100
/-- YARD.MEMBERS (06). -/
abbrev yardMembers (u : Nat) : Nat := 0x300001 + u * 0x100
/-- YARD.TROUGH (06). -/
abbrev yardTrough (u : Nat) : Nat := 0x300002 + u * 0x100
/-- YARD.LEAD (06). -/
abbrev yardLead (u : Nat) : Nat := 0x300003 + u * 0x100
/-- YARD.MISS_LIMIT (06). -/
abbrev yardMissLimit (u : Nat) : Nat := 0x300004 + u * 0x100
/-- YARD.STATE (06). -/
abbrev yardState (u : Nat) : Nat := 0x300005 + u * 0x100
/-- YARD.ACTIVE (06). -/
abbrev yardActive (u : Nat) : Nat := 0x300006 + u * 0x100
/-- YARD.FAILED (06). -/
abbrev yardFailed (u : Nat) : Nat := 0x300007 + u * 0x100
/-- YARD.LEAVES (06). -/
abbrev yardLeaves (u : Nat) : Nat := 0x300008 + u * 0x100
/-- YARD.READMIT (06). -/
abbrev yardReadmit (u : Nat) : Nat := 0x300009 + u * 0x100
/-- YARD.STEPS (06). -/
abbrev yardSteps (u : Nat) : Nat := 0x30000A + u * 0x100
/-- YARD.PARTIAL_STEPS (06). -/
abbrev yardPartialSteps (u : Nat) : Nat := 0x30000B + u * 0x100
/-- YARD.LAST_STEP (06). -/
abbrev yardLastStep (u : Nat) : Nat := 0x30000C + u * 0x100
/-- YARD.REMAPS (06). -/
abbrev yardRemaps (u : Nat) : Nat := 0x30000D + u * 0x100
/-- YARD.REMAP_STEP (06). -/
abbrev yardRemapStep (u : Nat) : Nat := 0x30000E + u * 0x100
/-- STALL.STATE (06). -/
abbrev stallState (u : Nat) : Nat := 0x310001 + u * 0x100
/-- STALL.JOB (06). -/
abbrev stallJob (u : Nat) : Nat := 0x310002 + u * 0x100
/-- STALL.STEP_DONE (06). -/
abbrev stallStepDone (u : Nat) : Nat := 0x310003 + u * 0x100
/-- STALL.LATE_CARRIED (06). -/
abbrev stallLateCarried (u : Nat) : Nat := 0x310004 + u * 0x100
/-- STALL.LATE_SHED (06). -/
abbrev stallLateShed (u : Nat) : Nat := 0x310005 + u * 0x100
/-- STALL.LATE_FILL (06). -/
abbrev stallLateFill (u : Nat) : Nat := 0x310006 + u * 0x100
/-- STALL.HALO_WAITS (06). -/
abbrev stallHaloWaits (u : Nat) : Nat := 0x310007 + u * 0x100
/-- STALL.HALO_FILLED (06). -/
abbrev stallHaloFilled (u : Nat) : Nat := 0x310008 + u * 0x100
/-- STALL.STEPS_MISSED (06). -/
abbrev stallStepsMissed (u : Nat) : Nat := 0x310009 + u * 0x100
/-- STALL.FAILED_DISCARDS (06). -/
abbrev stallFailedDiscards (u : Nat) : Nat := 0x31000A + u * 0x100
/-- STALL.ROWS_RESTARTED (06). -/
abbrev stallRowsRestarted (u : Nat) : Nat := 0x31000B + u * 0x100
/-- STALL.CLEAR (06). -/
abbrev stallClear (u : Nat) : Nat := 0x31000C + u * 0x100
/-- JOB.RUN (06). -/
abbrev jobRun (u : Nat) : Nat := 0x320001 + u * 0x100
/-- JOB.IMAGE_ADDR (06). -/
abbrev jobImageAddr (u : Nat) : Nat := 0x320002 + u * 0x100
/-- JOB.IMAGE_LEN (06). -/
abbrev jobImageLen (u : Nat) : Nat := 0x320003 + u * 0x100
/-- JOB.YARD (06). -/
abbrev jobYard (u : Nat) : Nat := 0x320004 + u * 0x100
/-- JOB.GATES (06). -/
abbrev jobGates (u : Nat) : Nat := 0x320005 + u * 0x100
/-- JOB.LOAD (06). -/
abbrev jobLoad (u : Nat) : Nat := 0x320006 + u * 0x100
/-- JOB.STATE (06). -/
abbrev jobState (u : Nat) : Nat := 0x320007 + u * 0x100
/-- JOB.REJECT_DETAIL (06). -/
abbrev jobRejectDetail (u : Nat) : Nat := 0x320008 + u * 0x100
/-- JOB.ID (06). -/
abbrev jobId (u : Nat) : Nat := 0x320009 + u * 0x100
/-- JOB.DIGEST (06). -/
abbrev jobDigest (u : Nat) : Nat := 0x32000A + u * 0x100
/-- JOB.EPOCH_STEP (06). -/
abbrev jobEpochStep (u : Nat) : Nat := 0x32000B + u * 0x100
/-- JOB.STOP_STEP (06). -/
abbrev jobStopStep (u : Nat) : Nat := 0x32000C + u * 0x100
/-- JOB.AREA_KIB (06). -/
abbrev jobAreaKib (u : Nat) : Nat := 0x32000D + u * 0x100
/-- JOB.SIGNER (06). -/
abbrev jobSigner (u : Nat) : Nat := 0x32000E + u * 0x100
/-- SPIKE.GLEAN_SHARE (07). -/
abbrev spikeGleanShare (u : Nat) : Nat := 0x340001 + u * 0x100
/-- SPIKE.OVERDRIVE_LIMIT (07). -/
abbrev spikeOverdriveLimit (u : Nat) : Nat := 0x340002 + u * 0x100
/-- SPIKE.SYN_UPDATES (07). -/
abbrev spikeSynUpdates (u : Nat) : Nat := 0x340003 + u * 0x100
/-- SPIKE.NEURON_UPDATES (07). -/
abbrev spikeNeuronUpdates (u : Nat) : Nat := 0x340004 + u * 0x100
/-- SPIKE.SPIKES (07). -/
abbrev spikeSpikes (u : Nat) : Nat := 0x340005 + u * 0x100
/-- SPIKE.OVERDRIVE (07). -/
abbrev spikeOverdrive (u : Nat) : Nat := 0x340006 + u * 0x100
/-- SPIKE.STALE_INPUTS (07). -/
abbrev spikeStaleInputs (u : Nat) : Nat := 0x340007 + u * 0x100
/-- SPIKE.SATURATIONS (07). -/
abbrev spikeSaturations (u : Nat) : Nat := 0x340008 + u * 0x100
/-- SPIKE.LATE_APPLIED (07). -/
abbrev spikeLateApplied (u : Nat) : Nat := 0x340009 + u * 0x100
/-- SPIKE.GLEANED (07). -/
abbrev spikeGleaned (u : Nat) : Nat := 0x34000A + u * 0x100
/-- SPIKE.GLEAN_MAX_AGE (07). -/
abbrev spikeGleanMaxAge (u : Nat) : Nat := 0x34000B + u * 0x100
/-- SPIKE.FLUSHES (07). -/
abbrev spikeFlushes (u : Nat) : Nat := 0x34000C + u * 0x100
/-- SPIKE.BUSY_CYCLES (07). -/
abbrev spikeBusyCycles (u : Nat) : Nat := 0x34000D + u * 0x100
/-- SPIKE.ROW_TRUNCATED (07). -/
abbrev spikeRowTruncated (u : Nat) : Nat := 0x34000E + u * 0x100
/-- SPIKE.RECORDS_DROPPED (07). -/
abbrev spikeRecordsDropped (u : Nat) : Nat := 0x34000F + u * 0x100
/-- SPIKE.CLEAR (07). -/
abbrev spikeClear (u : Nat) : Nat := 0x340010 + u * 0x100
/-- THRESH.WEIGHTS_RESIDENT (08). -/
abbrev threshWeightsResident (u : Nat) : Nat := 0x350001 + u * 0x100
/-- THRESH.VECTORS (08). -/
abbrev threshVectors (u : Nat) : Nat := 0x350002 + u * 0x100
/-- THRESH.PASSES (08). -/
abbrev threshPasses (u : Nat) : Nat := 0x350003 + u * 0x100
/-- THRESH.BUSY_CYCLES (08). -/
abbrev threshBusyCycles (u : Nat) : Nat := 0x350004 + u * 0x100
/-- THRESH.PAD_ROWS_SKIPPED (08). -/
abbrev threshPadRowsSkipped (u : Nat) : Nat := 0x350005 + u * 0x100
/-- THRESH.ZERO_ROWS_SKIPPED (08). -/
abbrev threshZeroRowsSkipped (u : Nat) : Nat := 0x350006 + u * 0x100
/-- THRESH.REQUANT_SATURATIONS (08). -/
abbrev threshRequantSaturations (u : Nat) : Nat := 0x350007 + u * 0x100
/-- THRESH.SHEAF_SATURATIONS (08). -/
abbrev threshSheafSaturations (u : Nat) : Nat := 0x350008 + u * 0x100
/-- THRESH.CANDIDATES (08). -/
abbrev threshCandidates (u : Nat) : Nat := 0x350009 + u * 0x100
/-- THRESH.BOXES_DROPPED (08). -/
abbrev threshBoxesDropped (u : Nat) : Nat := 0x35000A + u * 0x100
/-- THRESH.COMPRESSED_BYTES (08). -/
abbrev threshCompressedBytes (u : Nat) : Nat := 0x35000B + u * 0x100
/-- THRESH.CLEAR (08). -/
abbrev threshClear (u : Nat) : Nat := 0x35000C + u * 0x100
/-- WINNOW.WATCH_SHIFT (09). -/
abbrev winnowWatchShift (u : Nat) : Nat := 0x360001 + u * 0x100
/-- WINNOW.WATCH_WINDOW (09). -/
abbrev winnowWatchWindow (u : Nat) : Nat := 0x360002 + u * 0x100
/-- WINNOW.WATCH_LIMIT (09). -/
abbrev winnowWatchLimit (u : Nat) : Nat := 0x360003 + u * 0x100
/-- WINNOW.RELEASE (09). -/
abbrev winnowRelease (u : Nat) : Nat := 0x360004 + u * 0x100
/-- WINNOW.FORCED (09). -/
abbrev winnowForced (u : Nat) : Nat := 0x360005 + u * 0x100
/-- WINNOW.FORCED_COUNT (09). -/
abbrev winnowForcedCount (u : Nat) : Nat := 0x360006 + u * 0x100
/-- WINNOW.CHEAP_OUTPUTS (09). -/
abbrev winnowCheapOutputs (u : Nat) : Nat := 0x360007 + u * 0x100
/-- WINNOW.EXACT_OUTPUTS (09). -/
abbrev winnowExactOutputs (u : Nat) : Nat := 0x360008 + u * 0x100
/-- WINNOW.WATCH_SAMPLES (09). -/
abbrev winnowWatchSamples (u : Nat) : Nat := 0x360009 + u * 0x100
/-- WINNOW.MISMATCHES (09). -/
abbrev winnowMismatches (u : Nat) : Nat := 0x36000A + u * 0x100
/-- WINNOW.ERROR_MAX (09). -/
abbrev winnowErrorMax (u : Nat) : Nat := 0x36000B + u * 0x100
/-- WINNOW.REPLAYS (09). -/
abbrev winnowReplays (u : Nat) : Nat := 0x36000C + u * 0x100
/-- WINNOW.ACTIVE_CYCLES (09). -/
abbrev winnowActiveCycles (u : Nat) : Nat := 0x36000D + u * 0x100
/-- WINNOW.REPLAY_RATE (09). -/
abbrev winnowReplayRate (u : Nat) : Nat := 0x36000E + u * 0x100
/-- WINNOW.EMERGENCIES (09). -/
abbrev winnowEmergencies (u : Nat) : Nat := 0x36000F + u * 0x100
/-- WINNOW.THROTTLED_CYCLES (09). -/
abbrev winnowThrottledCycles (u : Nat) : Nat := 0x360010 + u * 0x100
/-- WINNOW.STUCK (09). -/
abbrev winnowStuck (u : Nat) : Nat := 0x360011 + u * 0x100
/-- WINNOW.CLEAR (09). -/
abbrev winnowClear (u : Nat) : Nat := 0x360012 + u * 0x100
/-- SUPPLY.ENABLE (09). -/
abbrev supplyEnable : Nat := 0x368001
/-- SUPPLY.PERIOD (09). -/
abbrev supplyPeriod : Nat := 0x368002
/-- SUPPLY.BAND_LO (09). -/
abbrev supplyBandLo : Nat := 0x368003
/-- SUPPLY.BAND_HI (09). -/
abbrev supplyBandHi : Nat := 0x368004
/-- SUPPLY.FIXED_MV (09). -/
abbrev supplyFixedMv : Nat := 0x368005
/-- SUPPLY.SETTLE_US (09). -/
abbrev supplySettleUs : Nat := 0x368006
/-- SUPPLY.HOLDOFF_MS (09). -/
abbrev supplyHoldoffMs : Nat := 0x368007
/-- SUPPLY.STATE (09). -/
abbrev supplyState : Nat := 0x368008
/-- SUPPLY.TARGET_MV (09). -/
abbrev supplyTargetMv : Nat := 0x368009
/-- SUPPLY.VOUT_MV (09). -/
abbrev supplyVoutMv : Nat := 0x36800A
/-- SUPPLY.RAISES (09). -/
abbrev supplyRaises : Nat := 0x36800B
/-- SUPPLY.LOWERS (09). -/
abbrev supplyLowers : Nat := 0x36800C
/-- SUPPLY.EMERGENCIES (09). -/
abbrev supplyEmergencies : Nat := 0x36800D
/-- SUPPLY.WORST_STALL (09). -/
abbrev supplyWorstStall : Nat := 0x36800E
/-- SUPPLY.WORST_RATE (09). -/
abbrev supplyWorstRate : Nat := 0x36800F
/-- PADDOCK.RUN (10). -/
abbrev paddockRun : Nat := 0x400001
/-- PADDOCK.JOB (10). -/
abbrev paddockJob : Nat := 0x400002
/-- PADDOCK.TROUGH (10). -/
abbrev paddockTrough : Nat := 0x400003
/-- PADDOCK.REPORT (10). -/
abbrev paddockReport : Nat := 0x400004
/-- PADDOCK.CLASS_MAP (10). -/
abbrev paddockClassMap : Nat := 0x400005
/-- CLASS.ALPHA (10). -/
abbrev classAlpha : Nat := 0x400006
/-- CLASS.BETA (10). -/
abbrev classBeta : Nat := 0x400007
/-- CLASS.GATE_MM (10). -/
abbrev classGateMm : Nat := 0x400008
/-- CLASS.DEATH_MISSES (10). -/
abbrev classDeathMisses : Nat := 0x400009
/-- PADDOCK.UNASSIGNED_COST (10). -/
abbrev paddockUnassignedCost : Nat := 0x40000A
/-- PADDOCK.SOLVE_BUDGET (10). -/
abbrev paddockSolveBudget : Nat := 0x40000B
/-- PADDOCK.WATCHDOG (10). -/
abbrev paddockWatchdog : Nat := 0x40000C
/-- PROJ.KEY (10). -/
abbrev projKey : Nat := 0x40000D
/-- PROJ.H (10). -/
abbrev projH : Nat := 0x40000E
/-- PROJ.BOX (10). -/
abbrev projBox : Nat := 0x40000F
/-- ALIGN.DX (10). -/
abbrev alignDx : Nat := 0x400010
/-- ALIGN.DY (10). -/
abbrev alignDy : Nat := 0x400011
/-- ALIGN.DTHETA (10). -/
abbrev alignDtheta : Nat := 0x400012
/-- OVERLAP.ENTRIES (10). -/
abbrev overlapEntries : Nat := 0x400013
/-- OVERLAP.RECT (10). -/
abbrev overlapRect : Nat := 0x400014
/-- OVERLAP.MERGE_MM (10). -/
abbrev overlapMergeMm : Nat := 0x400015
/-- OVERLAP.LIMIT (10). -/
abbrev overlapLimit : Nat := 0x400016
/-- OVERLAP.COUNT (10). -/
abbrev overlapCount : Nat := 0x400017
/-- PADDOCK.STATE (10). -/
abbrev paddockState : Nat := 0x400018
/-- PADDOCK.CONFIRMED (10). -/
abbrev paddockConfirmed : Nat := 0x400019
/-- PADDOCK.TENTATIVE (10). -/
abbrev paddockTentative : Nat := 0x40001A
/-- PADDOCK.NEXT_ID (10). -/
abbrev paddockNextId : Nat := 0x40001B
/-- PADDOCK.DETECTIONS (10). -/
abbrev paddockDetections : Nat := 0x40001C
/-- PADDOCK.DETECTIONS_DROPPED (10). -/
abbrev paddockDetectionsDropped : Nat := 0x40001D
/-- PADDOCK.BIRTHS_REFUSED (10). -/
abbrev paddockBirthsRefused : Nat := 0x40001E
/-- PADDOCK.PAIRS_EXAMINED (10). -/
abbrev paddockPairsExamined : Nat := 0x40001F
/-- PADDOCK.TILE_SPLITS (10). -/
abbrev paddockTileSplits : Nat := 0x400020
/-- PADDOCK.SOLVE_CAPPED (10). -/
abbrev paddockSolveCapped : Nat := 0x400021
/-- PADDOCK.OVERRUNS (10). -/
abbrev paddockOverruns : Nat := 0x400022
/-- PADDOCK.STEPS_DROPPED (10). -/
abbrev paddockStepsDropped : Nat := 0x400023
/-- PADDOCK.WATCHDOG_TRIPS (10). -/
abbrev paddockWatchdogTrips : Nat := 0x400024
/-- PADDOCK.CONTRA_EVENTS (10). -/
abbrev paddockContraEvents : Nat := 0x400025
/-- PADDOCK.TRACK_TABLE (10). -/
abbrev paddockTrackTable : Nat := 0x400026
/-- PADDOCK.CLEAR (10). -/
abbrev paddockClear : Nat := 0x400027
/-- ZONE.COUNT (10). -/
abbrev zoneCount (u : Nat) : Nat := 0x410001 + u * 0x100
/-- ZONE.X (10). -/
abbrev zoneX (u : Nat) : Nat := 0x410002 + u * 0x100
/-- ZONE.Y (10). -/
abbrev zoneY (u : Nat) : Nat := 0x410003 + u * 0x100
/-- ZONE.CLASSES (10). -/
abbrev zoneClasses (u : Nat) : Nat := 0x410004 + u * 0x100
/-- ZONE.WATCH (10). -/
abbrev zoneWatch (u : Nat) : Nat := 0x410005 + u * 0x100
/-- ZONE.STATE (10). -/
abbrev zoneState (u : Nat) : Nat := 0x410006 + u * 0x100
/-- ZONE.OCCUPANTS (10). -/
abbrev zoneOccupants (u : Nat) : Nat := 0x410007 + u * 0x100
/-- HOLD.ZONES_LO (10). -/
abbrev holdZonesLo (u : Nat) : Nat := 0x418001 + u * 0x100
/-- HOLD.ZONES_HI (10). -/
abbrev holdZonesHi (u : Nat) : Nat := 0x418002 + u * 0x100
/-- HOLD.UNKNOWN (10). -/
abbrev holdUnknown (u : Nat) : Nat := 0x418003 + u * 0x100
/-- HOLD.CLEAR_STEPS (10). -/
abbrev holdClearSteps (u : Nat) : Nat := 0x418004 + u * 0x100
/-- HOLD.STATE (10). -/
abbrev holdState (u : Nat) : Nat := 0x418005 + u * 0x100
/-- HOLD.CAUSE (10). -/
abbrev holdCause (u : Nat) : Nat := 0x418006 + u * 0x100
/-- HOLD.CHANGES (10). -/
abbrev holdChanges (u : Nat) : Nat := 0x418007 + u * 0x100
/-- TROUGH.AREA_BASE (11). -/
abbrev troughAreaBase : Nat := 0x800001
/-- TROUGH.ENTRIES (11). -/
abbrev troughEntries : Nat := 0x800002
/-- TROUGH.DROPPED_TOTAL (11). -/
abbrev troughDroppedTotal : Nat := 0x800003
/-- TROUGH.HOST_ERRORS (11). -/
abbrev troughHostErrors : Nat := 0x800004
/-- TROUGH.CLEAR (11). -/
abbrev troughClear : Nat := 0x800005
/-- TROUGH.BASE (11). -/
abbrev troughBase : Nat := 0x810001
/-- TROUGH.SIZE_LOG2 (11). -/
abbrev troughSizeLog2 : Nat := 0x810002
/-- TROUGH.SHADOW (11). -/
abbrev troughShadow : Nat := 0x810003
/-- TROUGH.COUNT (11). -/
abbrev troughCount : Nat := 0x810004
/-- TROUGH.HEAD (11). -/
abbrev troughHead : Nat := 0x810005
/-- TROUGH.TAIL (11). -/
abbrev troughTail : Nat := 0x810006
/-- TROUGH.DROPPED (11). -/
abbrev troughDropped : Nat := 0x810007
/-- TROUGH.HEAD_REFUSED (11). -/
abbrev troughHeadRefused : Nat := 0x810008
/-- TROUGH.HIGH_WATER (11). -/
abbrev troughHighWater : Nat := 0x810009
/-- CHAN.DESC (11). -/
abbrev chanDesc : Nat := 0x880001
/-- CHAN.TROUGH (11). -/
abbrev chanTrough : Nat := 0x880002
/-- CHAN.CMD (11). -/
abbrev chanCmd : Nat := 0x880003
/-- CHAN.STATE (11). -/
abbrev chanState : Nat := 0x880004
/-- CHAN.CURRENT (11). -/
abbrev chanCurrent : Nat := 0x880005
/-- CHAN.DONE (11). -/
abbrev chanDone : Nat := 0x880006
/-- CHAN.CHAINS (11). -/
abbrev chanChains : Nat := 0x880007
/-- CHAN.BYTES (11). -/
abbrev chanBytes : Nat := 0x880008
/-- CHAN.ERRORS (11). -/
abbrev chanErrors : Nat := 0x880009
/-- CHAN.WAITS (11). -/
abbrev chanWaits : Nat := 0x88000A
/-- BARROW.ENGINE_BYTES (11). -/
abbrev barrowEngineBytes : Nat := 0x88000B
/-- BARROW.CLEAR (11). -/
abbrev barrowClear : Nat := 0x88000C
/-- MEM.DEVICES (12). -/
abbrev memDevices : Nat := 0x900001
/-- MEM.RATE (12). -/
abbrev memRate : Nat := 0x900002
/-- MEM.PROTECTED_TOP (12). -/
abbrev memProtectedTop : Nat := 0x900003
/-- MEM.USER_BASE (12). -/
abbrev memUserBase : Nat := 0x900004
/-- MEM.CORRECT_LIMIT (12). -/
abbrev memCorrectLimit : Nat := 0x900005
/-- MEM.SCRUB_PERIOD (12). -/
abbrev memScrubPeriod : Nat := 0x900006
/-- MEM.CE_LIMIT (12). -/
abbrev memCeLimit : Nat := 0x900007
/-- MEM.SCRUB_ADDR (12). -/
abbrev memScrubAddr : Nat := 0x900008
/-- MEM.SCRUB_PASSES (12). -/
abbrev memScrubPasses : Nat := 0x900009
/-- MEM.CORRECTED (12). -/
abbrev memCorrected : Nat := 0x90000A
/-- MEM.UNCORRECTABLE (12). -/
abbrev memUncorrectable : Nat := 0x90000B
/-- MEM.LINK_RETRIES (12). -/
abbrev memLinkRetries : Nat := 0x90000C
/-- MEM.LAST_CE (12). -/
abbrev memLastCe : Nat := 0x90000D
/-- MEM.LAST_UE (12). -/
abbrev memLastUe : Nat := 0x90000E
/-- MEM.FIRST_UE (12). -/
abbrev memFirstUe : Nat := 0x90000F
/-- MEM.RETRAINS (12). -/
abbrev memRetrains : Nat := 0x900010
/-- MEM.OFF_ACCESS (12). -/
abbrev memOffAccess : Nat := 0x900011
/-- MEM.POISON_EVENTS (12). -/
abbrev memPoisonEvents : Nat := 0x900012
/-- LOFT.CORRECTED (12). -/
abbrev loftCorrected : Nat := 0x900013
/-- LOFT.UNCORRECTABLE (12). -/
abbrev loftUncorrectable : Nat := 0x900014
/-- LOFT.OFF_ACCESS (12). -/
abbrev loftOffAccess : Nat := 0x900015
/-- GRANARY.CORRECTED (12). -/
abbrev granaryCorrected : Nat := 0x900016
/-- GRANARY.UNCORRECTABLE (12). -/
abbrev granaryUncorrectable : Nat := 0x900017
/-- MEM.CLEAR (12). -/
abbrev memClear : Nat := 0x900018
/-- HOST.WINDOW_BASE (13). -/
abbrev hostWindowBase : Nat := 0xA00001
/-- HOST.LINK_STATE (13). -/
abbrev hostLinkState : Nat := 0xA00002
/-- HOST.LINK_RATE (13). -/
abbrev hostLinkRate : Nat := 0xA00003
/-- HOST.LINK_EPOCH (13). -/
abbrev hostLinkEpoch : Nat := 0xA00004
/-- HOST.LINK_DOWNS (13). -/
abbrev hostLinkDowns : Nat := 0xA00005
/-- HOST.MAX_PAYLOAD (13). -/
abbrev hostMaxPayload : Nat := 0xA00006
/-- HOST.READ_REQUEST (13). -/
abbrev hostReadRequest : Nat := 0xA00007
/-- HOST.BAD_ACCESS (13). -/
abbrev hostBadAccess : Nat := 0xA00008
/-- HOST.BAR2_ABSENT (13). -/
abbrev hostBar2Absent : Nat := 0xA00009
/-- HOST.READ_ERRORS (13). -/
abbrev hostReadErrors : Nat := 0xA0000A
/-- HOST.POISONED_RX (13). -/
abbrev hostPoisonedRx : Nat := 0xA0000B
/-- HOST.POISONED_TX (13). -/
abbrev hostPoisonedTx : Nat := 0xA0000C
/-- HOST.CLEAR (13). -/
abbrev hostClear : Nat := 0xA0000D
/-- TIME.NOW_SEC (14). -/
abbrev timeNowSec : Nat := 0x500001
/-- TIME.NOW_NS (14). -/
abbrev timeNowNs : Nat := 0x500002
/-- TIME.NOW_FRAC (14). -/
abbrev timeNowFrac : Nat := 0x500003
/-- TIME.SET (14). -/
abbrev timeSet : Nat := 0x500004
/-- TIME.RATE (14). -/
abbrev timeRate : Nat := 0x500005
/-- TIME.RATE_MANUAL (14). -/
abbrev timeRateManual : Nat := 0x500006
/-- TIME.JUMPS (14). -/
abbrev timeJumps : Nat := 0x500007
/-- TIME.SCHEDULE_ACTIVE (14). -/
abbrev timeScheduleActive : Nat := 0x500008
/-- TOUT.MODE (14). -/
abbrev toutMode (u : Nat) : Nat := 0x510001 + u * 0x100
/-- TOUT.START_SEC (14). -/
abbrev toutStartSec (u : Nat) : Nat := 0x510002 + u * 0x100
/-- TOUT.START_NS (14). -/
abbrev toutStartNs (u : Nat) : Nat := 0x510003 + u * 0x100
/-- TOUT.PERIOD_NS (14). -/
abbrev toutPeriodNs (u : Nat) : Nat := 0x510004 + u * 0x100
/-- TOUT.WIDTH_NS (14). -/
abbrev toutWidthNs (u : Nat) : Nat := 0x510005 + u * 0x100
/-- TOUT.POLARITY (14). -/
abbrev toutPolarity (u : Nat) : Nat := 0x510006 + u * 0x100
/-- TOUT.EDGES (14). -/
abbrev toutEdges (u : Nat) : Nat := 0x510007 + u * 0x100
/-- TOUT.MISSED (14). -/
abbrev toutMissed (u : Nat) : Nat := 0x510008 + u * 0x100
/-- GSYNC.ENABLE (14). -/
abbrev gsyncEnable : Nat := 0x511001
/-- GSYNC.DIVIDER (14). -/
abbrev gsyncDivider : Nat := 0x511002
/-- GSYNC.WIDTH_US (14). -/
abbrev gsyncWidthUs : Nat := 0x511003
/-- GSYNC.POLARITY (14). -/
abbrev gsyncPolarity : Nat := 0x511004
/-- GSYNC.EDGES (14). -/
abbrev gsyncEdges : Nat := 0x511005
/-- GSYNC.EDGE_TIME (14). -/
abbrev gsyncEdgeTime : Nat := 0x511006
/-- TCAP.EDGE (14). -/
abbrev tcapEdge : Nat := 0x512001
/-- TCAP.CAPTURES (14). -/
abbrev tcapCaptures : Nat := 0x512002
/-- TCAP.TIME (14). -/
abbrev tcapTime : Nat := 0x512003
/-- PTP.ENABLE (14). -/
abbrev ptpEnable : Nat := 0x520001
/-- PTP.DOMAIN (14). -/
abbrev ptpDomain : Nat := 0x520002
/-- PTP.TRANSPORT (14). -/
abbrev ptpTransport : Nat := 0x520003
/-- PTP.DELAY_MECH (14). -/
abbrev ptpDelayMech : Nat := 0x520004
/-- PTP.SLAVE_ONLY (14). -/
abbrev ptpSlaveOnly : Nat := 0x520005
/-- PTP.PRIORITY1 (14). -/
abbrev ptpPriority1 : Nat := 0x520006
/-- PTP.PRIORITY2 (14). -/
abbrev ptpPriority2 : Nat := 0x520007
/-- PTP.LOG_SYNC (14). -/
abbrev ptpLogSync : Nat := 0x520008
/-- PTP.LOG_ANNOUNCE (14). -/
abbrev ptpLogAnnounce : Nat := 0x520009
/-- PTP.ANNOUNCE_TIMEOUT (14). -/
abbrev ptpAnnounceTimeout : Nat := 0x52000A
/-- PTP.LOG_DELAY_REQ (14). -/
abbrev ptpLogDelayReq : Nat := 0x52000B
/-- PTP.TC_ENABLE (14). -/
abbrev ptpTcEnable : Nat := 0x52000C
/-- PTP.KP (14). -/
abbrev ptpKp : Nat := 0x52000D
/-- PTP.KI (14). -/
abbrev ptpKi : Nat := 0x52000E
/-- PTP.SLEW_MAX (14). -/
abbrev ptpSlewMax : Nat := 0x52000F
/-- PTP.STEP_THRESHOLD (14). -/
abbrev ptpStepThreshold : Nat := 0x520010
/-- PTP.LOCK_NS (14). -/
abbrev ptpLockNs : Nat := 0x520011
/-- PTP.REQUALIFY (14). -/
abbrev ptpRequalify : Nat := 0x520012
/-- PTP.DELAY_FILTER (14). -/
abbrev ptpDelayFilter : Nat := 0x520013
/-- PTP.TX_LATENCY (14). -/
abbrev ptpTxLatency : Nat := 0x520014
/-- PTP.RX_LATENCY (14). -/
abbrev ptpRxLatency : Nat := 0x520015
/-- PTP.ASYMMETRY (14). -/
abbrev ptpAsymmetry : Nat := 0x520016
/-- PTP.CLOCK_ID (14). -/
abbrev ptpClockId : Nat := 0x520017
/-- PTP.STATE (14). -/
abbrev ptpState : Nat := 0x520018
/-- PTP.SERVO (14). -/
abbrev ptpServo : Nat := 0x520019
/-- PTP.UPSTREAM (14). -/
abbrev ptpUpstream : Nat := 0x52001A
/-- PTP.PARENT_ID (14). -/
abbrev ptpParentId : Nat := 0x52001B
/-- PTP.GM_ID (14). -/
abbrev ptpGmId : Nat := 0x52001C
/-- PTP.STEPS_REMOVED (14). -/
abbrev ptpStepsRemoved : Nat := 0x52001D
/-- PTP.OFFSET (14). -/
abbrev ptpOffset : Nat := 0x52001E
/-- PTP.MEAN_DELAY (14). -/
abbrev ptpMeanDelay : Nat := 0x52001F
/-- PTP.LINK_DELAY (14). -/
abbrev ptpLinkDelay : Nat := 0x520020
/-- PTP.UTC_OFFSET (14). -/
abbrev ptpUtcOffset : Nat := 0x520021
/-- PTP.FREQ (14). -/
abbrev ptpFreq : Nat := 0x520022
/-- PTP.MASTER_CHANGES (14). -/
abbrev ptpMasterChanges : Nat := 0x520023
/-- PTP.LOCK_LOSSES (14). -/
abbrev ptpLockLosses : Nat := 0x520024
/-- PTP.FORWARDED (14). -/
abbrev ptpForwarded : Nat := 0x520025
/-- PTP.STAMP_LOST (14). -/
abbrev ptpStampLost : Nat := 0x520026
/-- PTP.CLEAR (14). -/
abbrev ptpClear : Nat := 0x520027
/-- PORT.MODE (15). -/
abbrev portMode : Nat := 0x580001
/-- PORT.FEC (15). -/
abbrev portFec : Nat := 0x580002
/-- PORT.MAC (15). -/
abbrev portMac : Nat := 0x580003
/-- PORT.VLAN (15). -/
abbrev portVlan : Nat := 0x580004
/-- PORT.IPV4 (15). -/
abbrev portIpv4 : Nat := 0x580005
/-- PORT.IPV4_PREFIX (15). -/
abbrev portIpv4Prefix : Nat := 0x580006
/-- PORT.IPV4_GATEWAY (15). -/
abbrev portIpv4Gateway : Nat := 0x580007
/-- PORT.IPV6 (15). -/
abbrev portIpv6 : Nat := 0x580008
/-- PORT.IPV6_PREFIX (15). -/
abbrev portIpv6Prefix : Nat := 0x580009
/-- PORT.IPV6_GATEWAY (15). -/
abbrev portIpv6Gateway : Nat := 0x58000A
/-- PORT.LINK (15). -/
abbrev portLink : Nat := 0x58000B
/-- PORT.RX_FRAMES (15). -/
abbrev portRxFrames : Nat := 0x58000C
/-- PORT.TX_FRAMES (15). -/
abbrev portTxFrames : Nat := 0x58000D
/-- PORT.RX_ERRORS (15). -/
abbrev portRxErrors : Nat := 0x58000E
/-- PORT.RX_DROPPED (15). -/
abbrev portRxDropped : Nat := 0x58000F
/-- PORT.CLEAR (15). -/
abbrev portClear : Nat := 0x580010
/-- NODE.NUMBER (15). -/
abbrev nodeNumber : Nat := 0x590001
/-- NET.PEER_TABLE (15). -/
abbrev netPeerTable : Nat := 0x590002
/-- NET.LOST_STEPS (15). -/
abbrev netLostSteps : Nat := 0x590003
/-- NET.REDUNDANT (15). -/
abbrev netRedundant : Nat := 0x590004
/-- NET.FRAME_BYTES (15). -/
abbrev netFrameBytes : Nat := 0x590005
/-- NET.TRACK_DEST (15). -/
abbrev netTrackDest : Nat := 0x590006
/-- NET.PEER_STATE (15). -/
abbrev netPeerState : Nat := 0x590007
/-- NET.TRACK_FROM (15). -/
abbrev netTrackFrom : Nat := 0x590008
/-- NET.TRACK_STEP (15). -/
abbrev netTrackStep : Nat := 0x590009
/-- NET.TRACK_TABLE (15). -/
abbrev netTrackTable : Nat := 0x59000A
/-- NET.FRAMES_TX (15). -/
abbrev netFramesTx : Nat := 0x59000B
/-- NET.FRAMES_RX (15). -/
abbrev netFramesRx : Nat := 0x59000C
/-- NET.DUPLICATES (15). -/
abbrev netDuplicates : Nat := 0x59000D
/-- NET.INVALID (15). -/
abbrev netInvalid : Nat := 0x59000E
/-- NET.LOSSES (15). -/
abbrev netLosses : Nat := 0x59000F
/-- NET.CLEAR (15). -/
abbrev netClear : Nat := 0x590010
/-- POWER.FW_BOOT (16). -/
abbrev powerFwBoot : Nat := 0x600001
/-- POWER.QUIESCE_US (16). -/
abbrev powerQuiesceUs : Nat := 0x600002
/-- POWER.SLEEP (16). -/
abbrev powerSleep : Nat := 0x600003
/-- WAKE.MODE (16). -/
abbrev wakeMode : Nat := 0x600004
/-- WAKE.DOMAINS (16). -/
abbrev wakeDomains : Nat := 0x600005
/-- WAKE.LATCHED (16). -/
abbrev wakeLatched : Nat := 0x600006
/-- WAKE.CLEAR (16). -/
abbrev wakeClear : Nat := 0x600007
/-- POWER.START_MODE (16). -/
abbrev powerStartMode : Nat := 0x600008
/-- POWER.CP_CLOCK (16). -/
abbrev powerCpClock : Nat := 0x600009
/-- POWER.ON_MASK (16). -/
abbrev powerOnMask : Nat := 0x60000A
/-- POWER.RET_MASK (16). -/
abbrev powerRetMask : Nat := 0x60000B
/-- POWER.WAKES (16). -/
abbrev powerWakes : Nat := 0x60000C
/-- POWER.LAST_WAKE (16). -/
abbrev powerLastWake : Nat := 0x60000D
/-- POWER.TRANSITIONS (16). -/
abbrev powerTransitions : Nat := 0x60000E
/-- POWER.CLEAR (16). -/
abbrev powerClear : Nat := 0x60000F
/-- DOMAIN.VOTE_HOST (16). -/
abbrev domainVoteHost (u : Nat) : Nat := 0x604001 + u * 0x100
/-- DOMAIN.VOTE_NET (16). -/
abbrev domainVoteNet (u : Nat) : Nat := 0x604002 + u * 0x100
/-- DOMAIN.VOTES (16). -/
abbrev domainVotes (u : Nat) : Nat := 0x604003 + u * 0x100
/-- DOMAIN.TARGET (16). -/
abbrev domainTarget (u : Nat) : Nat := 0x604004 + u * 0x100
/-- DOMAIN.STATE (16). -/
abbrev domainState (u : Nat) : Nat := 0x604005 + u * 0x100
/-- DOMAIN.BLOCKED (16). -/
abbrev domainBlocked (u : Nat) : Nat := 0x604006 + u * 0x100
/-- DOMAIN.ON_COUNT (16). -/
abbrev domainOnCount (u : Nat) : Nat := 0x604007 + u * 0x100
/-- DOMAIN.LAST_NS (16). -/
abbrev domainLastNs (u : Nat) : Nat := 0x604008 + u * 0x100
/-- DOMAIN.RESTORE_FAILS (16). -/
abbrev domainRestoreFails (u : Nat) : Nat := 0x604009 + u * 0x100
/-- RAIL.ADDRESS (16). -/
abbrev railAddress : Nat := 0x680001
/-- RAIL.ROLE (16). -/
abbrev railRole : Nat := 0x680002
/-- RAIL.VOUT_EXP (16). -/
abbrev railVoutExp : Nat := 0x680003
/-- RAIL.PEC (16). -/
abbrev railPec : Nat := 0x680004
/-- RAIL.VMIN_MV (16). -/
abbrev railVminMv : Nat := 0x680005
/-- RAIL.VMAX_MV (16). -/
abbrev railVmaxMv : Nat := 0x680006
/-- RAIL.VOUT_MV (16). -/
abbrev railVoutMv : Nat := 0x680007
/-- RAIL.PGOOD_TIMEOUT_MS (16). -/
abbrev railPgoodTimeoutMs : Nat := 0x680008
/-- RAIL.READ_MV (16). -/
abbrev railReadMv : Nat := 0x680009
/-- RAIL.STATUS (16). -/
abbrev railStatus : Nat := 0x68000A
/-- RAIL.ON (16). -/
abbrev railOn : Nat := 0x68000B
/-- RAIL.TRANSACTIONS (16). -/
abbrev railTransactions : Nat := 0x68000C
/-- RAIL.NACKS (16). -/
abbrev railNacks : Nat := 0x68000D
/-- RAIL.CLEAR (16). -/
abbrev railClear : Nat := 0x68000E
/-- FAULT.STICKY (17). -/
abbrev faultSticky (u : Nat) : Nat := 0x700001 + u * 0x100
/-- FAULT.CLEAR (17). -/
abbrev faultClear (u : Nat) : Nat := 0x700002 + u * 0x100
/-- FAULT.FORCE (17). -/
abbrev faultForce (u : Nat) : Nat := 0x700003 + u * 0x100
/-- FAULT.PRESENT (17). -/
abbrev faultPresent (u : Nat) : Nat := 0x700004 + u * 0x100
/-- FAULT.SEVERITY (17). -/
abbrev faultSeverity (u : Nat) : Nat := 0x700005 + u * 0x100
/-- FAULT.REACT (17). -/
abbrev faultReact (u : Nat) : Nat := 0x700006 + u * 0x100
/-- FAULT.PIN_GRAVE (17). -/
abbrev faultPinGrave (u : Nat) : Nat := 0x700007 + u * 0x100
/-- FAULT.PINNED (17). -/
abbrev faultPinned (u : Nat) : Nat := 0x700008 + u * 0x100
/-- FAULT.COUNT (17). -/
abbrev faultCount (u : Nat) : Nat := 0x700009 + u * 0x100
/-- FAULT.SOURCE_COUNT (17). -/
abbrev faultSourceCount (u : Nat) : Nat := 0x70000A + u * 0x100
/-- FAULT.FIRST_SOURCE (17). -/
abbrev faultFirstSource (u : Nat) : Nat := 0x70000B + u * 0x100
/-- FAULT.FIRST_STEP (17). -/
abbrev faultFirstStep (u : Nat) : Nat := 0x70000C + u * 0x100
/-- FAULT.LAST_SOURCE (17). -/
abbrev faultLastSource (u : Nat) : Nat := 0x70000D + u * 0x100
/-- FAULT.LAST_STEP (17). -/
abbrev faultLastStep (u : Nat) : Nat := 0x70000E + u * 0x100
/-- FAULT.LAST_TIME (17). -/
abbrev faultLastTime (u : Nat) : Nat := 0x70000F + u * 0x100
/-- FAULT.FLAGS (17). -/
abbrev faultFlags (u : Nat) : Nat := 0x700010 + u * 0x100
/-- FAULT.CLEAR_COUNTS (17). -/
abbrev faultClearCounts (u : Nat) : Nat := 0x700011 + u * 0x100
/-- MUCK.ENABLE (17). -/
abbrev muckEnable : Nat := 0xC00001
/-- MUCK.PASS_PERIOD (17). -/
abbrev muckPassPeriod : Nat := 0xC00002
/-- MUCK.TROUGH (17). -/
abbrev muckTrough : Nat := 0xC00003
/-- MUCK.EXCLUDE (17). -/
abbrev muckExclude : Nat := 0xC00004
/-- MUCK.REQUEST (17). -/
abbrev muckRequest : Nat := 0xC00005
/-- MUCK.RELEASE (17). -/
abbrev muckRelease : Nat := 0xC00006
/-- MUCK.OUT_OF_SERVICE (17). -/
abbrev muckOutOfService : Nat := 0xC00007
/-- MUCK.PASSES (17). -/
abbrev muckPasses : Nat := 0xC00008
/-- MUCK.POSITION (17). -/
abbrev muckPosition : Nat := 0xC00009
/-- MUCK.PREEMPTIONS (17). -/
abbrev muckPreemptions : Nat := 0xC0000A
/-- MUCK.TRANSIENTS (17). -/
abbrev muckTransients : Nat := 0xC0000B
/-- MUCK.LATE_PASSES (17). -/
abbrev muckLatePasses : Nat := 0xC0000C
/-- MUCK.RESULTS_DROPPED (17). -/
abbrev muckResultsDropped : Nat := 0xC0000D
/-- MUCK.CLEAR (17). -/
abbrev muckClear : Nat := 0xC0000E
/-- BOOT.SELECT (18). -/
abbrev bootSelect : Nat := 0xB00001
/-- BOOT.SOURCE (18). -/
abbrev bootSource : Nat := 0xB00002
/-- BOOT.RESET_CAUSE (18). -/
abbrev bootResetCause : Nat := 0xB00003
/-- BOOT.RECORD (18). -/
abbrev bootRecord : Nat := 0xB00004
/-- BOOT.RESET (18). -/
abbrev bootReset : Nat := 0xB00005
/-- BOOT.IMAGE_ADDR (18). -/
abbrev bootImageAddr : Nat := 0xB00006
/-- BOOT.IMAGE_LEN (18). -/
abbrev bootImageLen : Nat := 0xB00007
/-- BOOT.QSPI_WRITE (18). -/
abbrev bootQspiWrite : Nat := 0xB00008
/-- BOOT.QSPI_STATE (18). -/
abbrev bootQspiState : Nat := 0xB00009
/-- BOOT.QSPI_STATUS (18). -/
abbrev bootQspiStatus : Nat := 0xB0000A
/-- BOOT.QSPI_SIZE (18). -/
abbrev bootQspiSize : Nat := 0xB0000B
/-- BOOT.CONFIG_SEQUENCE (18). -/
abbrev bootConfigSequence : Nat := 0xB0000C
/-- BOOT.CONFIG_ABORT (18). -/
abbrev bootConfigAbort : Nat := 0xB0000D
/-- BOOT.CONFIG_DETAIL (18). -/
abbrev bootConfigDetail : Nat := 0xB0000E
/-- SEC.ROLLBACK (18). -/
abbrev secRollback : Nat := 0xB0000F
/-- SEC.ROOT_REVOKED (18). -/
abbrev secRootRevoked : Nat := 0xB00010
/-- SEC.IMAGE_SECURITY (18). -/
abbrev secImageSecurity : Nat := 0xB00011
/-- SEC.ROLLBACK_ADVANCE (18). -/
abbrev secRollbackAdvance : Nat := 0xB00012
/-- SEC.FW_DIGEST (18). -/
abbrev secFwDigest : Nat := 0xB00013
/-- SEC.CONFIG_DIGEST (18). -/
abbrev secConfigDigest : Nat := 0xB00014
/-- SEC.JOB_SIGNED (18). -/
abbrev secJobSigned : Nat := 0xB00020
/-- SEC.OPKEY_ENABLE (18). -/
abbrev secOpkeyEnable : Nat := 0xB00021
/-- SEC.ID_PUBKEY (18). -/
abbrev secIdPubkey : Nat := 0xB00022
/-- SEC.ID_CERT (18). -/
abbrev secIdCert : Nat := 0xB00023
/-- SEC.OPKEY_0 (18). -/
abbrev secOpkey0 : Nat := 0xB00024
/-- SEC.OPKEY_1 (18). -/
abbrev secOpkey1 : Nat := 0xB00025
/-- SEC.OPKEY_2 (18). -/
abbrev secOpkey2 : Nat := 0xB00026
/-- SEC.OPKEY_3 (18). -/
abbrev secOpkey3 : Nat := 0xB00027
/-- SEC.OPKEY_4 (18). -/
abbrev secOpkey4 : Nat := 0xB00101
/-- SEC.OPKEY_5 (18). -/
abbrev secOpkey5 : Nat := 0xB00102
/-- SEC.OPKEY_6 (18). -/
abbrev secOpkey6 : Nat := 0xB00103
/-- SEC.OPKEY_7 (18). -/
abbrev secOpkey7 : Nat := 0xB00104

end Sys2Proof.Machine.Obj
end

