-- ==== Sys2Proof/Machine/State.lean ====
section
/-!
DEFINITION. The state of the CT32 as plain data, its state after reset, and the reasons a step can stop.

Every object of the dictionary (Sys2Proof/Machine/ObjTable.lean lists all of them with type, access, default and
range) has its one home in `State.dict`: a sparse store from (address, element) to value, in which what is not listed
reads as its default (R43). The other fields hold what the manual gives the machine beyond the dictionary.
-/
namespace Sys2Proof.Machine

/-- A stored value: a number in the bits of its type (R36), or the bytes of a STR or DOMAIN. -/
inductive Val where
  | num (n : Nat)
  | bytes (b : List Byte)
  deriving DecidableEq, Repr, Inhabited

/-- Sparse data by key, keys strictly rising, no entry equal to what an unlisted key reads as. -/
abbrev Sparse (α : Type) := List (Nat × α)
/-- Dictionary values by key = address × 2²⁴ + element. -/
abbrev Store := Sparse Val

/-! ### Steps -/

/-- Lifecycle of a step (R537). A step that is DONE leaves `State.steps`. -/
inductive StepPhase where
  | opened | stretching | computing | fusing
  deriving DecidableEq, Repr

/-- What one job's step carries into its JOB_STATUS entry (R200). -/
structure JobStep where
  haloFilled : Bool
  remapFirst : Bool
  restarted : Bool
  shed : Nat
  carried : Nat
  sent : Bool               -- the device has sent its DELIVERY of the step to the lead (R434)
  deriving DecidableEq, Repr
def JobStep.reset : JobStep := ⟨false, false, false, 0, 0, false⟩

/-- A step that has opened and is not DONE. `cfg` holds the settings in force at B_k (R26). -/
structure StepRec where
  k : Nat
  phase : StepPhase
  cfg : Store
  scheduled : Bool          -- opened under an active schedule (R402)
  delivered : List Nat      -- leaves that delivered (codes of `leafCode`)
  missing : List Nat        -- leaves marked missing
  jobs : Sparse JobStep     -- by job slot
  lost : List Nat           -- gates that were not HITCHED, or silent, at some instant of the step (R304)
  written : Bool            -- the yards have written their entries (R200)
  forced : Bool             -- the HOLD pairs were forced under R327 at some instant of the step (R333)
  deriving DecidableEq, Repr

/-! ### Bales -/

/-- A DOMAIN value moved in chunks (R65). -/
structure Chunks where
  total : Nat
  parts : List (Nat × List Byte)
  deriving DecidableEq, Repr

/-- One staged write: address, first element, values; a DOMAIN may still be incomplete. -/
structure Staged where
  addr : Nat
  first : Nat
  vals : List Val
  chunks : Option Chunks
  order : Nat               -- when the bale came to hold a value for the address (R53)
  stale : Bool
  deriving DecidableEq, Repr

/-- The bale of one requester (R46), with the outcome of its last COMMIT (BALE.* objects). -/
structure Bale where
  staged : List Staged
  applyStep : Nat
  lastAbort : Nat
  lastDetail : Nat
  deriving DecidableEq, Repr
def Bale.reset : Bale := ⟨[], 0, 0, 0⟩

/-- A committed bale that waits for its boundary (R50). -/
structure WaitingBale where
  owner : Nat               -- code of the owner
  step : Nat
  boundaryUs : Nat          -- B_j in µs, under the schedule it was reckoned in
  writes : List Staged
  deriving DecidableEq, Repr

/-! ### SDP and the mailbox -/

/-- A complete request message before the dictionary server (R56, R72). -/
structure Request where
  mailbox : Bool
  port : Nat
  source : Nat
  op : Nat
  flags : Nat
  node : Nat
  session : Nat
  seq : Nat
  lastLen : Nat             -- bytes of the message in its last fragment
  payloadLen : Nat          -- payload length field of the header
  msg : List Byte
  deriving DecidableEq, Repr

/-- A message of which fragments have arrived (R56, R57). -/
structure Partial where
  source : Nat
  port : Nat
  op : Nat
  flags : Nat
  node : Nat
  session : Nat
  seq : Nat
  since : Nat
  parts : List (Nat × List Byte)
  last : Option (Nat × Nat) -- offset and length of the last fragment
  deriving DecidableEq, Repr

/-- An open SDP session (R68). -/
structure Session where
  keySlot : Option Nat
  timeoutS : Nat            -- 0: SDP.SESSION_TIMEOUT
  lastUse : Nat
  unsigned : Nat            -- last accepted sequence of an unsigned request (R70)
  lastSeq : Option Nat      -- sequence of the last accepted request, signed or not (R71)
  lastOp : Nat
  stored : List Byte        -- response to the last accepted request (R71)
  deriving DecidableEq, Repr
def Session.reset : Session := ⟨none, 0, 0, 0, none, 0, []⟩

structure Sdp where
  sessions : Sparse Session
  nextId : Nat
  partials : List Partial
  queue : List Request
  authTimes : List Nat      -- refusals within the last second (AUTH_BURST)
  bales : Sparse Bale       -- by owner code
  claims : List (Nat × Nat) -- address, owner code
  waiting : List WaitingBale
  assemblies : List (Nat × Nat × Chunks)  -- owner, address, chunks of a RW or WO DOMAIN (R65)
  orders : Nat
  deriving DecidableEq, Repr
def Sdp.reset : Sdp := ⟨[], 1, [], [], [], [], [], [], [], 0⟩

/-- The mailbox of BAR0 (R73). -/
structure Mbx where
  state : Nat               -- 0 IDLE, 1 BUSY, 2 DONE
  reqLen : Nat
  rspLen : Nat
  tag : Nat
  rspTag : Nat
  ignored : Nat
  reqBuf : Sparse Byte
  rspBuf : List Byte
  busyTag : Nat
  latched : List Byte       -- the request as latched by GO
  answer : Option (List Byte) -- response ready and not yet written
  deriving DecidableEq, Repr
def Mbx.reset : Mbx := ⟨0, 0, 0, 0, 0, 0, [], [], 0, [], none⟩

/-! ### Gates and I²C -/

/-- A TEP word in a gate's FIFO, with the mark of the last word of its packet (R87). -/
structure FifoWord where
  word : Word
  last : Bool
  brk : Bool                -- the stream broke before this word (R88)
  deriving DecidableEq, Repr

/-- A change to ingress-side tables loaded for apply step `step` (R108). -/
structure TableLoad where
  step : Nat
  boundaryUs : Nat
  limitUs : Nat             -- B_{j+SL} (R109)
  complete : Bool
  vals : List (Nat × Val)
  deriving DecidableEq, Repr

/-- A staging block of a gate (R104). -/
structure StageBlock where
  stall : Nat
  step : Nat
  late : Bool
  events : List DWord
  firstAt : Nat
  waiting : Bool            -- flushed, and no ring block or queue room was free (R107)
  place : Nat               -- which of the gate's 64 blocks of the staging area it is (R377)
  deriving DecidableEq, Repr

/-- A quarantined event: raw sensor time in µs, with position and polarity (R97). -/
structure QRecord where
  sensorUs : Int
  x : Nat
  y : Nat
  pos : Bool
  deriving DecidableEq, Repr

/-- A gate beyond its objects. -/
structure Gate where
  fifo : List FifoWord
  brk : Bool                -- the stream has broken after the words in the FIFO
  th : Int
  thSet : Bool              -- a TIME_HIGH was accepted since STOPPED (R85)
  span : Bool               -- valid span (R88)
  lastWordAt : Nat          -- when its link last delivered a word (R19)
  packetSince : Bool        -- a TEP packet was accepted since STOPPED, unhitching or table change (R98)
  tableSince : Bool         -- no trusted re-hitch is barred by R98
  offsets : List Nat        -- offsets of the consecutive markers that meet R96
  hitchAt : Option Nat      -- pending hitch: step j
  hitchFrom : Int           -- events timed before it, in µs, are still quarantined (R96)
  bank : Store              -- ingress-side tables in the bank in force, where they differ from their defaults
  loads : List TableLoad
  refractory : Sparse (Nat × Nat × Nat)
  taps : List (Option (Nat × Nat))  -- per tap: open bin and its count
  sampleCount : Nat         -- events that reached stage 5 (R119)
  staging : List StageBlock
  ringUsed : List Nat       -- ring blocks written and not released
  quarantine : List QRecord -- newest first, at most 131,072
  quarNext : Nat            -- place of the quarantine area that the next record takes
  maskBank : Bool           -- the hot-pixel mask in force is that of bank 1 (R376)
  enabled : Bool            -- the enable it acts on (R114)
  deriving DecidableEq, Repr
def Gate.reset : Gate :=
  ⟨[], false, 0, false, false, 0, false, true, [], none, 0, [], [], [], [none, none, none, none], 0, [], [], [], 0, false, false⟩

/-- What queued an I²C script (R111, R143). -/
inductive ScriptKind where
  | setup | xfer | bias (gate : Nat)
  deriving DecidableEq, Repr

structure Script where
  kind : ScriptKind
  bytes : List Byte
  deriving DecidableEq, Repr

/-- An I²C master: the script running (what is left of it), its results, the scripts queued behind it. -/
structure I2c where
  running : Option Script
  rest : List Byte
  result : List Byte
  since : Nat               -- start of the record in progress
  queue : List Script
  deriving DecidableEq, Repr
def I2c.reset : I2c := ⟨none, [], [], 0, []⟩

/-! ### Groom and sieve -/

/-- A marker the groom keeps (R118, R131): sensor time, device time of its edge in ns, rebased second. -/
structure GroomMarker where
  s : Int
  edgeNs : Nat
  second : Nat
  deriving DecidableEq, Repr

/-- A co-observation (R309): gates, positions, second. -/
structure CoObs where
  a : Nat
  b : Nat
  ax : Int
  ay : Int
  bx : Int
  by' : Int
  second : Nat
  deriving DecidableEq, Repr

/-- A proposal (R145): what it would write, and the entry it was reported with. -/
structure Proposal where
  number : Nat
  gate : Nat
  category : Nat
  disposition : Nat
  flags : Nat
  baseStep : Nat
  writes : List Staged
  payload : List Byte
  added : List Nat          -- pixels that a HOT proposal adds and releases (R137)
  released : List Nat
  deriving DecidableEq, Repr

/-- A bias script that waits for room in its master's queue (R143). -/
structure BiasScript where
  gate : Nat
  bytes : List Byte
  since : Nat
  deriving DecidableEq, Repr

structure Groom where
  nextCycle : Nat           -- device time at which the next cycle may start
  cycleStart : Nat
  markers : Sparse (List GroomMarker)
  samples : List (Nat × Nat × Bool × Int) -- gate, pixel, polarity, rebased µs; newest first (R119)
  hotRuns : Sparse (Sparse Nat)     -- gate → pixel → consecutive cycles as candidate
  coolRuns : Sparse (Sparse Nat)
  ownBits : Sparse (List Nat)       -- gate → pixels the groom masked (R137)
  coObs : List CoObs
  checks : List (Nat × Nat)         -- gate pairs the paddock reported (R140)
  clipped : Sparse Nat      -- gate → consecutive clipped TIME proposals
  proposals : List Proposal
  drafts : List Proposal    -- estimated in the cycle, not yet committed
  estimated : Bool
  bias : List BiasScript
  lastApply : List (Nat × Nat × Nat) -- (category, gate, newest apply step) (R126)
  flicked : Sparse Nat      -- gate → tiles that a flicker window selected earlier in the cycle (R136)
  sampled : Nat × List Nat  -- the instant of the newest sample, and the gates sampled at that instant (R120)
  deriving DecidableEq, Repr
def Groom.reset : Groom := ⟨0, 0, [], [], [], [], [], [], [], [], [], [], false, [], [], [], (0, [])⟩

/-- A sieve chain (R150 to R162). -/
structure Chain where
  inbox : List (Int × Option Int)   -- samples that have reached the chain: t_in in 2⁻¹ µs, value or gap
  line : List Int           -- FIR delay line, newest first
  sections : List (Int × Int × Int × Int)   -- x1, x2, y1, y2
  taken : Nat               -- inputs since start
  made : Nat                -- outputs since start
  startUs : Nat             -- inputs with t_in before this are ignored
  stopUs : Option Nat       -- after a stop: inputs with t_in from this on are ignored
  cfg : Option Store        -- after a stop: the settings that the chain ran with, for the inputs before the stop
  prev : Int                -- previous input value
  lastOut : Option (Int × Int)      -- newest output and the t_in of the sample that completed it
  peak : Nat
  crossings : List Int      -- corrected crossings, newest first, 2⁻⁸ µs
  crossedAt : Nat           -- device time of the newest crossing
  deriving DecidableEq, Repr
def Chain.reset : Chain := ⟨[], [], [], 0, 0, 0, none, none, 0, none, 0, [], 0⟩

/-! ### Jobs, yards and stalls -/

/-- What the device keeps of a job image: header, records and sections (R173 to R178). -/
structure JobImage where
  header : List Byte
  layers : List (List Byte)
  groups : List (List Byte)
  outputs : List (List Byte)
  kernels : List Byte
  weights : List Byte
  tables : List (List Byte)
  raw : List Byte
  deriving DecidableEq, Repr

structure JobSlot where
  image : Option JobImage
  latched : Nat × Nat       -- address and length latched by JOB.LOAD (R179)
  startAt : Nat             -- apply step of an accepted start
  yard : Nat                -- JOB.YARD and JOB.GATES of the run, from STARTING until the slot is LOADED again (R26, R185)
  gates : Nat
  leaves : List Nat         -- the leaves that an accepted start is to use, until its boundary (R172)
  deriving DecidableEq, Repr
def JobSlot.reset : JobSlot := ⟨none, (0, 0), 0, 0, 0, []⟩

/-- A re-map or re-admission that waits (R196). -/
structure Remap where
  step : Nat
  readmit : List Nat        -- leaves to re-admit
  members : List Nat        -- failed remote members to re-admit, node × 256 + record
  deriving DecidableEq, Repr

structure Yard where
  cuts : List (Nat × List Nat)      -- first step and active leaves, in leaf order, of each cut of the run, newest first
  failed : List Nat         -- failed leaves
  failedMembers : List Nat  -- failed remote members, node × 256 + record
  waiting : Option Remap
  misses : Sparse Nat       -- local leaf, or 2²¹ + remote member → consecutive missed steps
  serveEnd : Option Nat     -- the step from which on R438 ends serving
  deriving DecidableEq, Repr
def Yard.reset : Yard := ⟨[], [], [], none, [], none⟩

/-- A block record in a stall's queue (R105). -/
structure BlockRec where
  gate : Nat
  block : Nat
  count : Nat
  late : Bool
  step : Nat
  deriving DecidableEq, Repr

/-- An event in a late-carry buffer: the canonical event and the step whose ingress it was carried into. -/
structure LateEvent where
  ev : DWord
  step : Nat
  deriving DecidableEq, Repr

/-- A spike (R224) of a layer in a step. -/
structure Spike where
  layer : Nat
  step : Nat
  port : Nat
  y : Nat
  x : Nat
  channel : Nat
  timeUs : Nat
  deriving DecidableEq, Repr

/-- A row of a map that lies in the scratchpad (R235): its offset there, and the channels and width that give its layout (R234).
-/
structure MapRow where
  layer : Nat
  step : Nat
  row : Nat
  at' : Nat
  channels : Nat
  width : Nat
  deriving DecidableEq, Repr

/-- A cell value of a map: layer, step, stacked row, column, channel. Zero cells are not listed. -/
structure MapCell where
  layer : Nat
  step : Nat
  row : Nat
  x : Nat
  c : Nat
  v : Int
  deriving DecidableEq, Repr

/-- A box of a DETECT list (R257). -/
structure Box where
  x0 : Int
  y0 : Int
  x1 : Int
  y1 : Int
  footX : Int
  footY : Int
  gate : Nat
  cls : Nat
  score : Int
  flagged : Bool
  node : Nat
  cy : Nat
  cx : Nat
  deriving DecidableEq, Repr

/-- A halo slot that its producer has written and tagged (R189), with the rows it holds; it leaves the list when its
consumer releases it. -/
structure HaloSlot where
  layer : Nat               -- the layer whose rows pass
  consumer : Nat
  producer : Nat
  step : Nat
  cells : List MapCell
  spikes : List Spike
  flagged : List Nat        -- flagged rows among them (R263)
  deriving DecidableEq, Repr

/-- What the contribution buffer holds for one neuron (R220): the exact sum, and the bounds and the midpoint of R283. -/
structure Contrib where
  exact : Int
  lo : Int
  hi : Int
  mid : Int
  n : Nat                   -- contributions summed
  deriving DecidableEq, Repr

/-- The contribution buffer (R220): entries by neuron, all of one layer and tick; lane slots taken by event and spike
inputs and by graded inputs. -/
structure ContribBuf where
  layer : Nat
  step : Nat
  tick : Int
  slots : Nat
  graded : Bool
  entries : Sparse Contrib
  deriving DecidableEq, Repr

structure Stall where
  queue : List BlockRec
  queueNext : Nat           -- place of the block queue's ring that the next record takes (R105)
  late : List LateEvent     -- the late-carry buffer, oldest first
  lateNext : Nat            -- place of the late-carry buffer that the next event takes (R376)
  neurons : List Nat        -- whose word each place of the neuron store holds: 1 + packed place of the neuron, 0 a free place
  surface : Sparse Nat      -- SURF2 state words (R239) by packed place
  buf : Option ContribBuf
  sheaf : List MapCell      -- counts being binned
  spikes : List Spike       -- own spikes in the order emitted, and those of halo rows that arrived
  maps : List MapCell       -- cells of own rows, and of halo rows that arrived
  placed : List MapRow      -- where those rows lie in the scratchpad
  boxes : List (Nat × Nat × List Box) -- layer, step, candidates
  first : Nat               -- first step that the leaf serves
  counts : Sparse Nat       -- layer → steps finished since `first`
  eventsDone : Nat          -- steps since `first` whose blocks are all consumed
  halosIn : List (Nat × Nat × Nat)    -- layer, step, producer whose halo rows have arrived or are zero-filled
  truncated : List (Nat × Nat)        -- layer, step whose exchanged rows were truncated (R226)
  records : List (Nat × Nat × DWord)  -- layer, step, record; in the order of emission
  overdrives : Sparse Nat   -- step → overdrives in it
  flagged : List (Nat × Nat × Nat)    -- layer, step, stacked row (R232, R263)
  throttled : Option Nat    -- set while throttled: when the rail confirmed the request, 0 while it has not
  replays : List Nat        -- WINNOW.ACTIVE_CYCLES at the newest replays
  windowReplays : Nat       -- WINNOW.REPLAYS and ACTIVE_CYCLES when the measuring window opened
  windowCycles : Nat
  watched : Sparse Nat      -- layer → outputs counted for the watch (R284)
  coarse : List (Nat × Nat) -- layer, error of the newest COARSE samples (R285), newest first
  forced : List (Nat × Nat × Option Nat)  -- layers that tripped, the step from which they run exact, and the step of
                            -- their release (R285, R286)
  deriving DecidableEq, Repr
def Stall.reset : Stall :=
  ⟨[], 0, [], 0, [], [], none, [], [], [], [], [], 0, [], 0, [], [], [], [], [], none, [], 0, 0, [], [], []⟩

/-! ### Paddock and HOLD -/

/-- A track record (R321). Position in 1/256 mm. -/
structure Track where
  id : Nat
  cls : Nat
  status : Nat
  hits : Nat
  misses : Nat
  x : Int
  y : Int
  vx : Int
  vy : Int
  flags : Nat
  score : Int
  entryA : Nat
  entryB : Nat
  cost : Nat
  zones : Nat
  predX : Int
  predY : Int
  deriving DecidableEq, Repr
def Track.reset : Track := ⟨0, 0, 0, 0, 0, 0, 0, 0, 0, 0, 0, 0, 0xFF, 0xFFFF, 0, 0, 0⟩

/-- A detection on the floor (R300 to R307). -/
structure Detection where
  x : Int
  y : Int
  rawX : Int                -- from entry A, before the correction of R303
  rawY : Int
  footX : Int
  footY : Int
  bx : Int                  -- of a merged detection: the floor position from entry B
  by' : Int
  track : Nat
  cls : Nat
  score : Int
  entryA : Nat
  entryB : Nat
  flags : Nat
  channel : Nat
  cost : Nat
  deriving DecidableEq, Repr

/-- A demand word on its way to D0, with its complements (R329). -/
structure DemandWord where
  demand : Nat
  complement : Nat
  step8 : Nat
  rearm : Nat               -- 1 with complement 0
  rearmN : Nat
  zoneless : Nat            -- pairs whose zone mask is 0 in force
  clearSteps : List Nat     -- HOLD.CLEAR_STEPS of the pairs in the fused step
  deriving DecidableEq, Repr

/-- The result of the fusion in progress (FUSION_START computes it, FUSION_COMPLETE publishes it). -/
structure Fusion where
  k : Nat
  since : Nat
  detections : List Detection
  before : List (Nat × Track)       -- records in use at the start
  tracks : Sparse Track
  occupied : Nat
  unknown : Nat
  demand : Nat
  births : Nat
  deaths : Nat
  solveCycles : Nat
  capped : Bool
  cappedTold : Bool
  uncovered : Nat
  noJob : Bool
  occupants : List Nat
  report : Nat
  trough : Nat
  word : DemandWord         -- what goes to D0
  coObs : List CoObs        -- co-observations for the groom
  deriving DecidableEq, Repr

structure Paddock where
  tracks : Sparse Track     -- 4,096 records; FREE records are not listed
  fusion : Option Fusion
  prevOccupied : Nat
  prevUnknown : Nat
  setsLost : Bool
  rearm : Bool              -- the next result carries the re-arm bit (R330)
  resetting : Bool
  deriving DecidableEq, Repr
def Paddock.reset : Paddock := ⟨[], none, 0, 0, false, true, false⟩

/-- The HOLD parts in D0 (R325 to R330). HOLD.STATE and HOLD.CAUSE are in the dictionary. -/
structure HoldD0 where
  link : Option DemandWord
  ref : Option Nat          -- low 8 bits of the previous result's step
  lastAt : Nat              -- when the previous result reached D0
  tripped : Bool            -- the watchdog has tripped and is not re-armed
  clear : List Nat          -- clear counts of the 16 pairs
  everFused : Bool          -- a fused step since the reset (R327)
  deriving DecidableEq, Repr
def HoldD0.reset : HoldD0 := ⟨none, none, 0, false, List.replicate 16 0, false⟩

/-! ### Troughs and barrow -/

structure Trough where
  sets : List (List (List Byte))    -- reserved sets whose entries are not yet visible, oldest first
  reserved : Nat            -- entries reserved by barrow channels (R355)
  droppedBefore : Bool
  latch : List Byte         -- pop latch (R346)
  deriving DecidableEq, Repr
def Trough.reset : Trough := ⟨[], 0, false, List.replicate 64 0⟩

/-- A barrow descriptor (R350). -/
structure Desc where
  src : Nat
  dst : Nat
  len : Nat
  control : Nat
  tag : Nat
  next : Nat
  srcRes : Nat              -- reserved bits as read
  dstRes : Nat
  nextRes : Nat
  deriving DecidableEq, Repr

structure Chan where
  desc : Option Desc        -- latched descriptor
  index : Nat
  chain : Nat
  reserved : Bool
  deriving DecidableEq, Repr
def Chan.reset : Chan := ⟨none, 0, 0, false⟩

structure Engine where
  last : Nat                -- channel last served, 0 to 31
  running : Option Nat
  deriving DecidableEq, Repr
def Engine.reset : Engine := ⟨31, none⟩

/-! ### Memory controller -/

structure MemCtl where
  trained : List Bool       -- halves A and B: training has ended since the half came from OFF
  zeroed : List Bool
  rates : List Nat          -- the rate that passed; 0 where training failed
  wbQueue : List Nat        -- blocks queued for a scrub write-back (R371)
  ceTimes : Sparse (List Nat)       -- channel → times of its corrected codewords within the last hour, newest first
  retrainedAt : Sparse Nat
  granaryBad : List Nat     -- uncorrectable granary words
  sweptAt : Nat
  fitted : Nat              -- GDDR6 devices on the board, as the newest training found them (R363)
  scrubbedAt : Nat          -- the newest scrub read, or when both halves were last ON again (R371)
  deriving DecidableEq, Repr
def MemCtl.reset : MemCtl := ⟨[false, false], [false, false], [0, 0], [], [], [], [], 0, 8, 0⟩

/-! ### Time unit and PTP -/

/-- A foreign master's newest Announce on a port (R408). -/
structure Foreign where
  port : Nat
  clockId : Nat
  portNumber : Nat
  a : AnnounceData
  at' : Nat
  prev : Option Nat         -- when the Announce before it came
  deriving DecidableEq, Repr

/-- A Sync that waits for its Follow_Up (R413). -/
structure PendingSync where
  h : PtpHdr
  at' : Nat
  deriving DecidableEq, Repr

structure Ptp where
  slew : Int
  foreign : List Foreign
  master : Option Foreign
  pendingSync : Option PendingSync
  lastSyncAt : Nat
  lastAnnounceAt : Nat
  lockRun : Nat
  requalify : Nat
  syncDiff : Option Int     -- t2 − t1 − c_s of the latest Sync, 2⁻¹⁶ ns
  delayReqAt : Option (Nat × Nat)   -- sequence and t3 of the newest Delay_Req
  pdelayAt : List (Option (Nat × Nat))
  seq : Nat
  lastTx : Sparse Nat       -- kind of own message → when it was last sent
  qualifyAt : Nat
  deriving DecidableEq, Repr
def Ptp.reset : Ptp := ⟨0, [], none, none, 0, 0, 0, 0, none, none, [none, none], 0, [], 0⟩

structure Tout where
  active : Bool
  endAt : Nat               -- end of the pulse in progress, 2⁻³² ns
  next : Nat                -- index of the next pulse
  deriving DecidableEq, Repr
def Tout.reset : Tout := ⟨false, 0, 0⟩

structure TimeUnit where
  nextBoundary : Nat        -- number of the next boundary to signal
  gsyncActive : Nat         -- groups whose pin is active
  gsyncEnd : Nat
  touts : Sparse Tout
  tcapLast : Sparse Nat
  deriving DecidableEq, Repr
def TimeUnit.reset : TimeUnit := ⟨0, 0, 0, [], []⟩

/-! ### Fieldnet -/

/-- The newest HEARTBEAT of a partner (R436). -/
structure Heartbeat where
  role : Nat
  jobState : Nat
  leaves : List Nat
  digest : List Byte
  periodUs : Nat
  t0Sec : Nat
  t0Ns : Nat
  remapStep : Nat
  deliveredStep : Nat
  leadYard : Nat
  memberYard : Nat
  deriving DecidableEq, Repr

structure Peer where
  seen : List Nat           -- accepted sequences, newest first, at most 1,024
  lastAt : Nat              -- when a frame was last accepted
  beats : List Heartbeat    -- the newest HEARTBEAT of each role and pair of records, newest first
  txSeq : Nat
  sentAt : Nat              -- when a frame was last sent to it
  covered : List (Nat × Nat × Nat)  -- its record, step, covered gates it delivered
  deriving DecidableEq, Repr
def Peer.reset : Peer := ⟨[], 0, [], 0, 0, []⟩

/-- A set of frames being collected (R434). -/
structure RxSet where
  kind : Nat
  src : Nat
  step : Nat
  parts : Nat
  tag : List Byte           -- what tells sets of one kind, step and sender apart
  got : List (Nat × List Byte)
  deriving DecidableEq, Repr

/-- A complete RECORDS set: the records of one leaf and layer, and how many its sender dropped (R431). -/
structure RecordsSet where
  node : Nat
  step : Nat
  layer : Nat
  stall : Nat
  dropped : Nat
  records : List DWord
  deriving DecidableEq, Repr

structure Net where
  peers : Sparse Peer
  sets : List RxSet
  halves : List ((Nat × Nat × Nat × Nat) × List (Nat × List Byte))
                            -- consumer, producer, layer, step and rows of complete HALO sets whose slot lacks a side
  remaps : List (Nat × Nat × List Nat)      -- step j, lead, leaf words held complete
  boxesGot : List (Nat × Nat × Nat × Nat × List Box)  -- node, its record, step, layer, list
  recordsGot : List RecordsSet
  sentDelivery : Nat        -- newest step that the device has delivered to a lead (R436)
  deriving DecidableEq, Repr
def Net.reset : Net := ⟨[], [], [], [], [], [], 0⟩

/-! ### Power -/

/-- A domain in transition (R447): which phase, and when the transition began. -/
structure Domain where
  phase : Nat               -- 0 none, 1 supply, 2 clock, 3 memory, 4 logic, 5 quiescing, 6 switches opening
  since : Nat
  low : Bool                -- it began at OFF (RISING) or at RET (FALLING)
  blockedTarget : Nat       -- target at which it was blocked
  deriving DecidableEq, Repr
def Domain.reset : Domain := ⟨0, 0, true, 0⟩

/-- A PMBus transaction that waits or is in flight (R464). -/
inductive PmbKind where
  | opOn | opOff | emergency | vout | readVout | statusWord
  deriving DecidableEq, Repr

structure PmbReq where
  kind : PmbKind
  slot : Nat
  mv : Nat
  deriving DecidableEq, Repr

structure Power where
  domains : Sparse Domain
  muckVotes : List Nat
  sleep : Nat               -- 0 awake, 1 retained, 2 deep
  wakeAsserted : Nat        -- level wakes asserted
  blindUntil : Nat          -- edge detectors re-armed until then (R458)
  pgood : Nat               -- PGOOD inputs, bit r
  pmbus : List PmbReq
  alertAt : Option Nat      -- when STATUS_WORD reads were last started
  railCut : Nat             -- slots cut off by LIMIT_PAIR (R467)
  targets : Sparse Nat      -- VOUT targets sent by slot, mV
  bootVote : Bool           -- FW ON vote of R452 for D1 and D2
  busyServer : Bool         -- R459: BUSY until D12 and D13 are ON
  trims : Nat               -- times PCLK has been trimmed (R530)
  saves : Sparse Bool       -- domains with a valid save area
  deriving DecidableEq, Repr
def Power.reset : Power :=
  ⟨[(1, ⟨1, 0, true, 0⟩), (2, ⟨1, 0, true, 0⟩), (3, ⟨1, 0, true, 0⟩), (10, ⟨1, 0, true, 0⟩)], [], 0, 0, 0, 0, [], none, 0, [], true,
    false, 0, []⟩

structure Supply where
  openedAt : Nat
  changedAt : Nat           -- when the change in progress was decided
  confirmedAt : Nat
  holdoffUntil : Nat
  deriving DecidableEq, Repr
def Supply.reset : Supply := ⟨0, 0, 0, 0⟩

/-! ### Boot, host link, muck-out -/

/-- Where the control processor stands (R494 to R496, R504). -/
inductive BootPhase where
  | held                    -- in power-on reset or RESET_N low
  | rom                     -- boot ROM runs, no image started
  | verified                -- a verified image is copied and about to start
  | running                 -- firmware and dictionary server run
  deriving DecidableEq, Repr

/-- A QSPI write in progress (R501). -/
structure QspiOp where
  value : Nat
  image : List Byte         -- empty where the image there stays
  at' : Nat                 -- place of the configuration block
  block : List Byte
  pointer : List Byte       -- the boot pointer, written last
  deriving DecidableEq, Repr

structure Boot where
  phase : BootPhase
  powerReset : Bool         -- held by the VDD_AON monitor (R523)
  resetNLow : Bool
  qspi : Sparse Byte        -- the NOR, erased bytes not listed
  op : Option QspiOp
  recStatus : Nat           -- status of the last LOAD or BOOT (R398)
  image : List Byte         -- firmware image running
  blockPending : Bool       -- a configuration block's bale has not applied (R43)
  resetAfterResponse : Bool
  deriving DecidableEq, Repr
def Boot.reset : Boot := ⟨.rom, false, false, [], none, 0, [], false, false⟩

structure MuckUnit where
  running : Bool
  active : Bool             -- a pass is in progress
  startedAt : Nat
  everRan : Bool
  requested : Bool
  releasing : Bool
  queued : Bool
  failed : List Nat         -- slices that failed once in this pass
  retry : Option Nat        -- slice to repeat first
  preempted : Nat
  sliceAt : Nat
  late : Bool
  passNo : Nat              -- MUCK.PASSES of the unit when the pass started
  deriving DecidableEq, Repr
def MuckUnit.reset : MuckUnit := ⟨false, false, 0, false, false, false, false, [], none, 0, 0, false, 0⟩

structure HostLink where
  nsLatch : Nat             -- nanoseconds latched with the status page seconds
  lost : Bool               -- the link is as a link loss left it: no shadow is written (R396)
  deriving DecidableEq, Repr
def HostLink.reset : HostLink := ⟨0, true⟩

/-- What the block has put out: responses, frames, PTP messages and bus writes, newest first. -/
inductive Out where
  | sdp (port dest : Nat) (bytes : List Byte)
  | abort (code detail : Nat)
  | frame (ports : Nat) (f : YardFrame)
  | ptp (kind port : Nat) (a b : Int)
  | i2c (grp op addr : Nat) (bytes : List Byte)
  | pmbus (code slot word : Nat)
  | bytes (b : List Byte)
  | completion (poisoned : Bool) (b : List Byte)
  | recovery (op status tag : Nat) (bytes : List Byte)
  | net (kind port addr : Nat) (bytes : List Byte)
  deriving DecidableEq, Repr

/-- Why a step stops with a fault. Safe: the model stops where the manual gives no effect. -/
inductive Fault where
  /-- Raised by RESET_N_ASSERT for a low pulse from 100 ns to below 1 µs, whose effect R519 does not specify. Safe. -/
  | resetPulseUnspecified
  deriving DecidableEq, Repr

/-- Why the model gives a command no meaning. -/
inductive Refusal where
  /-- Raised by an arm of `exec` whose command has no meaning in the model yet. Safe. -/
  | notModelled (mnemonic : String)
  deriving DecidableEq, Repr

/-- The whole machine. -/
structure State where
  now : Nat                 -- device time in 2⁻³² ns since the epoch (R400)
  dict : Store
  pairs : Store             -- the last value of each PAIR that passed its check, where it is not the default (R78)
  mem : List Host.Cell      -- device address space (R361) and the host memory behind the host window
  poison : List Nat         -- 64-byte blocks that read as uncorrectable, by block number
  keptPins : Sparse (Nat × Nat)     -- fault blocks: sticky bits that came through a chip reset, and those of them pinned (R482)
  draws : Nat               -- the model's own: free values drawn so far
  out : List Out
  reacts : List (Nat × Nat) -- reactions that have fired and wait for the end of the command: block, source
  steps : List StepRec      -- alive steps, oldest first
  sdp : Sdp
  mbx : Mbx
  gates : Sparse Gate
  i2c : Sparse I2c
  groom : Groom
  chains : Sparse Chain
  sieveAt : Nat             -- device time of the previous evaluation (R163)
  slots : Sparse JobSlot
  yards : Sparse Yard
  stalls : Sparse Stall
  halos : List HaloSlot
  lists : List (Nat × Nat × Nat × List Box) -- slot, layer, step: merged K-best lists (R258)
  paddock : Paddock
  hold : HoldD0
  troughs : Sparse Trough
  troughResetting : Bool
  chans : Sparse Chan
  engines : Sparse Engine
  memctl : MemCtl
  host : HostLink
  time : TimeUnit
  ptp : Ptp
  net : Net
  power : Power
  supply : Supply
  boot : Boot
  muck : Sparse MuckUnit
  pending : List Instr      -- the model's own: commands that wait, first in first out
  deriving DecidableEq, Repr

/-- The machine right after reset: D0 has left power-on reset with RESET_N high, start-up under R452 has begun, and
D1, D2, D3 and D10 rise under the FW votes of R445 and R452. The boot record says so (R508); every other object reads its
default (R43). -/
def State.reset : State where
  now := 0
  dict := [(0x604105 * 2 ^ 24, .num 1), (0x604205 * 2 ^ 24, .num 1), (0x604305 * 2 ^ 24, .num 1), (0x604A05 * 2 ^ 24, .num 1),
    (0xB00003 * 2 ^ 24, .num 1)]
  pairs := []
  mem := [(0x1200033000, 0x01), (0x1200033002, 0xFF), (0x1200033003, 0xFF), (0x1200033004, 0xFF), (0x1200033007, 0x01)]
  poison := []
  keptPins := []
  draws := 0
  out := []
  reacts := []
  steps := []
  sdp := Sdp.reset
  mbx := Mbx.reset
  gates := []
  i2c := []
  groom := Groom.reset
  chains := []
  sieveAt := 0
  slots := []
  yards := []
  stalls := []
  halos := []
  lists := []
  paddock := Paddock.reset
  hold := HoldD0.reset
  troughs := []
  troughResetting := false
  chans := []
  engines := []
  memctl := MemCtl.reset
  host := HostLink.reset
  time := TimeUnit.reset
  ptp := Ptp.reset
  net := Net.reset
  power := Power.reset
  supply := Supply.reset
  boot := Boot.reset
  muck := []
  pending := []

end Sys2Proof.Machine
end

