-- ==== Sys2Proof/Machine/ObjTable.lean ====
section
/-!
DEFINITION. Every object of the dictionary as its chapter's table gives it: subindex, type, element count, access,
default, range (R34 to R40, R535), with the index map (R76) and the default of every element. The 32 presets of the
sieve (R157) and the part values are here too.
-/
namespace Sys2Proof.Machine

/-- Types of R36. -/
inductive Ty where
  | bool | u8 | u16 | u32 | u64 | i8 | i16 | i32 | i64 | pair16 | pair32 | str | domain
  deriving DecidableEq, Repr

/-- Type code of R36, without the array bit. -/
def Ty.code : Ty → Nat
  | .bool => 1 | .u8 => 2 | .u16 => 3 | .u32 => 4 | .u64 => 5 | .i8 => 6 | .i16 => 7 | .i32 => 8 | .i64 => 9
  | .pair16 => 0x0A | .pair32 => 0x0B | .str => 0x0C | .domain => 0x0D

/-- Size in bytes of a value or element (R36); 0 for STR and DOMAIN, whose length is the item's. -/
def Ty.size : Ty → Nat
  | .bool => 1 | .u8 => 1 | .u16 => 2 | .u32 => 4 | .u64 => 8 | .i8 => 1 | .i16 => 2 | .i32 => 4 | .i64 => 8
  | .pair16 => 4 | .pair32 => 8 | .str => 0 | .domain => 0

def Ty.isPair : Ty → Bool
  | .pair16 => true
  | .pair32 => true
  | _ => false

/-- Width in bits of the value half of a PAIR, of the whole value otherwise. -/
def Ty.width : Ty → Nat
  | .pair16 => 16
  | .pair32 => 32
  | t => 8 * t.size

/-- Access rights of R40. -/
inductive Access where
  | const | ro | rw | wo | rwb
  deriving DecidableEq, Repr

def Access.code : Access → Nat
  | .const => 0 | .ro => 1 | .rw => 2 | .wo => 3 | .rwb => 4

/-- The default of an object: one number for every element, or a value that `specialDefault` gives. -/
inductive Dflt where
  | num (n : Nat)
  | sp
  deriving DecidableEq, Repr

/-- The range of R535 that is checked at the write. -/
inductive Rng where
  | any
  | rng (lo hi : Nat)
  | srng (lo hi : Int)
  | vals (l : List Nat)
  | trough                  -- 0 to 16,383, or 0xFFFF for none
  | orNone (hi none : Nat)
  | stepped (lo hi step : Nat)
  | within (mask : Nat)
  deriving DecidableEq, Repr

/-- A row of an object table. `subs` is the number of consecutive subindices of a row such as ":10 + g". -/
structure ObjRow where
  sub : Nat
  subs : Nat
  ty : Ty
  arr : Bool
  cnt : Nat
  acc : Access
  dflt : Dflt
  rng : Rng
  maxLen : Nat
  deriving DecidableEq, Repr

/-- The objects of an index, and how many units repeat it at the following indices. -/
structure ObjBlock where
  base : Nat
  units : Nat
  maxSub : Nat
  rows : List ObjRow
  deriving Repr

/-- The rounded coefficients of preset p (R157): a list of sections b0, b1, b2, a1, a2 in Q2.30. -/
def presetRom : List (List (List Int)) := [
  [[314491699, 628983398, 314491699, 0, 184224972]],
  [[221805086, 443610172, 221805086, -396777000, 210255520]],
  [[72429549, 144859098, 72429549, -1227265970, 443242341]],
  [[21564350, 43128699, 21564350, -1676130396, 688645970]],
  [[3888751, 7777502, 3888751, -1957103774, 898916953]],
  [[1014355, 2028710, 1014355, -2052132225, 982447822]],
  [[259157, 518315, 259157, -2099786147, 1027080952]],
  [[42016, 84031, 42016, -2128402107, 1054828346]],
  [[279056408, 558112816, 279056408, 0, 42483808], [388281872, 776563745, 388281872, 0, 479385665]],
  [[197464337, 394928673, 197464337, -353234944, 69350466], [271980428, 543960856, 271980428, -486533381, 500713269]],
  [[66448722, 132897445, 66448722, -1125925222, 317978288], [83704983, 167409967, 83704983, -1418319997, 679398106]],
  [[20440642, 40881285, 20440642, -1588788093, 596808838], [23497607, 46995214, 23497607, -1826396544, 846645149]],
  [[3794062, 7588125, 3794062, -1909449568, 850883994], [4039635, 8079269, 4039635, -2033039521, 975456236]],
  [[1001305, 2002611, 1001305, -2025731614, 955995012], [1034533, 2069067, 1034533, -2092954698, 1023351008]],
  [[257442, 514885, 257442, -2085891917, 1013179863], [261767, 523534, 261767, -2120929621, 1048234864]],
  [[41903, 83805, 41903, -2122670929, 1049096715], [42186, 84372, 42186, -2137037473, 1063464394]],
  [[97612893, 0, -97612893, 0, 878516038]],
  [[93250287, 0, -93250287, -605977096, 887241251]],
  [[70910858, 0, -70910858, -1418217153, 931920109]],
  [[59609219, 0, -59609219, -1640901024, 954523386]],
  [[39575820, 0, -39575820, -1910889609, 994590185]],
  [[32185850, 0, -32185850, -1981157193, 1009370125]],
  [[16538307, 0, -16538307, -2088375175, 1040665211]],
  [[13290973, 0, -13290973, -2104177758, 1047159877]],
  [[26188825, 0, -26188825, 0, 1021364174]],
  [[24936821, 0, -24936821, -648197140, 1023868182]],
  [[18651537, 0, -18651537, -1492122993, 1036438749]],
  [[15549742, 0, -15549742, -1712190755, 1042642339]],
  [[10175233, 0, -10175233, -1965214810, 1053391358]],
  [[8231520, 0, -8231520, -2026721036, 1057278784]],
  [[4182897, 0, -4182897, -2112781764, 1065376030]],
  [[3353880, 0, -3353880, -2123895232, 1067034065]]]

/-- Group delay of each preset in hundredths of a decimated sample (the table of R157). -/
def presetDelays : List Nat := [71, 97, 218, 446, 1124, 2250, 4501, 11254, 131, 180, 402, 825, 2077, 4158, 8317, 20794, 1000, 1051, 1414, 1701, 2613, 3236, 6392, 7979, 4000, 4206, 5657, 6805, 10453, 12944, 25570, 31915]
/-- The objects at index 0x5010, from 01_steps_and_the_event_path.md. -/
def rows5010 : List ObjRow := [
  ⟨0x01, 1, .pair32, false, 1, .rwb, .num 0xFFFFFC17000003E8, .rng 100 50000, 0⟩,
  ⟨0x02, 1, .u8, false, 1, .rwb, .num 4, .rng 1 8, 0⟩,
  ⟨0x03, 1, .u64, false, 1, .rwb, .num 0, .any, 0⟩,
  ⟨0x04, 1, .u32, false, 1, .rwb, .num 0, .any, 0⟩,
  ⟨0x05, 1, .u64, false, 1, .ro, .num 0, .any, 0⟩,
  ⟨0x06, 1, .u64, false, 1, .ro, .num 0, .any, 0⟩,
  ⟨0x07, 1, .u32, false, 1, .ro, .num 0, .any, 0⟩,
  ⟨0x08, 1, .u32, false, 1, .ro, .num 0, .any, 0⟩,
  ⟨0x09, 1, .u64, false, 1, .ro, .num 0, .any, 0⟩,
  ⟨0x0A, 1, .u64, false, 1, .ro, .num 0, .any, 0⟩,
  ⟨0x0B, 1, .u64, false, 1, .ro, .num 0, .any, 0⟩]

/-- The objects at index 0x1000, from 02_the_dictionary.md. -/
def rows1000 : List ObjRow := [
  ⟨0x01, 1, .str, false, 1, .const, .sp, .any, 64⟩,
  ⟨0x02, 1, .str, false, 1, .const, .sp, .any, 64⟩,
  ⟨0x03, 1, .u16, false, 1, .const, .num 176, .any, 0⟩,
  ⟨0x04, 1, .str, false, 1, .const, .sp, .any, 64⟩,
  ⟨0x05, 1, .u64, false, 1, .const, .sp, .any, 0⟩,
  ⟨0x06, 1, .u32, false, 1, .ro, .sp, .any, 0⟩,
  ⟨0x07, 1, .u16, false, 1, .ro, .num 1, .any, 0⟩]

/-- The objects at index 0x1001, from 02_the_dictionary.md. -/
def rows1001 : List ObjRow := [
  ⟨0x01, 1, .u8, false, 1, .const, .num 32, .any, 0⟩,
  ⟨0x02, 1, .u8, false, 1, .const, .num 36, .any, 0⟩,
  ⟨0x03, 1, .u8, false, 1, .ro, .sp, .any, 0⟩,
  ⟨0x04, 1, .bool, false, 1, .const, .num 1, .any, 0⟩,
  ⟨0x05, 1, .u8, false, 1, .const, .num 25, .any, 0⟩,
  ⟨0x06, 1, .u16, false, 1, .const, .num 4096, .any, 0⟩,
  ⟨0x07, 1, .u16, false, 1, .const, .num 16384, .any, 0⟩,
  ⟨0x08, 1, .u16, false, 1, .const, .num 256, .any, 0⟩,
  ⟨0x09, 1, .u8, false, 1, .const, .num 64, .any, 0⟩]

/-- The objects at index 0x1100, from 02_the_dictionary.md. -/
def rows1100 : List ObjRow := [
  ⟨0x01, 1, .u8, false, 1, .wo, .num 0, .rng 1 2, 0⟩,
  ⟨0x02, 1, .u16, false, 1, .ro, .num 0, .any, 0⟩,
  ⟨0x03, 1, .u32, false, 1, .ro, .num 0, .any, 0⟩,
  ⟨0x04, 1, .u64, false, 1, .ro, .num 0, .any, 0⟩,
  ⟨0x05, 1, .u16, false, 1, .ro, .num 0, .any, 0⟩,
  ⟨0x06, 1, .u32, false, 1, .ro, .num 0, .any, 0⟩,
  ⟨0x07, 1, .u64, false, 1, .ro, .num 0, .any, 0⟩,
  ⟨0x08, 1, .u8, false, 1, .ro, .num 0, .any, 0⟩,
  ⟨0x09, 1, .bool, false, 1, .rwb, .num 0, .any, 0⟩]

/-- The objects at index 0x1200, from 02_the_dictionary.md. -/
def rows1200 : List ObjRow := [
  ⟨0x01, 1, .bool, false, 1, .rwb, .num 1, .any, 0⟩,
  ⟨0x02, 1, .bool, false, 1, .rwb, .num 0, .any, 0⟩,
  ⟨0x03, 1, .u16, false, 1, .rwb, .num 60, .rng 1 3600, 0⟩,
  ⟨0x04, 1, .u16, false, 1, .rwb, .num 1472, .rng 512 9000, 0⟩,
  ⟨0x05, 1, .u8, false, 1, .ro, .num 0, .any, 0⟩,
  ⟨0x06, 1, .u32, false, 1, .ro, .num 0, .any, 0⟩,
  ⟨0x07, 1, .u32, false, 1, .ro, .num 0, .any, 0⟩,
  ⟨0x08, 1, .u32, false, 1, .ro, .num 0, .any, 0⟩]

/-- The objects at index 0x1201, from 02_the_dictionary.md. -/
def rows1201 : List ObjRow := [
  ⟨0x01, 1, .u64, true, 8, .ro, .num 0, .any, 0⟩]

/-- The objects at index 0x2000, from 03_gates.md. -/
def rows2000 : List ObjRow := [
  ⟨0x01, 1, .u32, false, 1, .rwb, .num 0, .any, 0⟩,
  ⟨0x02, 1, .pair32, false, 1, .rwb, .num 0xFFFFFFFF00000000, .any, 0⟩,
  ⟨0x03, 1, .pair16, false, 1, .rwb, .num 0xFFFF0000, .any, 0⟩,
  ⟨0x04, 1, .u16, false, 1, .rwb, .num 50, .rng 10 1000, 0⟩,
  ⟨0x05, 1, .u8, false, 1, .rwb, .num 0, .any, 0⟩,
  ⟨0x06, 1, .u16, false, 1, .rwb, .num 25, .rng 1 1000, 0⟩,
  ⟨0x10, 6, .domain, false, 1, .rwb, .num 0, .any, 4096⟩,
  ⟨0x18, 6, .domain, false, 1, .wo, .num 0, .any, 4096⟩,
  ⟨0x20, 6, .domain, false, 1, .ro, .num 0, .any, 4096⟩,
  ⟨0x28, 6, .u8, false, 1, .ro, .num 0, .any, 0⟩]

/-- The objects at index 0x2100 and the further units of the family, from 03_gates.md. -/
def rows2100 : List ObjRow := [
  ⟨0x01, 1, .bool, false, 1, .rwb, .num 0, .any, 0⟩,
  ⟨0x02, 1, .u8, false, 1, .rwb, .num 2, .vals [1, 2, 4], 0⟩,
  ⟨0x03, 1, .u16, false, 1, .rwb, .num 1500, .rng 80 2500, 0⟩,
  ⟨0x04, 1, .u8, false, 1, .rwb, .num 0, .rng 0 1, 0⟩,
  ⟨0x05, 1, .u8, false, 1, .rwb, .num 0, .any, 0⟩,
  ⟨0x06, 1, .u8, false, 1, .rwb, .num 1, .any, 0⟩,
  ⟨0x07, 1, .u16, false, 1, .rwb, .num 2048, .rng 1 2048, 0⟩,
  ⟨0x08, 1, .u16, false, 1, .rwb, .num 2048, .rng 1 2048, 0⟩,
  ⟨0x09, 1, .u16, false, 1, .rwb, .num 0, .rng 0 10000, 0⟩,
  ⟨0x0A, 1, .u8, false, 1, .rwb, .num 0, .rng 0 1, 0⟩,
  ⟨0x0B, 1, .u16, false, 1, .rwb, .num 100, .rng 1 65535, 0⟩,
  ⟨0x0C, 1, .u32, false, 1, .rwb, .num 1024, .rng 1 134217727, 0⟩,
  ⟨0x0D, 1, .u8, false, 1, .ro, .num 0, .any, 0⟩,
  ⟨0x0E, 1, .u64, false, 1, .ro, .num 0, .any, 0⟩,
  ⟨0x0F, 1, .i32, false, 1, .ro, .num 0, .any, 0⟩,
  ⟨0x10, 1, .u8, false, 1, .ro, .num 0, .any, 0⟩,
  ⟨0x11, 1, .u64, false, 1, .ro, .sp, .any, 0⟩,
  ⟨0x12, 1, .u64, false, 1, .ro, .num 0, .any, 0⟩,
  ⟨0x13, 1, .u64, false, 1, .ro, .num 0, .any, 0⟩,
  ⟨0x14, 1, .u64, true, 11, .ro, .num 0, .any, 0⟩,
  ⟨0x15, 1, .u32, true, 14, .ro, .num 0, .any, 0⟩,
  ⟨0x16, 1, .bool, false, 1, .wo, .num 0, .any, 0⟩]

/-- The objects at index 0x2200 and the further units of the family, from 03_gates.md. -/
def rows2200 : List ObjRow := [
  ⟨0x01, 1, .u64, false, 1, .rwb, .num 0, .any, 0⟩,
  ⟨0x02, 1, .u64, false, 1, .rwb, .num 0, .any, 0⟩,
  ⟨0x03, 1, .u16, false, 1, .rwb, .num 0, .any, 0⟩,
  ⟨0x04, 1, .i32, false, 1, .rwb, .num 0, .any, 0⟩,
  ⟨0x05, 1, .bool, false, 1, .rwb, .num 0, .any, 0⟩,
  ⟨0x06, 1, .domain, false, 1, .rwb, .num 0, .any, 524288⟩,
  ⟨0x07, 1, .u32, true, 2048, .rwb, .num 0, .any, 0⟩,
  ⟨0x08, 1, .u32, true, 4, .rwb, .num 0, .any, 0⟩,
  ⟨0x09, 1, .u64, true, 4, .rwb, .num 0, .any, 0⟩,
  ⟨0x0A, 1, .u32, true, 4, .rwb, .num 0, .any, 0⟩,
  ⟨0x0B, 1, .u32, true, 4, .rwb, .num 0, .any, 0⟩,
  ⟨0x0C, 1, .u32, true, 128, .rwb, .num 0, .any, 0⟩,
  ⟨0x0D, 1, .u32, true, 128, .rwb, .num 0, .any, 0⟩]

/-- The objects at index 0x2800, from 04_groom.md. -/
def rows2800 : List ObjRow := [
  ⟨0x01, 1, .u16, false, 1, .rwb, .num 10, .rng 1 60, 0⟩,
  ⟨0x02, 1, .u8, false, 1, .rwb, .num 4, .rng 0 10, 0⟩,
  ⟨0x03, 1, .u16, false, 1, .rwb, .num 65535, .trough, 0⟩,
  ⟨0x04, 1, .u8, true, 36, .rwb, .num 1, .rng 0 2, 0⟩,
  ⟨0x05, 1, .u8, true, 36, .rwb, .num 2, .rng 0 2, 0⟩,
  ⟨0x06, 1, .u8, true, 36, .rwb, .num 1, .rng 0 2, 0⟩,
  ⟨0x07, 1, .u8, true, 36, .rwb, .num 0, .rng 0 2, 0⟩,
  ⟨0x08, 1, .u64, false, 1, .rwb, .num 0, .any, 0⟩,
  ⟨0x09, 1, .u64, false, 1, .rwb, .num 0, .any, 0⟩,
  ⟨0x0A, 1, .u64, false, 1, .rwb, .num 0, .any, 0⟩,
  ⟨0x0B, 1, .u64, false, 1, .rwb, .num 0, .any, 0⟩,
  ⟨0x10, 1, .u16, false, 1, .rwb, .num 16, .rng 4 65535, 0⟩,
  ⟨0x11, 1, .u16, false, 1, .rwb, .num 60, .rng 10 600, 0⟩,
  ⟨0x12, 1, .u32, false, 1, .rwb, .num 50000, .any, 0⟩,
  ⟨0x13, 1, .u32, false, 1, .rwb, .num 2000, .rng 64 1000000, 0⟩,
  ⟨0x14, 1, .u32, false, 1, .rwb, .num 5497558, .any, 0⟩,
  ⟨0x18, 1, .u16, false, 1, .rwb, .num 64, .rng 4 4096, 0⟩,
  ⟨0x19, 1, .u16, false, 1, .rwb, .num 20, .any, 0⟩,
  ⟨0x1A, 1, .u8, false, 1, .rwb, .num 2, .rng 1 16, 0⟩,
  ⟨0x1B, 1, .u16, false, 1, .rwb, .num 256, .any, 0⟩,
  ⟨0x1C, 1, .u32, false, 1, .rwb, .num 4096, .any, 0⟩,
  ⟨0x20, 1, .u64, false, 1, .rwb, .num 0, .any, 0⟩,
  ⟨0x21, 1, .u32, false, 1, .rwb, .num 200, .any, 0⟩,
  ⟨0x22, 1, .u16, false, 1, .rwb, .num 20, .any, 0⟩,
  ⟨0x23, 1, .u16, false, 1, .rwb, .num 2000, .any, 0⟩,
  ⟨0x24, 1, .u16, false, 1, .rwb, .num 500, .any, 0⟩,
  ⟨0x25, 1, .u16, false, 1, .rwb, .num 300, .rng 10 3600, 0⟩,
  ⟨0x28, 1, .u32, false, 1, .rwb, .num 1000, .any, 0⟩,
  ⟨0x29, 1, .u8, false, 1, .rwb, .num 25, .rng 1 90, 0⟩,
  ⟨0x2A, 1, .u8, false, 1, .rwb, .num 2, .rng 1 64, 0⟩,
  ⟨0x2B, 1, .u16, false, 1, .rwb, .num 0, .any, 0⟩,
  ⟨0x2C, 1, .u16, false, 1, .rwb, .num 255, .any, 0⟩,
  ⟨0x2D, 1, .u64, false, 1, .rwb, .num 0, .any, 0⟩,
  ⟨0x2E, 1, .u16, true, 36, .rwb, .num 0, .any, 0⟩,
  ⟨0x2F, 1, .u16, true, 36, .rwb, .num 0, .any, 0⟩,
  ⟨0x30, 1, .u32, false, 1, .wo, .num 0, .any, 0⟩,
  ⟨0x32, 1, .u32, false, 1, .ro, .num 0, .any, 0⟩,
  ⟨0x33, 1, .u32, false, 1, .ro, .num 0, .any, 0⟩,
  ⟨0x34, 1, .u64, false, 1, .ro, .num 0, .any, 0⟩,
  ⟨0x35, 1, .u64, false, 1, .ro, .num 0, .any, 0⟩,
  ⟨0x36, 1, .u32, false, 1, .ro, .num 0, .any, 0⟩,
  ⟨0x37, 1, .u32, false, 1, .ro, .num 0, .any, 0⟩,
  ⟨0x38, 1, .u32, false, 1, .ro, .num 0, .any, 0⟩,
  ⟨0x39, 1, .u32, true, 36, .ro, .num 0, .any, 0⟩,
  ⟨0x3A, 1, .u16, true, 36, .ro, .num 0, .any, 0⟩,
  ⟨0x3B, 1, .u32, true, 36, .ro, .num 0, .any, 0⟩,
  ⟨0x3C, 1, .u32, true, 36, .ro, .num 0, .any, 0⟩,
  ⟨0x3D, 1, .u32, true, 36, .ro, .num 0, .any, 0⟩,
  ⟨0x3E, 1, .u32, true, 36, .ro, .num 0, .any, 0⟩,
  ⟨0x40, 36, .domain, false, 1, .rwb, .num 0, .any, 4164⟩,
  ⟨0x80, 36, .domain, false, 1, .ro, .num 0, .any, 524288⟩]

/-- The objects at index 0x2C00, from 05_sieve.md. -/
def rows2C00 : List ObjRow := [
  ⟨0x01, 1, .u16, false, 1, .rwb, .num 5, .rng 1 60, 0⟩,
  ⟨0x02, 1, .u32, false, 1, .ro, .num 0, .any, 0⟩,
  ⟨0x03, 1, .u32, false, 1, .ro, .num 0, .any, 0⟩,
  ⟨0x04, 1, .i32, true, 1280, .const, .sp, .any, 0⟩,
  ⟨0x05, 1, .u32, true, 32, .const, .sp, .any, 0⟩]

/-- The objects at index 0x2C10 and the further units of the family, from 05_sieve.md. -/
def rows2C10 : List ObjRow := [
  ⟨0x01, 1, .bool, false, 1, .rwb, .num 0, .any, 0⟩,
  ⟨0x02, 1, .u8, false, 1, .rwb, .num 0, .rng 0 1, 0⟩,
  ⟨0x03, 1, .u8, false, 1, .rwb, .num 0, .rng 0 4, 0⟩,
  ⟨0x04, 1, .u8, false, 1, .rwb, .num 0, .rng 0 35, 0⟩,
  ⟨0x05, 1, .u8, false, 1, .rwb, .num 0, .rng 0 3, 0⟩,
  ⟨0x06, 1, .u32, false, 1, .rwb, .num 0, .any, 0⟩,
  ⟨0x07, 1, .u8, false, 1, .rwb, .num 1, .rng 1 16, 0⟩,
  ⟨0x08, 1, .u8, false, 1, .rwb, .num 1, .rng 1 128, 0⟩,
  ⟨0x09, 1, .i16, true, 128, .rwb, .sp, .any, 0⟩,
  ⟨0x0A, 1, .u8, false, 1, .rwb, .num 0, .rng 0 8, 0⟩,
  ⟨0x0B, 1, .i32, true, 40, .rwb, .num 0, .any, 0⟩,
  ⟨0x0C, 1, .u8, false, 1, .rwb, .num 0, .rng 0 31, 0⟩,
  ⟨0x0D, 1, .u16, false, 1, .rwb, .num 512, .any, 0⟩,
  ⟨0x0E, 1, .u8, false, 1, .rwb, .num 0, .rng 0 2, 0⟩,
  ⟨0x0F, 1, .u8, false, 1, .rwb, .num 0, .rng 0 3, 0⟩,
  ⟨0x10, 1, .u32, false, 1, .rwb, .num 256, .any, 0⟩,
  ⟨0x11, 1, .u8, false, 1, .rwb, .num 8, .rng 2 64, 0⟩,
  ⟨0x12, 1, .u16, false, 1, .rwb, .num 655, .any, 0⟩,
  ⟨0x13, 1, .u8, false, 1, .rwb, .num 64, .rng 1 128, 0⟩,
  ⟨0x14, 1, .u16, false, 1, .rwb, .num 10, .rng 1 3600, 0⟩,
  ⟨0x15, 1, .u8, false, 1, .ro, .num 0, .any, 0⟩,
  ⟨0x16, 1, .u32, false, 1, .ro, .num 0, .any, 0⟩,
  ⟨0x17, 1, .u64, false, 1, .ro, .num 0, .any, 0⟩,
  ⟨0x18, 1, .u64, false, 1, .ro, .num 0, .any, 0⟩,
  ⟨0x19, 1, .i32, false, 1, .ro, .num 0, .any, 0⟩,
  ⟨0x1A, 1, .i32, true, 1024, .ro, .num 0, .any, 0⟩,
  ⟨0x1B, 1, .u32, false, 1, .ro, .num 0, .any, 0⟩,
  ⟨0x1C, 1, .u32, false, 1, .ro, .num 0, .any, 0⟩,
  ⟨0x1D, 1, .u8, false, 1, .ro, .num 0, .any, 0⟩,
  ⟨0x1E, 1, .u32, false, 1, .ro, .num 0, .any, 0⟩,
  ⟨0x1F, 1, .u64, false, 1, .ro, .num 0, .any, 0⟩,
  ⟨0x20, 1, .u32, false, 1, .ro, .num 0, .any, 0⟩,
  ⟨0x21, 1, .u32, false, 1, .ro, .num 0, .any, 0⟩,
  ⟨0x22, 1, .u32, false, 1, .ro, .num 0, .any, 0⟩]

/-- The objects at index 0x3000 and the further units of the family, from 06_yards_stalls_jobs.md. -/
def rows3000 : List ObjRow := [
  ⟨0x01, 1, .u32, true, 64, .rwb, .num 0, .any, 0⟩,
  ⟨0x02, 1, .u16, false, 1, .rwb, .num 65535, .trough, 0⟩,
  ⟨0x03, 1, .u16, false, 1, .rwb, .num 65535, .any, 0⟩,
  ⟨0x04, 1, .u8, false, 1, .rwb, .num 2, .rng 1 8, 0⟩,
  ⟨0x05, 1, .u8, false, 1, .ro, .num 0, .any, 0⟩,
  ⟨0x06, 1, .u64, false, 1, .ro, .num 0, .any, 0⟩,
  ⟨0x07, 1, .u64, false, 1, .ro, .num 0, .any, 0⟩,
  ⟨0x08, 1, .u32, false, 1, .ro, .num 0, .any, 0⟩,
  ⟨0x09, 1, .u8, false, 1, .wo, .num 0, .rng 0 63, 0⟩,
  ⟨0x0A, 1, .u64, false, 1, .ro, .num 0, .any, 0⟩,
  ⟨0x0B, 1, .u64, false, 1, .ro, .num 0, .any, 0⟩,
  ⟨0x0C, 1, .u64, false, 1, .ro, .num 0, .any, 0⟩,
  ⟨0x0D, 1, .u32, false, 1, .ro, .num 0, .any, 0⟩,
  ⟨0x0E, 1, .u64, false, 1, .ro, .num 0, .any, 0⟩]

/-- The objects at index 0x3100 and the further units of the family, from 06_yards_stalls_jobs.md. -/
def rows3100 : List ObjRow := [
  ⟨0x01, 1, .u8, false, 1, .ro, .num 0, .any, 0⟩,
  ⟨0x02, 1, .u8, false, 1, .ro, .num 255, .any, 0⟩,
  ⟨0x03, 1, .u64, false, 1, .ro, .num 0, .any, 0⟩,
  ⟨0x04, 1, .u64, false, 1, .ro, .num 0, .any, 0⟩,
  ⟨0x05, 1, .u64, false, 1, .ro, .num 0, .any, 0⟩,
  ⟨0x06, 1, .u32, false, 1, .ro, .num 0, .any, 0⟩,
  ⟨0x07, 1, .u32, false, 1, .ro, .num 0, .any, 0⟩,
  ⟨0x08, 1, .u32, false, 1, .ro, .num 0, .any, 0⟩,
  ⟨0x09, 1, .u32, false, 1, .ro, .num 0, .any, 0⟩,
  ⟨0x0A, 1, .u64, false, 1, .ro, .num 0, .any, 0⟩,
  ⟨0x0B, 1, .u32, false, 1, .ro, .num 0, .any, 0⟩,
  ⟨0x0C, 1, .bool, false, 1, .wo, .num 0, .any, 0⟩]

/-- The objects at index 0x3200 and the further units of the family, from 06_yards_stalls_jobs.md. -/
def rows3200 : List ObjRow := [
  ⟨0x01, 1, .bool, false, 1, .rwb, .num 0, .any, 0⟩,
  ⟨0x02, 1, .u64, false, 1, .rwb, .num 0, .any, 0⟩,
  ⟨0x03, 1, .u32, false, 1, .rwb, .num 0, .any, 0⟩,
  ⟨0x04, 1, .u16, false, 1, .rwb, .num 65535, .orNone 255 65535, 0⟩,
  ⟨0x05, 1, .u64, false, 1, .rwb, .num 0, .any, 0⟩,
  ⟨0x06, 1, .u8, false, 1, .wo, .num 0, .rng 0 1, 0⟩,
  ⟨0x07, 1, .u8, false, 1, .ro, .num 0, .any, 0⟩,
  ⟨0x08, 1, .u32, false, 1, .ro, .num 0, .any, 0⟩,
  ⟨0x09, 1, .u32, false, 1, .ro, .num 0, .any, 0⟩,
  ⟨0x0A, 1, .u8, true, 32, .ro, .num 0, .any, 0⟩,
  ⟨0x0B, 1, .u64, false, 1, .ro, .num 0, .any, 0⟩,
  ⟨0x0C, 1, .u64, false, 1, .ro, .num 0, .any, 0⟩,
  ⟨0x0D, 1, .u32, false, 1, .ro, .num 0, .any, 0⟩,
  ⟨0x0E, 1, .u8, false, 1, .ro, .num 255, .any, 0⟩]

/-- The objects at index 0x3400 and the further units of the family, from 07_spike_engine.md. -/
def rows3400 : List ObjRow := [
  ⟨0x01, 1, .u8, false, 1, .rwb, .num 64, .rng 4 64, 0⟩,
  ⟨0x02, 1, .u32, false, 1, .rwb, .num 0, .any, 0⟩,
  ⟨0x03, 1, .u64, false, 1, .ro, .num 0, .any, 0⟩,
  ⟨0x04, 1, .u64, false, 1, .ro, .num 0, .any, 0⟩,
  ⟨0x05, 1, .u64, false, 1, .ro, .num 0, .any, 0⟩,
  ⟨0x06, 1, .u64, false, 1, .ro, .num 0, .any, 0⟩,
  ⟨0x07, 1, .u64, false, 1, .ro, .num 0, .any, 0⟩,
  ⟨0x08, 1, .u64, false, 1, .ro, .num 0, .any, 0⟩,
  ⟨0x09, 1, .u64, false, 1, .ro, .num 0, .any, 0⟩,
  ⟨0x0A, 1, .u64, false, 1, .ro, .num 0, .any, 0⟩,
  ⟨0x0B, 1, .u16, false, 1, .ro, .num 0, .any, 0⟩,
  ⟨0x0C, 1, .u64, false, 1, .ro, .num 0, .any, 0⟩,
  ⟨0x0D, 1, .u64, false, 1, .ro, .num 0, .any, 0⟩,
  ⟨0x0E, 1, .u32, false, 1, .ro, .num 0, .any, 0⟩,
  ⟨0x0F, 1, .u64, false, 1, .ro, .num 0, .any, 0⟩,
  ⟨0x10, 1, .bool, false, 1, .wo, .num 0, .any, 0⟩]

/-- The objects at index 0x3500 and the further units of the family, from 08_thresher.md. -/
def rows3500 : List ObjRow := [
  ⟨0x01, 1, .u32, false, 1, .ro, .num 0, .any, 0⟩,
  ⟨0x02, 1, .u64, false, 1, .ro, .num 0, .any, 0⟩,
  ⟨0x03, 1, .u64, false, 1, .ro, .num 0, .any, 0⟩,
  ⟨0x04, 1, .u64, false, 1, .ro, .num 0, .any, 0⟩,
  ⟨0x05, 1, .u64, false, 1, .ro, .num 0, .any, 0⟩,
  ⟨0x06, 1, .u64, false, 1, .ro, .num 0, .any, 0⟩,
  ⟨0x07, 1, .u64, false, 1, .ro, .num 0, .any, 0⟩,
  ⟨0x08, 1, .u64, false, 1, .ro, .num 0, .any, 0⟩,
  ⟨0x09, 1, .u64, false, 1, .ro, .num 0, .any, 0⟩,
  ⟨0x0A, 1, .u32, false, 1, .ro, .num 0, .any, 0⟩,
  ⟨0x0B, 1, .u64, false, 1, .ro, .num 0, .any, 0⟩,
  ⟨0x0C, 1, .bool, false, 1, .wo, .num 0, .any, 0⟩]

/-- The objects at index 0x3600 and the further units of the family, from 09_winnow.md. -/
def rows3600 : List ObjRow := [
  ⟨0x01, 1, .u8, false, 1, .rwb, .num 6, .rng 1 16, 0⟩,
  ⟨0x02, 1, .u16, false, 1, .rwb, .num 256, .rng 16 65535, 0⟩,
  ⟨0x03, 1, .u16, false, 1, .rwb, .num 64, .any, 0⟩,
  ⟨0x04, 1, .u32, false, 1, .rwb, .num 0, .any, 0⟩,
  ⟨0x05, 1, .domain, false, 1, .ro, .num 0, .any, 4096⟩,
  ⟨0x06, 1, .u16, false, 1, .ro, .num 0, .any, 0⟩,
  ⟨0x07, 1, .u64, false, 1, .ro, .num 0, .any, 0⟩,
  ⟨0x08, 1, .u64, false, 1, .ro, .num 0, .any, 0⟩,
  ⟨0x09, 1, .u64, false, 1, .ro, .num 0, .any, 0⟩,
  ⟨0x0A, 1, .u32, false, 1, .ro, .num 0, .any, 0⟩,
  ⟨0x0B, 1, .u16, false, 1, .ro, .num 0, .any, 0⟩,
  ⟨0x0C, 1, .u64, false, 1, .ro, .num 0, .any, 0⟩,
  ⟨0x0D, 1, .u64, false, 1, .ro, .num 0, .any, 0⟩,
  ⟨0x0E, 1, .u32, false, 1, .ro, .num 0, .any, 0⟩,
  ⟨0x0F, 1, .u32, false, 1, .ro, .num 0, .any, 0⟩,
  ⟨0x10, 1, .u64, false, 1, .ro, .num 0, .any, 0⟩,
  ⟨0x11, 1, .u32, false, 1, .ro, .num 0, .any, 0⟩,
  ⟨0x12, 1, .bool, false, 1, .wo, .num 0, .any, 0⟩]

/-- The objects at index 0x3680, from 09_winnow.md. -/
def rows3680 : List ObjRow := [
  ⟨0x01, 1, .bool, false, 1, .rwb, .num 1, .any, 0⟩,
  ⟨0x02, 1, .u16, false, 1, .rwb, .num 10, .rng 10 1000, 0⟩,
  ⟨0x03, 1, .u32, false, 1, .rwb, .num 10000, .any, 0⟩,
  ⟨0x04, 1, .u32, false, 1, .rwb, .num 100000, .any, 0⟩,
  ⟨0x05, 1, .u16, false, 1, .rwb, .num 750, .stepped 620 850 10, 0⟩,
  ⟨0x06, 1, .u16, false, 1, .rwb, .num 500, .rng 100 10000, 0⟩,
  ⟨0x07, 1, .u16, false, 1, .rwb, .num 1000, .rng 10 60000, 0⟩,
  ⟨0x08, 1, .u8, false, 1, .ro, .num 0, .any, 0⟩,
  ⟨0x09, 1, .u16, false, 1, .ro, .num 750, .any, 0⟩,
  ⟨0x0A, 1, .u16, false, 1, .ro, .num 0, .any, 0⟩,
  ⟨0x0B, 1, .u32, false, 1, .ro, .num 0, .any, 0⟩,
  ⟨0x0C, 1, .u32, false, 1, .ro, .num 0, .any, 0⟩,
  ⟨0x0D, 1, .u32, false, 1, .ro, .num 0, .any, 0⟩,
  ⟨0x0E, 1, .u8, false, 1, .ro, .num 255, .any, 0⟩,
  ⟨0x0F, 1, .u32, false, 1, .ro, .num 0, .any, 0⟩]

/-- The objects at index 0x4000, from 10_paddock.md. -/
def rows4000 : List ObjRow := [
  ⟨0x01, 1, .bool, false, 1, .rwb, .num 0, .any, 0⟩,
  ⟨0x02, 1, .u8, false, 1, .rwb, .num 255, .any, 0⟩,
  ⟨0x03, 1, .u16, false, 1, .rwb, .num 65535, .trough, 0⟩,
  ⟨0x04, 1, .u8, false, 1, .rwb, .num 7, .any, 0⟩,
  ⟨0x05, 1, .u8, true, 256, .rwb, .sp, .any, 0⟩,
  ⟨0x06, 1, .u16, true, 4, .rwb, .num 32768, .any, 0⟩,
  ⟨0x07, 1, .u16, true, 4, .rwb, .num 3277, .any, 0⟩,
  ⟨0x08, 1, .u16, true, 4, .rwb, .num 1500, .rng 1 65534, 0⟩,
  ⟨0x09, 1, .u8, true, 4, .rwb, .num 50, .rng 1 255, 0⟩,
  ⟨0x0A, 1, .u16, false, 1, .rwb, .num 32768, .rng 1 65535, 0⟩,
  ⟨0x0B, 1, .u32, false, 1, .rwb, .num 50000, .rng 1000 2500000, 0⟩,
  ⟨0x0C, 1, .pair16, false, 1, .rwb, .num 0xFFFC0003, .rng 2 64, 0⟩,
  ⟨0x0D, 1, .u32, true, 256, .rwb, .num 0, .any, 0⟩,
  ⟨0x0E, 1, .i32, true, 2304, .rwb, .num 0, .any, 0⟩,
  ⟨0x0F, 1, .i32, true, 1024, .rwb, .num 0, .any, 0⟩,
  ⟨0x10, 1, .i32, true, 256, .rwb, .num 0, .any, 0⟩,
  ⟨0x11, 1, .i32, true, 256, .rwb, .num 0, .any, 0⟩,
  ⟨0x12, 1, .i32, true, 256, .rwb, .num 0, .any, 0⟩,
  ⟨0x13, 1, .u16, true, 64, .rwb, .num 65535, .any, 0⟩,
  ⟨0x14, 1, .i32, true, 256, .rwb, .num 0, .any, 0⟩,
  ⟨0x15, 1, .u16, true, 64, .rwb, .num 300, .any, 0⟩,
  ⟨0x16, 1, .u16, true, 64, .rwb, .num 200, .rng 1 65535, 0⟩,
  ⟨0x17, 1, .u16, true, 64, .ro, .num 0, .any, 0⟩,
  ⟨0x18, 1, .u8, false, 1, .ro, .num 0, .any, 0⟩,
  ⟨0x19, 1, .u16, false, 1, .ro, .num 0, .any, 0⟩,
  ⟨0x1A, 1, .u16, false, 1, .ro, .num 0, .any, 0⟩,
  ⟨0x1B, 1, .u32, false, 1, .ro, .num 1, .any, 0⟩,
  ⟨0x1C, 1, .u64, false, 1, .ro, .num 0, .any, 0⟩,
  ⟨0x1D, 1, .u32, true, 4, .ro, .num 0, .any, 0⟩,
  ⟨0x1E, 1, .u32, false, 1, .ro, .num 0, .any, 0⟩,
  ⟨0x1F, 1, .u64, false, 1, .ro, .num 0, .any, 0⟩,
  ⟨0x20, 1, .u32, false, 1, .ro, .num 0, .any, 0⟩,
  ⟨0x21, 1, .u32, false, 1, .ro, .num 0, .any, 0⟩,
  ⟨0x22, 1, .u32, false, 1, .ro, .num 0, .any, 0⟩,
  ⟨0x23, 1, .u32, false, 1, .ro, .num 0, .any, 0⟩,
  ⟨0x24, 1, .u32, false, 1, .ro, .num 0, .any, 0⟩,
  ⟨0x25, 1, .u32, false, 1, .ro, .num 0, .any, 0⟩,
  ⟨0x26, 1, .domain, false, 1, .ro, .num 0, .any, 262144⟩,
  ⟨0x27, 1, .bool, false, 1, .wo, .num 0, .any, 0⟩]

/-- The objects at index 0x4100 and the further units of the family, from 10_paddock.md. -/
def rows4100 : List ObjRow := [
  ⟨0x01, 1, .pair16, false, 1, .rwb, .num 0xFFFF0000, .any, 0⟩,
  ⟨0x02, 1, .pair32, true, 16, .rwb, .num 0xFFFFFFFF00000000, .srng (-1073741824) (1073741824), 0⟩,
  ⟨0x03, 1, .pair32, true, 16, .rwb, .num 0xFFFFFFFF00000000, .srng (-1073741824) (1073741824), 0⟩,
  ⟨0x04, 1, .pair16, false, 1, .rwb, .num 0xFFF0000F, .any, 0⟩,
  ⟨0x05, 1, .pair16, true, 8, .rwb, .num 0xFFFF, .any, 0⟩,
  ⟨0x06, 1, .u8, false, 1, .ro, .num 0, .any, 0⟩,
  ⟨0x07, 1, .u16, false, 1, .ro, .num 0, .any, 0⟩]

/-- The objects at index 0x4180 and the further units of the family, from 10_paddock.md. -/
def rows4180 : List ObjRow := [
  ⟨0x01, 1, .pair32, false, 1, .rwb, .num 0xFFFFFFFF00000000, .any, 0⟩,
  ⟨0x02, 1, .pair32, false, 1, .rwb, .num 0xFFFFFFFF00000000, .any, 0⟩,
  ⟨0x03, 1, .pair16, false, 1, .rwb, .num 0xFFFE0001, .rng 0 1, 0⟩,
  ⟨0x04, 1, .pair16, false, 1, .rwb, .num 0xFFFC0003, .rng 1 1000, 0⟩,
  ⟨0x05, 1, .u8, false, 1, .ro, .num 0, .any, 0⟩,
  ⟨0x06, 1, .u8, false, 1, .ro, .num 3, .any, 0⟩,
  ⟨0x07, 1, .u32, false, 1, .ro, .num 0, .any, 0⟩]

/-- The objects at index 0x8000, from 11_troughs_and_barrow.md. -/
def rows8000 : List ObjRow := [
  ⟨0x01, 1, .u64, false, 1, .ro, .sp, .any, 0⟩,
  ⟨0x02, 1, .u64, false, 1, .ro, .num 0, .any, 0⟩,
  ⟨0x03, 1, .u64, false, 1, .ro, .num 0, .any, 0⟩,
  ⟨0x04, 1, .u32, false, 1, .ro, .num 0, .any, 0⟩,
  ⟨0x05, 1, .bool, false, 1, .wo, .num 0, .any, 0⟩]

/-- The objects at index 0x8100, from 11_troughs_and_barrow.md. -/
def rows8100 : List ObjRow := [
  ⟨0x01, 1, .u64, true, 16384, .rwb, .sp, .any, 0⟩,
  ⟨0x02, 1, .u8, true, 16384, .rwb, .sp, .any, 0⟩,
  ⟨0x03, 1, .u64, true, 16384, .rwb, .num 0, .any, 0⟩,
  ⟨0x04, 1, .u32, true, 16384, .ro, .num 0, .any, 0⟩,
  ⟨0x05, 1, .u32, true, 16384, .rw, .num 0, .any, 0⟩,
  ⟨0x06, 1, .u32, true, 16384, .ro, .num 0, .any, 0⟩,
  ⟨0x07, 1, .u32, true, 16384, .ro, .num 0, .any, 0⟩,
  ⟨0x08, 1, .u32, true, 16384, .ro, .num 0, .any, 0⟩,
  ⟨0x09, 1, .u32, true, 16384, .ro, .num 0, .any, 0⟩]

/-- The objects at index 0x8800, from 11_troughs_and_barrow.md. -/
def rows8800 : List ObjRow := [
  ⟨0x01, 1, .u64, true, 256, .rw, .num 0, .any, 0⟩,
  ⟨0x02, 1, .u16, true, 256, .rwb, .num 65535, .trough, 0⟩,
  ⟨0x03, 1, .u8, true, 256, .wo, .num 0, .rng 1 4, 0⟩,
  ⟨0x04, 1, .u8, true, 256, .ro, .num 0, .any, 0⟩,
  ⟨0x05, 1, .u64, true, 256, .ro, .num 0, .any, 0⟩,
  ⟨0x06, 1, .u32, true, 256, .ro, .num 0, .any, 0⟩,
  ⟨0x07, 1, .u32, true, 256, .ro, .num 0, .any, 0⟩,
  ⟨0x08, 1, .u64, true, 256, .ro, .num 0, .any, 0⟩,
  ⟨0x09, 1, .u32, true, 256, .ro, .num 0, .any, 0⟩,
  ⟨0x0A, 1, .u32, true, 256, .ro, .num 0, .any, 0⟩,
  ⟨0x0B, 1, .u64, true, 8, .ro, .num 0, .any, 0⟩,
  ⟨0x0C, 1, .bool, false, 1, .wo, .num 0, .any, 0⟩]

/-- The objects at index 0x9000, from 12_memory_loft_granary.md. -/
def rows9000 : List ObjRow := [
  ⟨0x01, 1, .u8, false, 1, .ro, .sp, .any, 0⟩,
  ⟨0x02, 1, .u8, false, 1, .ro, .sp, .any, 0⟩,
  ⟨0x03, 1, .u64, false, 1, .ro, .sp, .any, 0⟩,
  ⟨0x04, 1, .u64, false, 1, .const, .num 7725907968, .any, 0⟩,
  ⟨0x05, 1, .u8, false, 1, .rwb, .num 4, .rng 1 4, 0⟩,
  ⟨0x06, 1, .u16, false, 1, .rwb, .num 24, .rng 1 168, 0⟩,
  ⟨0x07, 1, .u32, false, 1, .rwb, .num 1000, .any, 0⟩,
  ⟨0x08, 1, .u64, false, 1, .ro, .num 0, .any, 0⟩,
  ⟨0x09, 1, .u32, false, 1, .ro, .num 0, .any, 0⟩,
  ⟨0x0A, 1, .u64, true, 16, .ro, .num 0, .any, 0⟩,
  ⟨0x0B, 1, .u32, true, 16, .ro, .num 0, .any, 0⟩,
  ⟨0x0C, 1, .u32, true, 16, .ro, .num 0, .any, 0⟩,
  ⟨0x0D, 1, .u64, false, 1, .ro, .num 0, .any, 0⟩,
  ⟨0x0E, 1, .u64, false, 1, .ro, .num 0, .any, 0⟩,
  ⟨0x0F, 1, .u64, false, 1, .ro, .num 0, .any, 0⟩,
  ⟨0x10, 1, .u32, false, 1, .ro, .num 0, .any, 0⟩,
  ⟨0x11, 1, .u32, false, 1, .ro, .num 0, .any, 0⟩,
  ⟨0x12, 1, .u64, true, 32, .ro, .num 0, .any, 0⟩,
  ⟨0x13, 1, .u32, false, 1, .ro, .num 0, .any, 0⟩,
  ⟨0x14, 1, .u32, false, 1, .ro, .num 0, .any, 0⟩,
  ⟨0x15, 1, .u32, false, 1, .ro, .num 0, .any, 0⟩,
  ⟨0x16, 1, .u32, false, 1, .ro, .num 0, .any, 0⟩,
  ⟨0x17, 1, .u32, false, 1, .ro, .num 0, .any, 0⟩,
  ⟨0x18, 1, .bool, false, 1, .wo, .num 0, .any, 0⟩]

/-- The objects at index 0xA000, from 13_host_link.md. -/
def rowsA000 : List ObjRow := [
  ⟨0x01, 1, .u64, false, 1, .rwb, .num 0, .any, 0⟩,
  ⟨0x02, 1, .u8, false, 1, .ro, .num 0, .any, 0⟩,
  ⟨0x03, 1, .u8, false, 1, .ro, .num 0, .any, 0⟩,
  ⟨0x04, 1, .u32, false, 1, .ro, .num 0, .any, 0⟩,
  ⟨0x05, 1, .u32, false, 1, .ro, .num 0, .any, 0⟩,
  ⟨0x06, 1, .u16, false, 1, .ro, .num 128, .any, 0⟩,
  ⟨0x07, 1, .u16, false, 1, .ro, .num 512, .any, 0⟩,
  ⟨0x08, 1, .u32, false, 1, .ro, .num 0, .any, 0⟩,
  ⟨0x09, 1, .u32, false, 1, .ro, .num 0, .any, 0⟩,
  ⟨0x0A, 1, .u32, false, 1, .ro, .num 0, .any, 0⟩,
  ⟨0x0B, 1, .u32, false, 1, .ro, .num 0, .any, 0⟩,
  ⟨0x0C, 1, .u32, false, 1, .ro, .num 0, .any, 0⟩,
  ⟨0x0D, 1, .bool, false, 1, .wo, .num 0, .any, 0⟩]

/-- The objects at index 0x5000, from 14_time_unit.md. -/
def rows5000 : List ObjRow := [
  ⟨0x01, 1, .u64, false, 1, .ro, .num 0, .any, 0⟩,
  ⟨0x02, 1, .u32, false, 1, .ro, .num 0, .any, 0⟩,
  ⟨0x03, 1, .u16, false, 1, .ro, .num 0, .any, 0⟩,
  ⟨0x04, 1, .u64, false, 1, .wo, .num 0, .any, 0⟩,
  ⟨0x05, 1, .i32, false, 1, .ro, .num 0, .any, 0⟩,
  ⟨0x06, 1, .i32, false, 1, .rwb, .num 0, .srng (-8589934) (8589934), 0⟩,
  ⟨0x07, 1, .u32, false, 1, .ro, .num 0, .any, 0⟩,
  ⟨0x08, 1, .bool, false, 1, .ro, .num 0, .any, 0⟩]

/-- The objects at index 0x5100 and the further units of the family, from 14_time_unit.md. -/
def rows5100 : List ObjRow := [
  ⟨0x01, 1, .u8, false, 1, .rwb, .num 0, .rng 0 2, 0⟩,
  ⟨0x02, 1, .u64, false, 1, .rwb, .num 0, .any, 0⟩,
  ⟨0x03, 1, .u32, false, 1, .rwb, .num 0, .rng 0 999999999, 0⟩,
  ⟨0x04, 1, .u64, false, 1, .rwb, .num 1000000000, .rng 100 1000000000000, 0⟩,
  ⟨0x05, 1, .u32, false, 1, .rwb, .num 100, .rng 8 4000000000, 0⟩,
  ⟨0x06, 1, .u8, false, 1, .rwb, .num 0, .rng 0 1, 0⟩,
  ⟨0x07, 1, .u64, false, 1, .ro, .num 0, .any, 0⟩,
  ⟨0x08, 1, .u32, false, 1, .ro, .num 0, .any, 0⟩]

/-- The objects at index 0x5110, from 14_time_unit.md. -/
def rows5110 : List ObjRow := [
  ⟨0x01, 1, .u8, false, 1, .rwb, .num 0, .any, 0⟩,
  ⟨0x02, 1, .u16, false, 1, .rwb, .num 1, .rng 1 1024, 0⟩,
  ⟨0x03, 1, .u16, false, 1, .rwb, .num 10, .rng 1 25000, 0⟩,
  ⟨0x04, 1, .u8, false, 1, .rwb, .num 0, .any, 0⟩,
  ⟨0x05, 1, .u64, true, 6, .ro, .num 0, .any, 0⟩,
  ⟨0x06, 1, .u64, true, 1536, .ro, .num 0, .any, 0⟩]

/-- The objects at index 0x5120, from 14_time_unit.md. -/
def rows5120 : List ObjRow := [
  ⟨0x01, 1, .u8, false, 1, .rwb, .num 0, .any, 0⟩,
  ⟨0x02, 1, .u64, true, 2, .ro, .num 0, .any, 0⟩,
  ⟨0x03, 1, .u64, true, 32, .ro, .num 0, .any, 0⟩]

/-- The objects at index 0x5200, from 14_time_unit.md. -/
def rows5200 : List ObjRow := [
  ⟨0x01, 1, .bool, false, 1, .rwb, .num 1, .any, 0⟩,
  ⟨0x02, 1, .u8, false, 1, .rwb, .num 0, .rng 0 127, 0⟩,
  ⟨0x03, 1, .u8, false, 1, .rwb, .num 0, .rng 0 2, 0⟩,
  ⟨0x04, 1, .u8, false, 1, .rwb, .num 0, .rng 0 1, 0⟩,
  ⟨0x05, 1, .bool, false, 1, .rwb, .num 1, .any, 0⟩,
  ⟨0x06, 1, .u8, false, 1, .rwb, .num 128, .any, 0⟩,
  ⟨0x07, 1, .u8, false, 1, .rwb, .num 128, .any, 0⟩,
  ⟨0x08, 1, .i8, false, 1, .rwb, .num 0, .srng (-7) (1), 0⟩,
  ⟨0x09, 1, .i8, false, 1, .rwb, .num 1, .srng (0) (4), 0⟩,
  ⟨0x0A, 1, .u8, false, 1, .rwb, .num 3, .rng 2 255, 0⟩,
  ⟨0x0B, 1, .i8, false, 1, .rwb, .num 0, .srng (-7) (5), 0⟩,
  ⟨0x0C, 1, .bool, false, 1, .rwb, .num 1, .any, 0⟩,
  ⟨0x0D, 1, .u16, false, 1, .rwb, .num 32768, .any, 0⟩,
  ⟨0x0E, 1, .u16, false, 1, .rwb, .num 2048, .any, 0⟩,
  ⟨0x0F, 1, .u32, false, 1, .rwb, .num 1717987, .rng 0 8589934, 0⟩,
  ⟨0x10, 1, .u32, false, 1, .rwb, .num 1000000, .any, 0⟩,
  ⟨0x11, 1, .u32, false, 1, .rwb, .num 1000, .any, 0⟩,
  ⟨0x12, 1, .u8, false, 1, .rwb, .num 4, .rng 1 64, 0⟩,
  ⟨0x13, 1, .u8, false, 1, .rwb, .num 4, .rng 0 8, 0⟩,
  ⟨0x14, 1, .i32, true, 2, .rwb, .num 0, .any, 0⟩,
  ⟨0x15, 1, .i32, true, 2, .rwb, .num 0, .any, 0⟩,
  ⟨0x16, 1, .i32, true, 2, .rwb, .num 0, .any, 0⟩,
  ⟨0x17, 1, .u64, false, 1, .const, .sp, .any, 0⟩,
  ⟨0x18, 1, .u8, false, 1, .ro, .num 1, .any, 0⟩,
  ⟨0x19, 1, .u8, false, 1, .ro, .num 0, .any, 0⟩,
  ⟨0x1A, 1, .u8, false, 1, .ro, .num 255, .any, 0⟩,
  ⟨0x1B, 1, .u64, false, 1, .ro, .num 0, .any, 0⟩,
  ⟨0x1C, 1, .u64, false, 1, .ro, .num 0, .any, 0⟩,
  ⟨0x1D, 1, .u16, false, 1, .ro, .num 0, .any, 0⟩,
  ⟨0x1E, 1, .i64, false, 1, .ro, .num 0, .any, 0⟩,
  ⟨0x1F, 1, .i64, false, 1, .ro, .num 0, .any, 0⟩,
  ⟨0x20, 1, .i64, true, 2, .ro, .num 0, .any, 0⟩,
  ⟨0x21, 1, .i16, false, 1, .ro, .num 0, .any, 0⟩,
  ⟨0x22, 1, .i32, false, 1, .ro, .num 0, .any, 0⟩,
  ⟨0x23, 1, .u32, false, 1, .ro, .num 0, .any, 0⟩,
  ⟨0x24, 1, .u32, false, 1, .ro, .num 0, .any, 0⟩,
  ⟨0x25, 1, .u64, false, 1, .ro, .num 0, .any, 0⟩,
  ⟨0x26, 1, .u32, false, 1, .ro, .num 0, .any, 0⟩,
  ⟨0x27, 1, .bool, false, 1, .wo, .num 0, .any, 0⟩]

/-- The objects at index 0x5800, from 15_fieldnet.md. -/
def rows5800 : List ObjRow := [
  ⟨0x01, 1, .u8, true, 2, .rwb, .num 2, .rng 0 2, 0⟩,
  ⟨0x02, 1, .u8, true, 2, .rwb, .num 2, .rng 0 2, 0⟩,
  ⟨0x03, 1, .u64, true, 2, .rwb, .sp, .any, 0⟩,
  ⟨0x04, 1, .u16, true, 2, .rwb, .num 0, .rng 0 4094, 0⟩,
  ⟨0x05, 1, .u32, true, 2, .rwb, .num 0, .any, 0⟩,
  ⟨0x06, 1, .u8, true, 2, .rwb, .num 24, .rng 1 32, 0⟩,
  ⟨0x07, 1, .u32, true, 2, .rwb, .num 0, .any, 0⟩,
  ⟨0x08, 1, .u8, true, 32, .rwb, .num 0, .any, 0⟩,
  ⟨0x09, 1, .u8, true, 2, .rwb, .num 64, .rng 1 128, 0⟩,
  ⟨0x0A, 1, .u8, true, 32, .rwb, .num 0, .any, 0⟩,
  ⟨0x0B, 1, .u8, true, 2, .ro, .num 0, .any, 0⟩,
  ⟨0x0C, 1, .u64, true, 2, .ro, .num 0, .any, 0⟩,
  ⟨0x0D, 1, .u64, true, 2, .ro, .num 0, .any, 0⟩,
  ⟨0x0E, 1, .u32, true, 2, .ro, .num 0, .any, 0⟩,
  ⟨0x0F, 1, .u32, true, 2, .ro, .num 0, .any, 0⟩,
  ⟨0x10, 1, .bool, false, 1, .wo, .num 0, .any, 0⟩]

/-- The objects at index 0x5900, from 15_fieldnet.md. -/
def rows5900 : List ObjRow := [
  ⟨0x01, 1, .u16, false, 1, .rwb, .num 0, .rng 0 4095, 0⟩,
  ⟨0x02, 1, .domain, false, 1, .rwb, .num 0, .any, 65536⟩,
  ⟨0x03, 1, .u8, false, 1, .rwb, .num 2, .rng 2 8, 0⟩,
  ⟨0x04, 1, .bool, false, 1, .rwb, .num 1, .any, 0⟩,
  ⟨0x05, 1, .u16, false, 1, .rwb, .num 8192, .rng 1024 8952, 0⟩,
  ⟨0x06, 1, .u16, true, 8, .rwb, .num 65535, .orNone 4095 65535, 0⟩,
  ⟨0x07, 1, .u8, true, 4096, .ro, .num 0, .any, 0⟩,
  ⟨0x08, 1, .u16, false, 1, .ro, .num 65535, .any, 0⟩,
  ⟨0x09, 1, .u64, false, 1, .ro, .num 0, .any, 0⟩,
  ⟨0x0A, 1, .domain, false, 1, .ro, .num 0, .any, 196608⟩,
  ⟨0x0B, 1, .u64, false, 1, .ro, .num 0, .any, 0⟩,
  ⟨0x0C, 1, .u64, false, 1, .ro, .num 0, .any, 0⟩,
  ⟨0x0D, 1, .u64, false, 1, .ro, .num 0, .any, 0⟩,
  ⟨0x0E, 1, .u32, false, 1, .ro, .num 0, .any, 0⟩,
  ⟨0x0F, 1, .u32, false, 1, .ro, .num 0, .any, 0⟩,
  ⟨0x10, 1, .bool, false, 1, .wo, .num 0, .any, 0⟩]

/-- The objects at index 0x6000, from 16_power.md. -/
def rows6000 : List ObjRow := [
  ⟨0x01, 1, .u64, false, 1, .rwb, .num 1036, .within 0x40C, 0⟩,
  ⟨0x02, 1, .u16, false, 1, .rwb, .num 100, .rng 10 10000, 0⟩,
  ⟨0x03, 1, .u8, false, 1, .wo, .num 0, .rng 1 2, 0⟩,
  ⟨0x04, 1, .u8, true, 4, .rwb, .num 0, .rng 0 4, 0⟩,
  ⟨0x05, 1, .u64, true, 4, .rwb, .num 0, .any, 0⟩,
  ⟨0x06, 1, .u8, false, 1, .ro, .num 0, .any, 0⟩,
  ⟨0x07, 1, .u8, false, 1, .wo, .num 0, .any, 0⟩,
  ⟨0x08, 1, .u8, false, 1, .ro, .sp, .any, 0⟩,
  ⟨0x09, 1, .u8, false, 1, .ro, .num 0, .any, 0⟩,
  ⟨0x0A, 1, .u64, false, 1, .ro, .num 0, .any, 0⟩,
  ⟨0x0B, 1, .u64, false, 1, .ro, .num 0, .any, 0⟩,
  ⟨0x0C, 1, .u32, false, 1, .ro, .num 0, .any, 0⟩,
  ⟨0x0D, 1, .u8, false, 1, .ro, .num 255, .any, 0⟩,
  ⟨0x0E, 1, .u32, false, 1, .ro, .num 0, .any, 0⟩,
  ⟨0x0F, 1, .bool, false, 1, .wo, .num 0, .any, 0⟩]

/-- The objects at index 0x6040 and the further units of the family, from 16_power.md. -/
def rows6040 : List ObjRow := [
  ⟨0x01, 1, .u8, false, 1, .rwb, .num 0, .rng 0 2, 0⟩,
  ⟨0x02, 1, .u8, false, 1, .rwb, .num 0, .rng 0 2, 0⟩,
  ⟨0x03, 1, .u16, false, 1, .ro, .num 0, .any, 0⟩,
  ⟨0x04, 1, .u8, false, 1, .ro, .num 0, .any, 0⟩,
  ⟨0x05, 1, .u8, false, 1, .ro, .num 0, .any, 0⟩,
  ⟨0x06, 1, .bool, false, 1, .ro, .num 0, .any, 0⟩,
  ⟨0x07, 1, .u32, false, 1, .ro, .num 0, .any, 0⟩,
  ⟨0x08, 1, .u32, false, 1, .ro, .num 0, .any, 0⟩,
  ⟨0x09, 1, .u16, false, 1, .ro, .num 0, .any, 0⟩]

/-- The objects at index 0x6800, from 16_power.md. -/
def rows6800 : List ObjRow := [
  ⟨0x01, 1, .u8, true, 4, .rwb, .sp, .rng 0 127, 0⟩,
  ⟨0x02, 1, .u8, true, 4, .rwb, .sp, .rng 0 5, 0⟩,
  ⟨0x03, 1, .i8, true, 4, .rwb, .num 244, .srng (-16) (-8), 0⟩,
  ⟨0x04, 1, .bool, true, 4, .rwb, .num 0, .any, 0⟩,
  ⟨0x05, 1, .pair16, true, 4, .rwb, .sp, .any, 0⟩,
  ⟨0x06, 1, .pair16, true, 4, .rwb, .sp, .any, 0⟩,
  ⟨0x07, 1, .u16, true, 4, .rwb, .num 0, .any, 0⟩,
  ⟨0x08, 1, .u16, false, 1, .rwb, .num 10, .rng 1 1000, 0⟩,
  ⟨0x09, 1, .u16, true, 4, .ro, .num 0, .any, 0⟩,
  ⟨0x0A, 1, .u16, true, 4, .ro, .num 0, .any, 0⟩,
  ⟨0x0B, 1, .bool, true, 4, .ro, .num 0, .any, 0⟩,
  ⟨0x0C, 1, .u32, false, 1, .ro, .num 0, .any, 0⟩,
  ⟨0x0D, 1, .u32, false, 1, .ro, .num 0, .any, 0⟩,
  ⟨0x0E, 1, .bool, false, 1, .wo, .num 0, .any, 0⟩]

/-- The objects at index 0x7000 and the further units of the family, from 17_faults_and_muckout.md. -/
def rows7000 : List ObjRow := [
  ⟨0x01, 1, .u32, false, 1, .ro, .num 0, .any, 0⟩,
  ⟨0x02, 1, .u32, false, 1, .wo, .num 0, .any, 0⟩,
  ⟨0x03, 1, .u32, false, 1, .rw, .num 0, .any, 0⟩,
  ⟨0x04, 1, .u32, false, 1, .const, .sp, .any, 0⟩,
  ⟨0x05, 1, .u8, true, 32, .const, .sp, .any, 0⟩,
  ⟨0x06, 1, .u8, true, 32, .rwb, .sp, .any, 0⟩,
  ⟨0x07, 1, .pair32, false, 1, .rwb, .sp, .any, 0⟩,
  ⟨0x08, 1, .u32, false, 1, .ro, .num 0, .any, 0⟩,
  ⟨0x09, 1, .u32, false, 1, .ro, .num 0, .any, 0⟩,
  ⟨0x0A, 1, .u16, true, 32, .ro, .num 0, .any, 0⟩,
  ⟨0x0B, 1, .u8, false, 1, .ro, .num 255, .any, 0⟩,
  ⟨0x0C, 1, .u64, false, 1, .ro, .num 0, .any, 0⟩,
  ⟨0x0D, 1, .u8, false, 1, .ro, .num 255, .any, 0⟩,
  ⟨0x0E, 1, .u64, false, 1, .ro, .num 0, .any, 0⟩,
  ⟨0x0F, 1, .u64, false, 1, .ro, .num 0, .any, 0⟩,
  ⟨0x10, 1, .u8, false, 1, .ro, .num 0, .any, 0⟩,
  ⟨0x11, 1, .bool, false, 1, .wo, .num 0, .any, 0⟩]

/-- The objects at index 0xC000, from 17_faults_and_muckout.md. -/
def rowsC000 : List ObjRow := [
  ⟨0x01, 1, .bool, false, 1, .rwb, .num 1, .any, 0⟩,
  ⟨0x02, 1, .u32, false, 1, .rwb, .num 600, .rng 60 86400, 0⟩,
  ⟨0x03, 1, .u16, false, 1, .rwb, .num 65535, .trough, 0⟩,
  ⟨0x04, 1, .bool, true, 100, .rwb, .num 0, .any, 0⟩,
  ⟨0x05, 1, .u8, false, 1, .wo, .num 0, .rng 0 86, 0⟩,
  ⟨0x06, 1, .u8, false, 1, .wo, .num 0, .rng 0 31, 0⟩,
  ⟨0x07, 1, .u32, false, 1, .ro, .num 0, .any, 0⟩,
  ⟨0x08, 1, .u32, true, 100, .ro, .num 0, .any, 0⟩,
  ⟨0x09, 1, .u16, true, 100, .ro, .num 0, .any, 0⟩,
  ⟨0x0A, 1, .u64, false, 1, .ro, .num 0, .any, 0⟩,
  ⟨0x0B, 1, .u32, false, 1, .ro, .num 0, .any, 0⟩,
  ⟨0x0C, 1, .u32, false, 1, .ro, .num 0, .any, 0⟩,
  ⟨0x0D, 1, .u32, false, 1, .ro, .num 0, .any, 0⟩,
  ⟨0x0E, 1, .bool, false, 1, .wo, .num 0, .any, 0⟩]

/-- The objects at index 0xB000, from 18_boot_and_trust.md. -/
def rowsB000 : List ObjRow := [
  ⟨0x01, 1, .u8, false, 1, .ro, .sp, .any, 0⟩,
  ⟨0x02, 1, .u8, false, 1, .ro, .num 0, .any, 0⟩,
  ⟨0x03, 1, .u16, false, 1, .ro, .num 0, .any, 0⟩,
  ⟨0x04, 1, .domain, false, 1, .ro, .num 0, .any, 4096⟩,
  ⟨0x05, 1, .u8, false, 1, .wo, .num 0, .rng 1 1, 0⟩,
  ⟨0x06, 1, .u64, false, 1, .rw, .num 0, .any, 0⟩,
  ⟨0x07, 1, .u32, false, 1, .rw, .num 0, .any, 0⟩,
  ⟨0x08, 1, .u8, false, 1, .wo, .num 0, .rng 1 3, 0⟩,
  ⟨0x09, 1, .u8, false, 1, .ro, .num 0, .any, 0⟩,
  ⟨0x0A, 1, .u8, false, 1, .ro, .num 0, .any, 0⟩,
  ⟨0x0B, 1, .u32, false, 1, .ro, .sp, .any, 0⟩,
  ⟨0x0C, 1, .u64, false, 1, .ro, .num 0, .any, 0⟩,
  ⟨0x0D, 1, .u16, false, 1, .ro, .num 0, .any, 0⟩,
  ⟨0x0E, 1, .u32, false, 1, .ro, .num 0, .any, 0⟩,
  ⟨0x0F, 1, .u8, false, 1, .ro, .sp, .any, 0⟩,
  ⟨0x10, 1, .u8, false, 1, .ro, .sp, .any, 0⟩,
  ⟨0x11, 1, .u8, false, 1, .ro, .sp, .any, 0⟩,
  ⟨0x12, 1, .u8, false, 1, .wo, .num 0, .any, 0⟩,
  ⟨0x13, 1, .u8, true, 32, .ro, .num 0, .any, 0⟩,
  ⟨0x14, 1, .u8, true, 32, .ro, .num 0, .any, 0⟩,
  ⟨0x20, 1, .bool, false, 1, .rwb, .num 0, .any, 0⟩,
  ⟨0x21, 1, .u8, false, 1, .rwb, .num 0, .any, 0⟩,
  ⟨0x22, 1, .domain, false, 1, .const, .sp, .any, 1952⟩,
  ⟨0x23, 1, .domain, false, 1, .const, .sp, .any, 3313⟩,
  ⟨0x24, 1, .domain, false, 1, .rwb, .num 0, .any, 1952⟩,
  ⟨0x25, 1, .domain, false, 1, .rwb, .num 0, .any, 1952⟩,
  ⟨0x26, 1, .domain, false, 1, .rwb, .num 0, .any, 1952⟩,
  ⟨0x27, 1, .domain, false, 1, .rwb, .num 0, .any, 1952⟩]

/-- The objects at index 0xB001, from 18_boot_and_trust.md. -/
def rowsB001 : List ObjRow := [
  ⟨0x01, 1, .domain, false, 1, .rwb, .num 0, .any, 1952⟩,
  ⟨0x02, 1, .domain, false, 1, .rwb, .num 0, .any, 1952⟩,
  ⟨0x03, 1, .domain, false, 1, .rwb, .num 0, .any, 1952⟩,
  ⟨0x04, 1, .domain, false, 1, .rwb, .num 0, .any, 1952⟩]

def objBlocks : List ObjBlock := [
  ⟨0x5010, 1, 0x0B, rows5010⟩,
  ⟨0x1000, 1, 0x07, rows1000⟩,
  ⟨0x1001, 1, 0x09, rows1001⟩,
  ⟨0x1100, 1, 0x09, rows1100⟩,
  ⟨0x1200, 1, 0x08, rows1200⟩,
  ⟨0x1201, 1, 0x01, rows1201⟩,
  ⟨0x2000, 1, 0x2D, rows2000⟩,
  ⟨0x2100, 36, 0x16, rows2100⟩,
  ⟨0x2200, 36, 0x0D, rows2200⟩,
  ⟨0x2800, 1, 0xA3, rows2800⟩,
  ⟨0x2C00, 1, 0x05, rows2C00⟩,
  ⟨0x2C10, 16, 0x22, rows2C10⟩,
  ⟨0x3000, 256, 0x0E, rows3000⟩,
  ⟨0x3100, 32, 0x0C, rows3100⟩,
  ⟨0x3200, 64, 0x0E, rows3200⟩,
  ⟨0x3400, 32, 0x10, rows3400⟩,
  ⟨0x3500, 32, 0x0C, rows3500⟩,
  ⟨0x3600, 32, 0x12, rows3600⟩,
  ⟨0x3680, 1, 0x0F, rows3680⟩,
  ⟨0x4000, 1, 0x27, rows4000⟩,
  ⟨0x4100, 64, 0x07, rows4100⟩,
  ⟨0x4180, 16, 0x07, rows4180⟩,
  ⟨0x8000, 1, 0x05, rows8000⟩,
  ⟨0x8100, 1, 0x09, rows8100⟩,
  ⟨0x8800, 1, 0x0C, rows8800⟩,
  ⟨0x9000, 1, 0x18, rows9000⟩,
  ⟨0xA000, 1, 0x0D, rowsA000⟩,
  ⟨0x5000, 1, 0x08, rows5000⟩,
  ⟨0x5100, 8, 0x08, rows5100⟩,
  ⟨0x5110, 1, 0x06, rows5110⟩,
  ⟨0x5120, 1, 0x03, rows5120⟩,
  ⟨0x5200, 1, 0x27, rows5200⟩,
  ⟨0x5800, 1, 0x10, rows5800⟩,
  ⟨0x5900, 1, 0x10, rows5900⟩,
  ⟨0x6000, 1, 0x0F, rows6000⟩,
  ⟨0x6040, 54, 0x09, rows6040⟩,
  ⟨0x6800, 1, 0x0E, rows6800⟩,
  ⟨0x7000, 93, 0x11, rows7000⟩,
  ⟨0xC000, 1, 0x0E, rowsC000⟩,
  ⟨0xB000, 1, 0x27, rowsB000⟩,
  ⟨0xB001, 1, 0x04, rowsB001⟩]

/-- The bytes of an ASCII string. -/
def ascii (s : String) : List Byte := s.toList.map (fun c => BitVec.ofNat 8 c.toNat)

/-- A PAIR of width w as it is stored: the value, and above it the bitwise complement (R37). -/
def pairOf (w v : Nat) : Nat := v + (2 ^ w - 1 - v) * 2 ^ w

/-- Defaults that a table does not give as one number: part values, ROM contents, defaults per unit or element. -/
def specialDefault (addr e : Nat) : Val :=
  let index := addr / 256
  let sub := addr % 256
  if addr = Obj.idVendor then .bytes (ascii "Ouvac Microsystems")
  else if addr = Obj.idPart then .bytes (ascii "CT32")
  else if addr = Obj.idOrdering then .bytes (ascii (if Config.isKB then "CT32-KB" else "CT32-XB"))
  else if addr = Obj.idSerial then .num Config.serial.toNat
  else if 0x2100 ≤ index ∧ index < 0x2124 then .num (0x4C000000 + (index - 0x2100) * 0x4000000)
  else if addr = Obj.sievePresetCoeff then .num ((((presetRom.getD (e / 40) []).getD (e % 40 / 5) []).getD (e % 5) 0) % 2 ^ 32).toNat
  else if addr = Obj.sievePresetDelay then .num (presetDelays.getD e 0)
  else if 0x2C10 ≤ index ∧ index < 0x2C20 then .num (if e = 0 then 16384 else 0)
  else if addr = Obj.paddockClassMap then .num (if e < 4 then e else 0xFF)
  else if addr = Obj.troughAreaBase then .num 0x018C800000
  else if addr = Obj.troughBase then .num (if e < 256 then 0x018C800000 + e * 0x400000 else 0)
  else if addr = Obj.troughSizeLog2 then .num (if e < 256 then 16 else 0)
  else if addr = Obj.ptpClockId then .num Config.clockId.toNat
  else if addr = Obj.portMac then .num (Config.portMac e).toNat
  else if addr = Obj.railAddress then .num (if e = 0 then 0x40 else 0)
  else if addr = Obj.railRole then .num (if e = 0 then 1 else 0)
  else if addr = Obj.railVminMv then .num (pairOf 16 (if e = 0 then 620 else 0))
  else if addr = Obj.railVmaxMv then .num (pairOf 16 (if e = 0 then 850 else 1500))
  else if 0x7000 ≤ index ∧ index < 0x705D then
    let b := index - 0x7000
    if sub = 4 then .num (faultPresent b)
    else if sub = 5 then .num ((faultSeverity b e).getD 0xFF)
    else if sub = 6 then .num (faultReact b e)
    else .num (pairOf 32 (faultGrave b))
  else if addr = Obj.secIdPubkey then .bytes Config.idPubkey
  else if addr = Obj.secIdCert then .bytes Config.idCert
  else if addr = Obj.bootQspiSize then .num 65536
  else .num 0

/-- What a lookup of an address answers (R34, R35). -/
inductive ObjLookup where
  | unknownObject
  | unknownSub
  | found (o : ObjRow)
  deriving DecidableEq, Repr

/-- The block of objects that holds an index (R76). -/
def findBlock (index : Nat) : Option ObjBlock :=
  objBlocks.find? (fun b => b.base ≤ index && index < b.base + b.units)

/-- The object at an address; subindex 0 holds the highest subindex of the index (R35). -/
def findObj (addr : Nat) : ObjLookup :=
  match findBlock (addr / 256) with
  | none => .unknownObject
  | some b =>
    if addr % 256 = 0 then .found ⟨0, 1, .u8, false, 1, .const, .num b.maxSub, .any, 0⟩
    else
      match b.rows.find? (fun r => r.sub ≤ addr % 256 && addr % 256 < r.sub + r.subs) with
      | none => .unknownSub
      | some r => .found r

/-- The value an element of an object has until it is changed (R43). -/
def objDefault (addr e : Nat) : Val :=
  match findObj addr with
  | .found o =>
    match o.dflt with
    | .num n => if o.ty = .str ∨ o.ty = .domain then .bytes [] else .num n
    | .sp => specialDefault addr e
  | _ => .num 0

end Sys2Proof.Machine
end

