-- ==== Sys2Proof/Machine/Operands.lean ====
section
/-!
DEFINITION. Number forms of the manual: signed fields, byte orders (R5, R6), bit masks, saturating and wrapping counters,
and the roundings that its chapters use.
-/
namespace Sys2Proof.Machine

/-! ### Signed fields and byte orders -/

/-- The two's-complement value of the low w bits of n (R36). -/
def toSigned (w n : Nat) : Int :=
  let m := n % 2 ^ w
  if m < 2 ^ (w - 1) then (m : Int) else (m : Int) - (2 ^ w : Nat)

/-- The low w bits of i as a number. -/
def ofSigned (w : Nat) (i : Int) : Nat := (i % ((2 ^ w : Nat) : Int)).toNat

/-- n as k bytes, least significant first (R5). -/
def leBytes : Nat → Nat → List Byte
  | 0, _ => []
  | k + 1, n => BitVec.ofNat 8 (n % 256) :: leBytes k (n / 256)

/-- n as k bytes, most significant first (R6). -/
def beBytes (k n : Nat) : List Byte := (leBytes k n).reverse

/-- The number of a byte string, least significant byte first. -/
def leNat : List Byte → Nat
  | [] => 0
  | b :: t => b.toNat + 256 * leNat t

/-- The number of a byte string, most significant byte first. -/
def beNat (l : List Byte) : Nat := leNat l.reverse

/-- Bytes at offset o, n of them; short where the list ends. -/
def slice {α : Type} (l : List α) (o n : Nat) : List α := (l.drop o).take n
/-- Little-endian field of n bytes at offset o. -/
def leAt (l : List Byte) (o n : Nat) : Nat := leNat (slice l o n)
/-- Big-endian field of n bytes at offset o. -/
def beAt (l : List Byte) (o n : Nat) : Nat := beNat (slice l o n)
/-- l cut or filled with zeros to n bytes. -/
def padTo (n : Nat) (l : List Byte) : List Byte := (l ++ List.replicate n 0).take n

/-! ### Bits -/

/-- Bit i of n. -/
def bit (n i : Nat) : Bool := n.testBit i
def setBit (n i : Nat) : Nat := n ||| 2 ^ i
def clrBit (n i : Nat) : Nat := if n.testBit i then n - 2 ^ i else n
/-- Bits [hi:lo] of n. -/
def field (n hi lo : Nat) : Nat := n / 2 ^ lo % 2 ^ (hi + 1 - lo)
/-- The set bits of n below w, ascending. -/
def bitsOf (w n : Nat) : List Nat := (List.range w).filter (fun i => n.testBit i)
/-- The mask of a list of bit numbers. -/
def maskOf (l : List Nat) : Nat := l.foldl (fun m i => m ||| 2 ^ i) 0
def boolNat (b : Bool) : Nat := if b then 1 else 0
/-- Bits of n that are not in m. -/
def andNot (n m : Nat) : Nat := n - (n &&& m)

/-! ### Counters and rounding -/

/-- A counter of w bits that stops at its highest value. -/
def satTo (w n : Nat) : Nat := if n < 2 ^ w then n else 2 ^ w - 1
/-- A value limited to the signed range of w bits. -/
def satInt (w : Nat) (i : Int) : Int :=
  let h : Int := ((2 ^ (w - 1) : Nat) : Int)
  if i < -h then -h else if i ≥ h then h - 1 else i
def clampInt (lo hi i : Int) : Int := if i < lo then lo else if hi < i then hi else i
def ceilDiv (a b : Nat) : Nat := (a + b - 1) / b
/-- Nearest integer to a / b, halves rounded up (towards +∞); b > 0. -/
def roundUp (a : Int) (b : Nat) : Int := (2 * a + (b : Int)) / (2 * (b : Int))
/-- Nearest integer to a / b, halves rounded away from zero; b > 0. -/
def roundAway (a : Int) (b : Nat) : Int :=
  if 0 ≤ a then (2 * a + (b : Int)) / (2 * (b : Int)) else -((2 * (-a) + (b : Int)) / (2 * (b : Int)))
/-- Arithmetic shift right: division by 2^n towards −∞. -/
def asr (a : Int) (n : Nat) : Int := a / ((2 ^ n : Nat) : Int)
/-- a / 2^n to the nearest integer, halves rounded up. -/
def rshr (a : Int) (n : Nat) : Int := if n = 0 then a else (a + ((2 ^ (n - 1) : Nat) : Int)) / ((2 ^ n : Nat) : Int)

/-- Bits of the integer square root from bit i down. -/
def isqrtFrom : Nat → Nat → Nat → Nat
  | 0, n, r => if (r + 1) * (r + 1) ≤ n then r + 1 else r
  | i + 1, n, r => isqrtFrom i n (if (r + 2 ^ (i + 1)) * (r + 2 ^ (i + 1)) ≤ n then r + 2 ^ (i + 1) else r)
/-- ⌊√n⌋ for n < 2¹²⁸. -/
def isqrt (n : Nat) : Nat := isqrtFrom 63 n 0

/-- ⌊√n⌋ for n < 2³⁸⁴. -/
def isqrtBig (n : Nat) : Nat := isqrtFrom 191 n 0

/-- Nearest integer to √n, for n < 2¹²⁸. -/
def rsqrt (n : Nat) : Nat := let r := isqrt n; if n - r * r > r then r + 1 else r

/-! ### Lists -/

/-- l with element i replaced by v; unchanged when i is past the end. -/
def setAt {α : Type} : List α → Nat → α → List α
  | [], _, _ => []
  | _ :: t, 0, v => v :: t
  | x :: t, i + 1, v => x :: setAt t i v

/-- Insert x into a list that `le` orders, after the elements that are not above it. -/
def insertBy {α : Type} (le : α → α → Bool) (x : α) : List α → List α
  | [] => [x]
  | y :: t => if le y x then y :: insertBy le x t else x :: y :: t

/-- Stable insertion sort. -/
def sortBy {α : Type} (le : α → α → Bool) (l : List α) : List α :=
  l.foldl (fun acc x => insertBy le x acc) []

/-- The element of least key, the first of equals. -/
def minBy {α : Type} (key : α → Int) : List α → Option α
  | [] => none
  | x :: t =>
    match minBy key t with
    | none => some x
    | some y => if key y < key x then some y else some x

def sumInt (l : List Int) : Int := l.foldl (· + ·) 0
def sumNat (l : List Nat) : Nat := l.foldl (· + ·) 0
/-- l without repeats, first occurrences kept. -/
def dedup (l : List Nat) : List Nat := l.foldl (fun acc x => if acc.contains x then acc else acc ++ [x]) []

end Sys2Proof.Machine
end

