-- ==== Sys2Proof/Machine/Ops.lean ====
section
/-!
DEFINITION. The named operations over the state: sparse data, the dictionary's values, bytes of memory, device time and
the step grid, domain states, free values, and what the block puts out.
-/
namespace Sys2Proof.Machine

/-! ### Sparse data: keys strictly rising, no entry equal to the default -/

/-- The entry of key k. -/
def sfind {α : Type} : Sparse α → Nat → Option α
  | [], _ => none
  | (k', v) :: t, k => if k' = k then some v else sfind t k

/-- Enter v at key k. -/
def sput {α : Type} (k : Nat) (v : α) : Sparse α → Sparse α
  | [] => [(k, v)]
  | (k', v') :: t =>
    if k < k' then (k, v) :: (k', v') :: t
    else if k = k' then (k, v) :: t
    else (k', v') :: sput k v t

/-- Drop key k. -/
def serase {α : Type} (k : Nat) (m : Sparse α) : Sparse α := m.filter (fun p => !(p.1 == k))

/-- What key k reads as, where d is what an unlisted key reads as. -/
def sget {α : Type} (d : α) (m : Sparse α) (k : Nat) : α := (sfind m k).getD d

/-- Write v at key k; the default value is not listed. -/
def sset {α : Type} [DecidableEq α] (d : α) (k : Nat) (v : α) (m : Sparse α) : Sparse α :=
  if v = d then serase k m else sput k v m

def supd {α : Type} [DecidableEq α] (d : α) (k : Nat) (f : α → α) (m : Sparse α) : Sparse α := sset d k (f (sget d m k)) m

/-- The canonical form: keys strictly rising, no entry equal to what an unlisted key reads as. -/
def canonical {α : Type} [DecidableEq α] (d : Nat → α) : Sparse α → Bool
  | [] => true
  | [(k, v)] => decide (v ≠ d k)
  | (k, v) :: (k', v') :: t => decide (v ≠ d k) && decide (k < k') && canonical d ((k', v') :: t)

/-! ### The dictionary's values -/

/-- The key of an element of an object in a `Store`. -/
def dkey (addr e : Nat) : Nat := (addr <<< 24) + e
/-- What an unlisted key of a `Store` reads as (R43). -/
def keyDefault (k : Nat) : Val := objDefault (k / 2 ^ 24) (k % 2 ^ 24)
def dgetK (d : Store) (k : Nat) : Val := (sfind d k).getD (keyDefault k)
def dsetK (d : Store) (k : Nat) (v : Val) : Store := if v = keyDefault k then serase k d else sput k v d
/-- Element e of the object at addr. -/
def dget (d : Store) (addr e : Nat) : Val := dgetK d (dkey addr e)
def dset (d : Store) (addr e : Nat) (v : Val) : Store := dsetK d (dkey addr e) v

def Val.toNat : Val → Nat
  | .num n => n
  | .bytes _ => 0
def Val.toBytes : Val → List Byte
  | .num _ => []
  | .bytes b => b

/-- Element e of a numeric object in a set of settings. -/
def cfgE (d : Store) (addr e : Nat) : Nat := (dget d addr e).toNat
/-- A numeric scalar in a set of settings. -/
def cfgN (d : Store) (addr : Nat) : Nat := cfgE d addr 0
/-- A signed element of w bits. -/
def cfgI (d : Store) (w addr e : Nat) : Int := toSigned w (cfgE d addr e)
def cfgB (d : Store) (addr : Nat) : List Byte := (dget d addr 0).toBytes

def State.rdE (s : State) (addr e : Nat) : Nat := cfgE s.dict addr e
def State.rd (s : State) (addr : Nat) : Nat := cfgN s.dict addr
/-- A numeric scalar whose default is 0. -/
def State.rdZ (s : State) (addr : Nat) : Nat := ((sfind s.dict (dkey addr 0)).getD (.num 0)).toNat
def State.rdI (s : State) (w addr e : Nat) : Int := cfgI s.dict w addr e
def State.rdB (s : State) (addr : Nat) : List Byte := cfgB s.dict addr

/-- Write an element, whatever its type. -/
def wrV (addr e : Nat) (v : Val) (s : State) : State := { s with dict := dset s.dict addr e v }
def wrE (addr e n : Nat) (s : State) : State := wrV addr e (.num n) s
def wr (addr n : Nat) (s : State) : State := wrE addr 0 n s
def wrB (addr : Nat) (b : List Byte) (s : State) : State := wrV addr 0 (.bytes b) s
/-- Add n to a wrapping counter of w bits. -/
def addE (w addr e n : Nat) (s : State) : State := wrE addr e ((s.rdE addr e + n) % 2 ^ w) s
def inc (w addr : Nat) (s : State) : State := addE w addr 0 1 s
def incE (w addr e : Nat) (s : State) : State := addE w addr e 1 s
/-- Add n to a counter of w bits that stops at its highest value. -/
def satE (w addr e n : Nat) (s : State) : State := wrE addr e (satTo w (s.rdE addr e + n)) s
def putBit (addr i : Nat) (b : Bool) (s : State) : State :=
  wr addr (if b then setBit (s.rd addr) i else clrBit (s.rd addr) i) s
/-- An object of n elements back at its defaults. -/
def clearObj (addr n : Nat) (s : State) : State :=
  { s with dict := s.dict.filter (fun p => !(decide (dkey addr 0 ≤ p.1) && decide (p.1 < dkey addr n))) }

/-- Whether a stored PAIR of width w holds a value and its complement (R37). -/
def pairOk (w n : Nat) : Bool := n / 2 ^ w == 2 ^ w - 1 - n % 2 ^ w
/-- The value half of a PAIR of width w in a set of settings; where the pair fails its check, the last value that
passed (R78). -/
def State.pairIn (s : State) (d : Store) (w addr e : Nat) : Nat :=
  let n := cfgE d addr e
  if pairOk w n then n % 2 ^ w else cfgE s.pairs addr e % 2 ^ w
def State.pair (s : State) (w addr e : Nat) : Nat := s.pairIn s.dict w addr e

/-! ### Bytes of memory -/

/-- What a byte of the device address space holds; a byte that nothing has written holds 0 (log entry 8). -/
def State.byteAt (s : State) (a : Nat) : Byte := sget (0 : Byte) s.mem a
def putByte (a : Nat) (b : Byte) (s : State) : State := { s with mem := sset (0 : Byte) a b s.mem }
def State.bytesAt (s : State) (a n : Nat) : List Byte := (List.range n).map (fun i => s.byteAt (a + i))
def putBytes (a : Nat) : List Byte → State → State
  | [], s => s
  | b :: t, s => putBytes (a + 1) t (putByte a b s)
/-- A little-endian number of n bytes in memory (R5). -/
def State.leMem (s : State) (a n : Nat) : Nat := leNat (s.bytesAt a n)
/-- The canonical form of a memory: addresses strictly rising and no byte 0 listed. -/
abbrev Memory.wf (m : List Host.Cell) : Bool := canonical (fun _ => (0 : Byte)) m

/-! ### Device time and the step grid (R10 to R12) -/

/-- One nanosecond in the unit of `State.now`. -/
abbrev nsUnit : Nat := 2 ^ 32
def State.nowNs (s : State) : Nat := s.now / nsUnit
def State.nowUs (s : State) : Nat := s.now / (1000 * nsUnit)
/-- P in µs. -/
def State.periodUs (s : State) : Nat := s.pair 32 Obj.stepPeriod 0
/-- T0 in µs of device time. -/
def State.t0Us (s : State) : Nat := s.rd Obj.stepT0Sec * 1000000 + s.rd Obj.stepT0Ns / 1000
/-- B_k in µs of device time. -/
def State.boundaryUs (s : State) (k : Nat) : Nat := s.t0Us + k * s.periodUs
/-- B_k in the unit of `State.now`. -/
def State.boundary (s : State) (k : Nat) : Nat := s.boundaryUs k * 1000 * nsUnit
/-- The step that holds an instant in µs of device time; none before T0 (R12). -/
def State.stepOfUs (s : State) (t : Int) : Option Nat :=
  if t < (s.t0Us : Int) then none else some ((t - (s.t0Us : Int)).toNat / s.periodUs)
/-- STEP.OPEN. -/
def State.openStep (s : State) : Nat := s.rd Obj.stepOpen
/-- The stretch limit of a set of settings (R20). -/
def slOf (d : Store) : Nat := cfgN d Obj.stepStretch
/-- The record of an alive step. -/
def State.step? (s : State) (k : Nat) : Option StepRec := s.steps.find? (fun r => r.k == k)
/-- The settings of step k: those in force at B_k (R26), or those in force now where the step is not alive. -/
def State.cfgOf (s : State) (k : Nat) : Store := ((s.step? k).map (·.cfg)).getD s.dict
def updStep (k : Nat) (f : StepRec → StepRec) (s : State) : State :=
  { s with steps := s.steps.map (fun r => if r.k = k then f r else r) }
/-- A step whose ingress is open. -/
def StepPhase.ingressOpen : StepPhase → Bool
  | .opened => true
  | .stretching => true
  | _ => false

/-- Move device time on to the instant t, where t lies ahead, and never past the next boundary that the time unit has
not yet signalled (log entry 12). -/
def reach (t : Nat) (s : State) : State :=
  { s with now := max s.now (min t (s.boundary s.time.nextBoundary)) }

/-! ### Free values and output -/

/-- The next value that the manual leaves open (log entry 4). -/
def State.free (s : State) : Nat := Config.freeNat s.draws
def drawn (s : State) : State := { s with draws := s.draws + 1 }
def emit (o : Out) (s : State) : State := { s with out := o :: s.out }

/-! ### Units -/

def State.gate (s : State) (g : Nat) : Gate := sget Gate.reset s.gates g
def updGate (g : Nat) (f : Gate → Gate) (s : State) : State := { s with gates := supd Gate.reset g f s.gates }
def State.i2cm (s : State) (g : Nat) : I2c := sget I2c.reset s.i2c g
def updI2c (g : Nat) (f : I2c → I2c) (s : State) : State := { s with i2c := supd I2c.reset g f s.i2c }
def State.chain (s : State) (c : Nat) : Chain := sget Chain.reset s.chains c
def updChain (c : Nat) (f : Chain → Chain) (s : State) : State := { s with chains := supd Chain.reset c f s.chains }
def State.slot (s : State) (j : Nat) : JobSlot := sget JobSlot.reset s.slots j
def updSlot (j : Nat) (f : JobSlot → JobSlot) (s : State) : State := { s with slots := supd JobSlot.reset j f s.slots }
def State.yard (s : State) (y : Nat) : Yard := sget Yard.reset s.yards y
def updYard (y : Nat) (f : Yard → Yard) (s : State) : State := { s with yards := supd Yard.reset y f s.yards }
def State.stall (s : State) (i : Nat) : Stall := sget Stall.reset s.stalls i
def updStall (i : Nat) (f : Stall → Stall) (s : State) : State := { s with stalls := supd Stall.reset i f s.stalls }
def State.trough (s : State) (t : Nat) : Trough := sget Trough.reset s.troughs t
def updTrough (t : Nat) (f : Trough → Trough) (s : State) : State := { s with troughs := supd Trough.reset t f s.troughs }
def State.chan (s : State) (c : Nat) : Chan := sget Chan.reset s.chans c
def updChan (c : Nat) (f : Chan → Chan) (s : State) : State := { s with chans := supd Chan.reset c f s.chans }
def State.engine (s : State) (e : Nat) : Engine := sget Engine.reset s.engines e
def updEngine (e : Nat) (f : Engine → Engine) (s : State) : State := { s with engines := supd Engine.reset e f s.engines }
def State.domain (s : State) (d : Nat) : Domain := sget Domain.reset s.power.domains d
def updDomain (d : Nat) (f : Domain → Domain) (s : State) : State :=
  { s with power := { s.power with domains := supd Domain.reset d f s.power.domains } }
def State.tout (s : State) (i : Nat) : Tout := sget Tout.reset s.time.touts i
def updTout (i : Nat) (f : Tout → Tout) (s : State) : State :=
  { s with time := { s.time with touts := supd Tout.reset i f s.time.touts } }
def State.peer (s : State) (n : Nat) : Peer := sget Peer.reset s.net.peers n
def updPeer (n : Nat) (f : Peer → Peer) (s : State) : State :=
  { s with net := { s.net with peers := supd Peer.reset n f s.net.peers } }
def State.muckUnit (s : State) (u : Nat) : MuckUnit := sget MuckUnit.reset s.muck u
def updMuck (u : Nat) (f : MuckUnit → MuckUnit) (s : State) : State := { s with muck := supd MuckUnit.reset u f s.muck }

/-! ### Power domains (R442) -/

/-- DOMAIN.STATE of d; D0 is never off. -/
def State.domState (s : State) (d : Nat) : Nat := if d = 0 then 2 else s.rdZ (Obj.domainState d)
def State.isOn (s : State) (d : Nat) : Bool := s.domState d == 2
/-- The domain of gate g, of stall i. -/
abbrev gateDomain (g : Nat) : Nat := 4 + g / 6
abbrev stallDomain (i : Nat) : Nat := 22 + i

/-- The domain that holds a fault block. R442 names no domain for the barrow, the trough unit and muck-out; their parts
work whenever the device does and are taken to lie in D1 (log entry 20). The loft's record follows its first bank. -/
def blockDomain (b : Nat) : Nat :=
  if b < 36 then gateDomain b
  else if b < 68 then stallDomain (b - 36)
  else if b = 68 then 14
  else if b = 69 then 12
  else if b = 70 then 13
  else if b = 71 then 0
  else if b = 72 then 11
  else if b < 75 then 10
  else if b < 84 then 1
  else if b = 84 then 2
  else if b < 87 then 3
  else if b < 89 then 0
  else 1

/-- Whether a source of a block lies in D0 (R481, R335). -/
def inD0 (b i : Nat) : Bool := blockDomain b == 0 || (b == 72 && (2 ≤ i && i ≤ 4))

end Sys2Proof.Machine
end

