-- ==== Sys2Proof/Machine/Flags.lean ====
section
/-!
DEFINITION. Status and fault flags: the detection of a fault source and the record it leaves (R469 to R473), the level of
FAULT_N (R478, R480), and the forcing of the HOLD pairs (R327, R424).
-/
namespace Sys2Proof.Machine

/-! ### HOLD forcing -/

/-- The levels that pair n drives on HOLD_P[n] and HOLD_N[n], true for high (R325): high and low in RELEASE, low and high in
HOLD. -/
def State.holdLevels (s : State) (n : Nat) : Bool × Bool :=
  if s.rd (Obj.holdState n) = 1 then (true, false) else (false, true)

/-- Drive pair n to HOLD with a cause and its clear count at 0; a pair that was in RELEASE counts the change. -/
def holdPair (n cause : Nat) (s : State) : State :=
  let s := if s.rd (Obj.holdState n) = 1 then inc 32 (Obj.holdChanges n) s else s
  let s := s |> wr (Obj.holdState n) 0 |> wr (Obj.holdCause n) cause
  { s with hold := { s.hold with clear := setAt s.hold.clear n 0 } }

/-- Force every pair to HOLD at once (R327, R328, R424); the steps that are alive remember it (R333). -/
def forceHold (cause : Nat) (s : State) : State :=
  let s := (List.range 16).foldl (fun s n => holdPair n cause s) s
  { s with steps := s.steps.map (fun r => { r with forced := true }) }

/-- Whether a source forces the HOLD pairs while it is set: the GRAVE sources of the paddock, PAIR_STORE_HOLD (R327),
TIME_PARITY and TCLK_LOSS (R424). -/
def forcesHold (b i : Nat) : Bool :=
  (b == padBlock && (i == Src.padPairPath || i == Src.padPinReadback))
    || (b == dictBlock && i == Src.dictPairStoreHold)
    || (b == timeBlock && (i == Src.timeTimeParity || i == Src.timeTclkLoss))

def State.sticky (s : State) (b i : Nat) : Bool := bit (s.rd (Obj.faultSticky b)) i

/-- Whether some source that forces the HOLD pairs is set. -/
def State.holdForced (s : State) : Bool :=
  s.sticky padBlock Src.padPairPath || s.sticky padBlock Src.padPinReadback
    || s.sticky dictBlock Src.dictPairStoreHold
    || s.sticky timeBlock Src.timeTimeParity || s.sticky timeBlock Src.timeTclkLoss

/-! ### Detections -/

/-- Record one detection of source i of block b (R471). -/
def recordDetection (b i : Nat) (s : State) : State :=
  let st := s.rd (Obj.faultSticky b)
  let k := s.openStep
  let s := if st = 0 then s |> wr (Obj.faultFirstSource b) i |> wr (Obj.faultFirstStep b) k else s
  s |> wr (Obj.faultSticky b) (setBit st i)
    |> inc 32 (Obj.faultCount b)
    |> satE 16 (Obj.faultSourceCount b) i 1
    |> wr (Obj.faultLastSource b) i
    |> wr (Obj.faultLastStep b) k
    |> wr (Obj.faultLastTime b) (s.nowNs % 2 ^ 64)

/-- Whether a detection can be made: the source exists, and its part has power (R469, R481). -/
def State.canDetect (s : State) (b i : Nat) : Bool :=
  bit (faultPresent b) i && (inD0 b i || s.isOn (blockDomain b))

/-- Detect source i of block b (R471, R473). HOLD forcing is immediate; CPI, NMI and resets wait in `State.reacts` for
the end of the command, in the order of their detections. -/
def detect (b i : Nat) (s : State) : State :=
  if s.canDetect b i then
    let was := s.sticky b i
    let s := recordDetection b i s
    if was then s
    else
      let s := if forcesHold b i then forceHold 5 s else s
      if s.rdE (Obj.faultReact b) i % 16 = 0 then s
      else { s with reacts := s.reacts ++ [(b, i)] }
  else s

/-- Detect a source when a condition holds. -/
def detectIf (c : Bool) (b i : Nat) (s : State) : State := if c then detect b i s else s

/-! ### FAULT_N -/

/-- The sources of block b that hold FAULT_N low when set: bit 4 of FAULT.REACT, or for GRAVE sources FAULT.PIN_GRAVE;
every GRAVE source while the pair of FAULT.PIN_GRAVE fails its check (R478). -/
def State.pinRouted (s : State) (b : Nat) : Nat :=
  let pg := s.rd (Obj.faultPinGrave b)
  let grave := faultGrave b
  let routed := if pairOk 32 pg then grave &&& pg % 2 ^ 32 else grave
  maskOf ((List.range 32).filter (fun i => !bit grave i && bit (s.rdE (Obj.faultReact b) i) 4)) ||| routed

/-- FAULT.PINNED of block b (R479, R480). The bits that came through a chip reset keep the pinned word they had (R43, R482)
until they are cleared or the routing of the block changes. -/
def State.pinned (s : State) (b : Nat) : Nat :=
  let st := s.rd (Obj.faultSticky b)
  match sfind s.keptPins b with
  | none => st &&& s.pinRouted b
  | some (kept, pins) => (andNot st kept &&& s.pinRouted b) ||| (st &&& pins)
/-- Cleared sticky bits are kept no more. -/
def unkeepPins (b bits : Nat) (s : State) : State :=
  match sfind s.keptPins b with
  | none => s
  | some (kept, pins) => { s with keptPins := sset (0, 0) b (andNot kept bits, andNot pins bits) s.keptPins }

/-- Whether the device drives FAULT_N low (R480). -/
def State.faultLow (s : State) : Bool := (List.range 93).any (fun b => s.pinned b != 0)

/-- The lowest-numbered fault block with a GRAVE sticky bit set (R48, check 5). -/
def State.graveBlock (s : State) : Option Nat :=
  (List.range 93).find? (fun b => (s.rd (Obj.faultSticky b) &&& faultGrave b) != 0)

/-! ### Use of PAIR values -/

/-- Whether a PAIR object belongs to the path to the HOLD pins (the PAIR_STORE_HOLD row). -/
def isHoldPair (addr : Nat) : Bool :=
  addr == Obj.paddockWatchdog
    || (0x4100 ≤ addr / 256 && addr / 256 < 0x4140)
    || (0x4180 ≤ addr / 256 && addr / 256 < 0x4190)

/-- Check the PAIR that is in use; a failing pair sets PAIR_STORE or PAIR_STORE_HOLD (R37, R78). -/
def checkPair (w addr e : Nat) (s : State) : State :=
  detectIf (!pairOk w (s.rdE addr e)) dictBlock
    (if isHoldPair addr then Src.dictPairStoreHold else Src.dictPairStore) s

end Sys2Proof.Machine
end

