-- ==== Sys2Proof/Machine/YardOps.lean ====
section
/-!
DEFINITION. Yards as the engines share them: members and leaves (R166 to R172), the fields of a job image (R173 to R177),
stripes (R186 to R188), missing and failed members (R193 to R199), and the sending of yard frames (R430 to R432).
-/
namespace Sys2Proof.Machine

/-! ### Cuts -/

/-- Active leaves of the cut in force, and of the cut that governs step k (R196). -/
def Yard.cut (y : Yard) : List Nat := (y.cuts.headD (0, [])).2
def Yard.cutAt (y : Yard) (k : Nat) : List Nat := ((y.cuts.find? (fun c => c.1 ≤ k)).getD (0, [])).2

/-- Whether a serving device serves step k (R438). -/
def Yard.servesStep (y : Yard) (k : Nat) : Bool := match y.serveEnd with | some j => decide (k < j) | none => true

/-! ### Leaves (R166, R167) -/

/-- Kind, node and number of a member word. -/
abbrev memKind (w : Nat) : Nat := field w 31 30
abbrev memNode (w : Nat) : Nat := field w 27 16
abbrev memNum (w : Nat) : Nat := field w 7 0

/-- A leaf on another device: 2¹⁶ + node × 256 + stall; a local leaf is its stall number. -/
def leafCode (node stall : Nat) : Nat := 65536 + node * 256 + stall
def isLocal (leaf : Nat) : Bool := leaf < 65536
def leafNode (leaf : Nat) : Nat := (leaf - 65536) / 256

/-- The newest HEARTBEAT of a serving device for its record y, and of a lead for the record y that serves it. -/
def Peer.serving (p : Peer) (y : Nat) : Option Heartbeat := p.beats.find? (fun h => h.role == 0 && h.memberYard == y)
def Peer.leading (p : Peer) (y : Nat) : Option Heartbeat := p.beats.find? (fun h => h.role == 1 && h.memberYard == y)

/-- The leaves that device node reports for its record y (R167, R436). -/
def State.remoteLeaves (s : State) (node y : Nat) : List Nat :=
  match (s.peer node).serving y with
  | some h => h.leaves.map (leafCode node)
  | none => []

/-- The leaves below a member word, in leaf order; `fuel` bounds the chain of local yards (R168). -/
def State.wordLeaves (s : State) (d : Store) : Nat → Nat → List Nat
  | 0, _ => []
  | fuel + 1, w =>
    if memKind w = 1 then [memNum w]
    else if memKind w = 2 then
      (List.range 64).flatMap (fun i => s.wordLeaves d fuel (cfgE d (Obj.yardMembers (memNum w)) i))
    else if memKind w = 3 then s.remoteLeaves (memNode w) (memNum w)
    else []

/-- The leaves below member slot i of record y. -/
def State.slotLeaves (s : State) (d : Store) (y i : Nat) : List Nat := s.wordLeaves d 9 (cfgE d (Obj.yardMembers y) i)
/-- The leaves of record y in leaf order (R167). -/
def State.yardLeaves (s : State) (d : Store) (y : Nat) : List Nat :=
  (List.range 64).flatMap (fun i => s.slotLeaves d y i)

/-- The remote members (node, record) reached below a member word. -/
def remoteBelow (d : Store) : Nat → Nat → List (Nat × Nat)
  | 0, _ => []
  | fuel + 1, w =>
    if memKind w = 2 then
      (List.range 64).flatMap (fun i => remoteBelow d fuel (cfgE d (Obj.yardMembers (memNum w)) i))
    else if memKind w = 3 then [(memNode w, memNum w)]
    else []
def remoteMembers (d : Store) (y : Nat) : List (Nat × Nat) :=
  (List.range 64).flatMap (fun i => remoteBelow d 9 (cfgE d (Obj.yardMembers y) i))

/-- The number of a remote member, and the key under which its misses are counted. -/
def memberCode (m : Nat × Nat) : Nat := m.1 * 256 + m.2
def memberKey (m : Nat × Nat) : Nat := 2 ^ 21 + memberCode m
/-- Whether a leaf of another device belongs to the remote member (n, m) of record y: its device reports the leaf for record
m, or m is the only record of that device that y reaches. -/
def State.ofMember (s : State) (y n m leaf : Nat) : Bool :=
  !isLocal leaf && leafNode leaf == n
    && ((s.remoteLeaves n m).contains leaf || ((remoteMembers s.dict y).filter (fun x => x.1 == n)).length ≤ 1)

/-- The records reached from record y, y first (R169). -/
def yardsBelow (d : Store) : Nat → Nat → List Nat
  | 0, _ => []
  | fuel + 1, y =>
    y :: (List.range 64).flatMap (fun i =>
      let w := cfgE d (Obj.yardMembers y) i
      if memKind w = 2 then yardsBelow d fuel (memNum w) else [])

/-! ### Job slots -/

/-- STARTING, RUNNING or STOPPING. -/
def State.slotActive (s : State) (j : Nat) : Bool := 4 ≤ s.rd (Obj.jobState j) && s.rd (Obj.jobState j) ≤ 6
/-- RUNNING or STOPPING. -/
def State.slotRuns (s : State) (j : Nat) : Bool := s.rd (Obj.jobState j) == 5 || s.rd (Obj.jobState j) == 6
/-- The slots whose JOB.STATE lies in lo to hi, ascending; a slot that is not EMPTY is listed in the dictionary. -/
def State.slotsIn (s : State) (lo hi : Nat) : List Nat :=
  let base := dkey (Obj.jobState 0) 0
  s.dict.filterMap (fun p =>
    if base ≤ p.1 && (p.1 - base) % 2 ^ 32 == 0 && (p.1 - base) / 2 ^ 32 < 64 && lo ≤ p.2.toNat && p.2.toNat ≤ hi
    then some ((p.1 - base) / 2 ^ 32) else none)
def State.activeSlots (s : State) : List Nat := s.slotsIn 4 6
def State.runningSlots (s : State) : List Nat := s.slotsIn 5 6
/-- The yard and the gates of job j: those of its run while the slot is active, whatever a bale has put into JOB.YARD and
JOB.GATES since (R26, R185), else those in force. -/
def State.jobYard (s : State) (j : Nat) : Nat := if s.slotActive j then (s.slot j).yard else s.rd (Obj.jobYard j)
def State.gateMask (s : State) (j : Nat) : Nat := if s.slotActive j then (s.slot j).gates else s.rd (Obj.jobGates j)
def State.jobGates (s : State) (j : Nat) : List Nat := bitsOf 36 (s.gateMask j)
/-- Whether step k lies in the run of job j: from JOB.EPOCH_STEP and, once a stop has applied, to JOB.STOP_STEP
(R184, R185). -/
def State.inRun (s : State) (j k : Nat) : Bool :=
  (s.rd (Obj.jobState j) == 5 && s.rd (Obj.jobEpochStep j) ≤ k)
    || (s.rd (Obj.jobState j) == 6 && s.rd (Obj.jobEpochStep j) ≤ k && k ≤ s.rd (Obj.jobStopStep j))
/-- The jobs that run in step k. -/
def State.jobsOf (s : State) (k : Nat) : List Nat := (List.range 64).filter (fun j => s.inRun j k)
/-- The active job that gate g is bound to. -/
def State.gateJob (s : State) (g : Nat) : Option Nat :=
  s.activeSlots.find? (fun j => bit (s.gateMask j) g)

/-! ### Fields of a job image (R173, R175, R176) -/

def JobImage.minLeaves (i : JobImage) : Nat := leAt i.header 20 4
def JobImage.features (i : JobImage) : Nat := leAt i.header 24 4
abbrev grpFirst (g : List Byte) : Nat := leAt g 0 2
abbrev grpCount (g : List Byte) : Nat := leAt g 2 2
abbrev grpFlags (g : List Byte) : Nat := leAt g 4 1
abbrev grpAbove (g : List Byte) : Nat := leAt g 5 1
abbrev grpBelow (g : List Byte) : Nat := leAt g 6 1
abbrev grpGranule (g : List Byte) : Nat := leAt g 8 2
abbrev grpRows (g : List Byte) : Nat := leAt g 10 2
abbrev grpNeuron (g : List Byte) : Nat := leAt g 12 4
abbrev grpScratch (g : List Byte) : Nat := leAt g 16 4
abbrev grpHaloBytes (g : List Byte) : Nat := leAt g 20 4
abbrev grpTail (g : List Byte) : Nat := leAt g 24 4
abbrev grpTailPer (g : List Byte) : Nat := leAt g 28 4
/-- Bit 0 gate-tied; bit 1 device-local. -/
def grpLocal (g : List Byte) : Bool := bit (grpFlags g) 0 || bit (grpFlags g) 1
/-- The group that layer l belongs to. -/
def JobImage.groupOf (i : JobImage) (l : Nat) : Nat :=
  ((List.range i.groups.length).find? (fun g =>
    let r := i.groups.getD g []
    grpFirst r ≤ l && l < grpFirst r + grpCount r)).getD 0
def JobImage.group (i : JobImage) (g : Nat) : List Byte := i.groups.getD g []
def JobImage.layer (i : JobImage) (l : Nat) : List Byte := i.layers.getD l []
abbrev outType (o : List Byte) : Nat := leAt o 0 1
abbrev outScope (o : List Byte) : Nat := leAt o 1 1
abbrev outEntries (o : List Byte) : Nat := leAt o 2 2
abbrev outLayer (o : List Byte) : Nat := leAt o 4 2

/-! ### Rows of feature maps (R234) -/

/-- Channel group width of a map, and the bytes of one row. -/
def groupWidth (c : Nat) : Nat := if c ≤ 8 then 8 else if c ≤ 16 then 16 else if c ≤ 32 then 32 else 64
def rowBytes (c w : Nat) : Nat := ceilDiv (ceilDiv c (groupWidth c) * w * groupWidth c) 64 * 64
/-- The cells of a row that are not 0. -/
def rowCells (n k row channels width : Nat) (b : List Byte) : List MapCell :=
  let g := groupWidth channels
  (List.range (ceilDiv channels g * width * g)).filterMap (fun o =>
    let v := toSigned 8 ((b.getD o 0).toNat)
    let c := o / (width * g) * g + o % g
    if v = 0 ∨ channels ≤ c then none else some ⟨n, k, row, o % (width * g) / g, c, v⟩)
/-- Bytes that a row takes in the scratchpad. -/
def MapRow.size (r : MapRow) : Nat := rowBytes r.channels r.width

/-! ### Stripes (R186 to R188) -/

/-- Granules of one gate's map in a group. -/
def granulesPerMap (g : List Byte) : Nat := ceilDiv (grpRows g) (max 1 (grpGranule g))
/-- The granule that a stacked row (gate index × rows per port + row) lies in. -/
def granuleOf (g : List Byte) (row : Nat) : Nat :=
  row / max 1 (grpRows g) * granulesPerMap g + row % max 1 (grpRows g) / max 1 (grpGranule g)
/-- The leaf index that owns granule n of q when m leaves are eligible: the i with ⌊i·q/m⌋ ≤ n < ⌊(i+1)·q/m⌋. -/
def granuleOwner (q m n : Nat) : Nat := ((n + 1) * m - 1) / max 1 q
/-- The leaves of a cut that a group's stripes can lie on (R175, R186). -/
def eligible (g : List Byte) (cut : List Nat) : List Nat := if grpLocal g then cut.filter isLocal else cut
/-- The leaf that owns a stacked row of a group when `gates` gates are bound. -/
def rowOwner (g : List Byte) (cut : List Nat) (gates row : Nat) : Option Nat :=
  let el := eligible g cut
  if el.isEmpty then none
  else el[granuleOwner (gates * granulesPerMap g) el.length (granuleOf g row)]?
/-- The stacked rows that a leaf owns in a group. -/
def ownedRows (g : List Byte) (cut : List Nat) (gates leaf : Nat) : List Nat :=
  (List.range (gates * grpRows g)).filter (fun r => rowOwner g cut gates r == some leaf)
/-- The granules that a leaf owns in a group. -/
def ownedGranules (g : List Byte) (cut : List Nat) (gates leaf : Nat) : Nat :=
  let el := eligible g cut
  let q := gates * granulesPerMap g
  match el.idxOf? leaf with
  | none => 0
  | some i => (i + 1) * q / el.length - i * q / el.length
/-- The halo rows of a leaf: the rows of the same map within halo-above before, and halo-below after, a stripe (R187). -/
def haloRows (g : List Byte) (cut : List Nat) (gates leaf : Nat) : List Nat :=
  (List.range (gates * grpRows g)).filter (fun r =>
    rowOwner g cut gates r != some leaf &&
      ((List.range (grpAbove g)).any (fun d =>
          (r + d + 1) / max 1 (grpRows g) == r / max 1 (grpRows g) && rowOwner g cut gates (r + d + 1) == some leaf)
        || (List.range (grpBelow g)).any (fun d =>
          d + 1 ≤ r && (r - (d + 1)) / max 1 (grpRows g) == r / max 1 (grpRows g)
            && rowOwner g cut gates (r - (d + 1)) == some leaf)))
/-- REGION.MAP of a row of a bound gate: the stalls that own it or have it in their halo (R188). -/
def regionWord (g : List Byte) (cut : List Nat) (gates stacked : Nat) : Nat :=
  let near := (List.range (grpAbove g + grpBelow g + 1)).filterMap (fun (d : Nat) =>
    -- a leaf whose stripe begins at most halo-above after the row, or ends at most halo-below before it
    let r := (stacked : Int) + (d : Int) - (grpBelow g : Int)
    if r < 0 then none
    else if r.toNat / max 1 (grpRows g) != stacked / max 1 (grpRows g) then none
    else rowOwner g cut gates r.toNat)
  maskOf (near.filter isLocal)

/-! ### Yard frames (R430 to R432) -/

/-- Whether record y serves a lead on another device (R170). -/
def State.ledElsewhere (s : State) (y : Nat) : Bool := s.rd (Obj.yardLead y) < 4096

/-- The partners of the device (R430). -/
def State.partners (s : State) : List Nat :=
  dedup ((List.range 64).flatMap (fun j =>
    let y := s.jobYard j
    if y < 256 then
      (remoteMembers s.dict y).map (·.1)
        ++ (if s.slotRuns j && s.ledElsewhere y then [s.rd (Obj.yardLead y)] else [])
    else []))

/-- The ports that a yard frame leaves on (R432), as a mask. -/
def State.txPorts (s : State) : Nat :=
  if s.rd Obj.netRedundant = 1 then 3
  else if s.rdE Obj.portLink 0 = 0 && s.rdE Obj.portLink 1 = 1 then 2 else 1

/-- The address of node n in NET.PEER_TABLE (R430), 0 where it has none. -/
def State.nodeAddress (s : State) (n : Nat) : Nat := beAt (s.rdB Obj.netPeerTable) (16 * n) 16
/-- The IPv4-mapped prefix ::FFFF:0:0/96. -/
abbrev mappedPrefix : Nat := 0xFFFF
def isV4 (a : Nat) : Bool := a / 2 ^ 32 == mappedPrefix
/-- The bytes of an array of 16 elements per port as an address. -/
def State.portBytes16 (s : State) (addr p : Nat) : Nat := beNat ((List.range 16).map (fun i => BitVec.ofNat 8 (s.rdE addr (16 * p + i))))
/-- Whether two addresses of w bits agree in their first n bits. -/
def samePrefix (w n a b : Nat) : Bool := a / 2 ^ (w - n) == b / 2 ^ (w - n)
/-- Whether port p can send to an address: it has an address of that family, and the destination lies inside its prefix or
behind its gateway (R427). -/
def State.reaches (s : State) (p a : Nat) : Bool :=
  if isV4 a then
    let own := s.rdE Obj.portIpv4 p
    own != 0 && (samePrefix 32 (s.rdE Obj.portIpv4Prefix p) own (a % 2 ^ 32) || s.rdE Obj.portIpv4Gateway p != 0)
  else
    let own := s.portBytes16 Obj.portIpv6 p
    own != 0 && (samePrefix 128 (s.rdE Obj.portIpv6Prefix p) own a || s.portBytes16 Obj.portIpv6Gateway p != 0)
/-- The ports that a yard frame to node n leaves on. -/
def State.portsTo (s : State) (n : Nat) : Nat := maskOf ((bitsOf 2 s.txPorts).filter (fun p => s.reaches p (s.nodeAddress n)))

/-- Send the frames of one set to a partner, each with the next sequence (R431). -/
def sendSet (kind dst lead member step : Nat) (parts : List (List Byte)) (s : State) : State :=
  if s.isOn 3 && s.portsTo dst != 0 then
    ((List.range parts.length).zip parts).foldl (fun s (p : Nat × List Byte) =>
      let seq := (s.peer dst).txSeq
      let f : YardFrame := ⟨0, 0x4659, 1, kind, s.rd Obj.nodeNumber, dst, seq, lead, member, p.1, parts.length, step,
        p.2.length, p.2⟩
      let ports := s.portsTo dst
      let s := s |> emit (.frame ports f) |> inc 64 Obj.netFramesTx
      let s := ((bitsOf 2 ports).filter (fun p => s.rdE Obj.portLink p == 1)).foldl (fun s p => incE 64 Obj.portTxFrames p s) s
      updPeer dst (fun p => { p with txSeq := (seq + 1) % 2 ^ 32, sentAt := s.now }) s) s
  else s

/-- l cut into runs of n. `fuel` is the length of the list. -/
def chunksOf {α : Type} (n : Nat) : Nat → List α → List (List α)
  | 0, _ => []
  | fuel + 1, l => if l.isEmpty then [] else l.take n :: chunksOf n fuel (l.drop n)

/-- The 104 bytes of a HEARTBEAT for job slot j (R431). -/
def State.heartbeatBody (s : State) (role j remap delivered : Nat) (leaves : List Nat) : List Byte :=
  let stalls := (leaves.filter isLocal).take 32
  leBytes 1 role ++ leBytes 1 (s.rd (Obj.jobState j)) ++ leBytes 1 stalls.length ++ leBytes 1 0 ++ leBytes 8 remap
    ++ leBytes 8 delivered ++ (List.range 32).flatMap (fun i => leBytes 1 (s.rdE (Obj.jobDigest j) i))
    ++ (List.range 32).flatMap (fun i => leBytes 1 (stalls.getD i 0xFF)) ++ leBytes 4 s.periodUs
    ++ leBytes 8 (s.rd Obj.stepT0Sec) ++ leBytes 4 (s.rd Obj.stepT0Ns) ++ leBytes 4 0

/-- The record number that lead n uses for the yard that record y serves, as its newest HEARTBEAT names it. -/
def State.leadRecord (s : State) (n y : Nat) : Nat := (((s.peer n).leading y).map (·.leadYard)).getD 0

/-- Send the HEARTBEATs of job slot j with yard y to the partners that p selects: as lead to the devices of its remote
members, and where `up` holds as serving device to the lead of its yard (R435). -/
def sendBeats (p : Nat → Bool) (j y : Nat) (up : Bool) (s : State) : State :=
  if y < 256 then
    let own := (s.yardLeaves s.dict y).filter (fun l => isLocal l && !(s.yard y).failed.contains l)
    let remap := (((s.yard y).waiting).map (·.step)).getD 0
    let s := (remoteMembers s.dict y).foldl (fun s (m : Nat × Nat) =>
      if p m.1 then sendSet 1 m.1 y m.2 s.openStep [s.heartbeatBody 1 j remap 0 own] s else s) s
    let lead := s.rd (Obj.yardLead y)
    if s.ledElsewhere y && up && p lead then
      sendSet 1 lead (s.leadRecord lead y) y s.openStep [s.heartbeatBody 0 j 0 s.net.sentDelivery own] s
    else s
  else s

def sendHeartbeats (p : Nat → Bool) (j : Nat) (s : State) : State := sendBeats p j (s.jobYard j) (s.slotRuns j) s

/-- Set JOB.STATE of slot j, and tell the partners of the run at once (R435). -/
def setJobState (j n : Nat) (s : State) : State :=
  let t := wr (Obj.jobState j) n s
  sendBeats (fun _ => true) j (if s.slotActive j then s.jobYard j else t.jobYard j) (s.slotRuns j || t.slotRuns j) t

/-- The REMAP set that the lead sends to each serving device of a yard (R431, R438). -/
def sendRemap (y j : Nat) (leaves : List Nat) (s : State) : State :=
  let per := (s.rd Obj.netFrameBytes - 56) / 4
  let runs := chunksOf per leaves.length leaves
  let own := s.rd Obj.nodeNumber
  let word := fun leaf => if isLocal leaf then own * 65536 + leaf else leafNode leaf * 65536 + leaf % 256
  let parts := ((List.range runs.length).zip runs).map (fun (p : Nat × List Nat) =>
    leBytes 8 j ++ leBytes 4 leaves.length ++ leBytes 4 (p.1 * per) ++ leBytes 4 p.2.length ++ leBytes 4 0
      ++ p.2.flatMap (fun leaf => leBytes 4 (word leaf)))
  (remoteMembers s.dict y).foldl (fun s (m : Nat × Nat) =>
    if leaves.any (s.ofMember y m.1 m.2) then sendSet 6 m.1 y m.2 j parts s else s) s

/-! ### Loading of tables and region maps (R108, R109, R184, R188) -/

/-- Load a change for gate g that applies at step j. A load that its gate's watermark has already reached is completed by
TABLE_LOAD_LATE_SWITCH. -/
def loadTables (g j boundaryUs sl : Nat) (vals : List (Nat × Val)) (s : State) : State :=
  if vals.isEmpty then s
  else
    let l : TableLoad := ⟨j, boundaryUs, boundaryUs + sl * s.periodUs, s.rd (Obj.gateWatermark g) < boundaryUs, vals⟩
    updGate g (fun gt => { gt with loads := gt.loads ++ [l] }) s

/-- REGION.MAP of the i-th bound gate under a cut, element by element. -/
def regionVals (img : JobImage) (cut : List Nat) (gates : List Nat) (i g : Nat) : List (Nat × Val) :=
  let r := img.group 0
  (List.range 2048).map (fun y =>
    (dkey (Obj.regionMap g) y, .num (if y < grpRows r then regionWord r cut gates.length (i * grpRows r + y) else 0)))

/-- Load the region maps of job j's gates under a cut, for apply step k. -/
def loadRegions (j k boundaryUs : Nat) (cut : List Nat) (s : State) : State :=
  match (s.slot j).image with
  | none => s
  | some img =>
    let gates := s.jobGates j
    ((List.range gates.length).zip gates).foldl (fun s (p : Nat × Nat) =>
      loadTables p.2 k boundaryUs (slOf s.dict) (regionVals img cut gates p.1 p.2) s) s

/-- Write the region maps of job j's gates into the values in force (R188). -/
def writeRegions (j : Nat) (cut : List Nat) (s : State) : State :=
  match (s.slot j).image with
  | none => s
  | some img =>
    let gates := s.jobGates j
    { s with dict := ((List.range gates.length).zip gates).foldl (fun d (p : Nat × Nat) =>
        (regionVals img cut gates p.1 p.2).foldl (fun d v => dsetK d v.1 v.2) d) s.dict }

/-- Forget the region maps that were loaded for a re-map of job j at step k. -/
def dropRegions (j k : Nat) (s : State) : State :=
  (s.jobGates j).foldl (fun s g => updGate g (fun gt => { gt with
    loads := gt.loads.filter (fun l => !(l.step == k && l.vals.all (fun v => v.1 / 2 ^ 24 == Obj.regionMap g))) }) s) s

/-! ### Missing and failed leaves -/

/-- The running job whose yard has a leaf in its cut or among its failed leaves. -/
def State.leafJob (s : State) (leaf : Nat) : Option Nat :=
  s.runningSlots.find? (fun j =>
    let y := s.yard (s.jobYard j)
    y.cut.contains leaf || y.failed.contains leaf)

/-- The bit of a local leaf in the missing word. -/
def StepRec.awaits (r : StepRec) (leaf : Nat) : Bool := !r.delivered.contains leaf && !r.missing.contains leaf

/-- Mark a leaf missing for step k (R21, R194): a local stall counts it and sets STEP_MISSED, and the halo slots that the
member holds for the step are released (R191). -/
def markMissing (k leaf : Nat) (s : State) : State :=
  match s.step? k with
  | none => s
  | some r =>
    if r.awaits leaf then
      let s := updStep k (fun r => { r with missing := r.missing ++ [leaf] }) s
      let s := { s with halos := s.halos.filter (fun h => !(h.step == k && (h.consumer == leaf || h.producer == leaf))) }
      if isLocal leaf then s |> inc 32 (Obj.stallStepsMissed leaf) |> detect (stallBlock leaf) Src.stallStepMissed
      else s
    else s

/-- The leaves of record y in the cut of step k. A yard that serves a lead has local leaves only (R168), whatever cut its
lead has sent (R438). -/
def State.ownCut (s : State) (y k : Nat) : List Nat :=
  let c := (s.yard y).cutAt k
  if s.ledElsewhere y then c.filter isLocal else c

/-- The steps of job j that are alive. -/
def State.aliveSteps (s : State) (j : Nat) : List Nat :=
  (s.steps.filter (fun r => s.inRun j r.k)).map (·.k)

/-- Drop the events that a failed stall holds unread: its late-carry buffer and its queue (R194). -/
def discardStallEvents (i : Nat) (s : State) : State :=
  let st := s.stall i
  let n := st.late.length + sumNat (st.queue.map (·.count))
  let s := (st.queue).foldl (fun s b => updGate b.gate (fun g => { g with ringUsed := g.ringUsed.erase b.block }) s) s
  s |> updStall i (fun st => { st with queue := [], late := [] })
    |> addE 64 (Obj.stallFailedDiscards i) 0 n
    |> wr (Obj.stallLateFill i) 0

/-- YARD.STATE of a yard. -/
def setYardState (y n : Nat) (s : State) : State := wr (Obj.yardState y) n s

def State.minLeaves (s : State) (j : Nat) : Nat := (((s.slot j).image).map (·.minLeaves)).getD 1

/-- Active leaves of the bound yard y: those of the cut in force that have not failed. -/
def State.activeLeaves (s : State) (y : Nat) : List Nat :=
  let c := (s.yard y).cut
  (if s.ledElsewhere y then c.filter isLocal else c).filter (fun leaf => !(s.yard y).failed.contains leaf)

/-- Whether a leaf stays out of the next cut of record y: it has failed, or its remote member has, and the re-map does not
re-admit it (R196, R199). -/
def State.barred (s : State) (y : Nat) (re members : List Nat) (leaf : Nat) : Bool :=
  ((s.yard y).failed.contains leaf && !re.contains leaf)
    || (s.yard y).failedMembers.any (fun m => !members.contains m && (s.remoteLeaves (m / 256) (m % 256)).contains leaf)
/-- Active leaves of the next cut of record y: its leaves in leaf order that are not barred (R186, R196). On a device that
serves under its lead's cut, the leaves of the others keep their places in it (R438). -/
def State.nextCut (s : State) (y : Nat) (re members : List Nat) : List Nat :=
  let own := (s.yardLeaves s.dict y).filter (fun l => !s.barred y re members l)
  let cut := (s.yard y).cut
  if s.ledElsewhere y && cut.any (fun l => !isLocal l) then
    cut.takeWhile (fun l => !isLocal l) ++ own ++ (cut.dropWhile (fun l => !isLocal l)).filter (fun l => !isLocal l)
  else own

/-- A waiting re-map of job j is given up, with the region maps that were loaded for it. -/
def cancelRemap (j : Nat) (s : State) : State :=
  let y := s.jobYard j
  match (s.yard y).waiting with
  | none => s
  | some w => s |> dropRegions j w.step |> updYard y (fun yd => { yd with waiting := none })

/-- Choose the apply step of a re-map of job j and load its region maps, or refuse the cut under R197; with no active leaf
the yard is VACANT either way. A re-map that waits is joined (R196). A re-admission whose cut would still hold fewer leaves
than the image's minimum is accepted and comes to nothing, as R197 has it for every cut (log entry 105). -/
def scheduleRemap (j tdUs ahead : Nat) (readmit members : List Nat) (s : State) : State :=
  let y := s.jobYard j
  let old := (s.yard y).waiting
  let re := dedup ((old.map (·.readmit)).getD [] ++ readmit)
  let ms := dedup ((old.map (·.members)).getD [] ++ members)
  let left := s.nextCut y re ms
  let vacant := (s.activeLeaves y).isEmpty
  let s := cancelRemap j s
  if left.isEmpty ∨ left.length < s.minLeaves j then setYardState y (if vacant then 4 else 3) s
  else
    let at' := max (((s.stepOfUs tdUs).getD 0) + ahead) ((old.map (·.step)).getD 0)
    s |> updYard y (fun yd => { yd with waiting := some ⟨at', re, ms⟩ })
      |> setYardState y (if vacant then 4 else 2) |> wr (Obj.yardRemapStep y) at'
      |> loadRegions j at' (s.boundaryUs at') left |> sendRemap y at' left

/-- Leaves drop out of the yard of job j: they are missing in every step that they have not delivered, and the events that
they hold unread are discarded (R194). -/
def dropLeaves (j : Nat) (leaves : List Nat) (s : State) : State :=
  let y := s.jobYard j
  let s := updYard y (fun yd => { yd with
    failed := dedup (yd.failed ++ leaves), misses := yd.misses.filter (fun p => !leaves.contains p.1),
    waiting := yd.waiting.map (fun w => { w with readmit := w.readmit.filter (fun l => !leaves.contains l) }) }) s
  let s := leaves.foldl (fun s leaf =>
    let s := (s.aliveSteps j).foldl (fun s k => markMissing k leaf s) s
    if isLocal leaf then discardStallEvents leaf s else s) s
  if leaves.any isLocal then sendHeartbeats (fun _ => true) j s else s

/-- Fail leaves of job j at the instant tdUs (R193, R194, R196): local failures re-map at s_d + 2, remote ones at s_d + 8;
`back` comes in at that re-map. -/
def failLeaves (j : Nat) (leaves : List Nat) (tdUs : Nat) (back : List Nat) (s : State) : State :=
  let yd := s.yard (s.jobYard j)
  let again := (yd.waiting.map (·.readmit)).getD []
  let fresh := leaves.filter (fun l => !yd.failed.contains l || again.contains l)
  if fresh.isEmpty then s
  else s |> dropLeaves j fresh |> scheduleRemap j tdUs (if fresh.all isLocal then 2 else 8) back []

/-- A local leaf misses step k: YARD.MISS_LIMIT consecutive misses fail it at the compute limit (R193). -/
def noteMiss (j leaf k tdUs : Nat) (s : State) : State :=
  let y := s.jobYard j
  let n := sget 0 (s.yard y).misses leaf + 1
  let s := updYard y (fun yd => { yd with misses := sset 0 leaf n yd.misses }) s
  if cfgN (s.cfgOf k) (Obj.yardMissLimit y) ≤ n then failLeaves j [leaf] tdUs [] s else s

/-- Step k opens without the leaves that have failed (R194). -/
def missFailed (k : Nat) (s : State) : State :=
  s.runningSlots.foldl (fun s j =>
    let y := s.jobYard j
    if s.inRun j k then ((s.ownCut y k).filter (s.yard y).failed.contains).foldl (fun s l => markMissing k l s) s else s) s

/-- Whether every leaf of every job that runs in step k has delivered it or is missing (R22, R537). -/
def State.allIn (s : State) (r : StepRec) : Bool :=
  (s.jobsOf r.k).all (fun j => (s.ownCut (s.jobYard j) r.k).all (fun leaf => !r.awaits leaf))

/-! ### Stall and yard status (R171) -/

/-- STALL.STATE. -/
def State.stallState (s : State) (i : Nat) : Nat :=
  if bit (s.rd Obj.muckOutOfService) i then 3
  else if !s.isOn (stallDomain i) then 0
  else
    match s.leafJob i with
    | some j => if (s.yard (s.jobYard j)).failed.contains i then 1 else 2
    | none => 1
/-- STALL.JOB. -/
def State.stallJob (s : State) (i : Nat) : Nat :=
  match s.leafJob i with
  | some j => if (s.yard (s.jobYard j)).failed.contains i then 0xFF else j
  | none => 0xFF
/-- YARD.ACTIVE: member slots with an active leaf. YARD.FAILED: member slots all of whose leaves have failed, or that
reach a failed remote member (log entry 34). -/
def State.yardActive (s : State) (y : Nat) : Nat :=
  maskOf ((List.range 64).filter (fun i => (s.slotLeaves s.dict y i).any (fun l => (s.activeLeaves y).contains l)))
def State.yardFailed (s : State) (y : Nat) : Nat :=
  maskOf ((List.range 64).filter (fun i =>
    let w := s.rdE (Obj.yardMembers y) i
    let ls := s.slotLeaves s.dict y i
    (!ls.isEmpty && ls.all (fun l => (s.yard y).failed.contains l))
      || (memKind w == 3 && (s.yard y).failedMembers.contains (memberCode (memNode w, memNum w)))))

/-- Whether the yard is the bound yard of an active job. -/
def State.yardJob (s : State) (y : Nat) : Option Nat := s.activeSlots.find? (fun j => s.jobYard j == y)

end Sys2Proof.Machine
end

