-- ==== Sys2Proof/Machine/MemOps.lean ====
section
/-!
DEFINITION. Accesses to the device address space: which region answers (R361), poisoned blocks (R367 to R371), accesses to
halves and banks that are not ON (R374, R378), and the host window (R392).
-/
namespace Sys2Proof.Machine

/-- The regions of R361. -/
inductive Region where
  | gddr
  | loft (bank : Nat)
  | stall (i : Nat)
  | granary
  | host
  | none
  deriving DecidableEq, Repr

/-- The first address above protected GDDR6 (R361, R366): its lower part is present always, its upper part with 16 devices; none is
present once a half has failed its training (R363). -/
def State.gddrTop (s : State) : Nat :=
  if s.memctl.trained.all id && s.memctl.rates.any (· == 0) then 0
  else if s.memctl.fitted = 16 then 0x700000000 else 0x380000000

/-- The region that an address lies in. -/
def State.region (s : State) (a : Nat) : Region :=
  if a < s.gddrTop then .gddr
  else if 0x1000000000 ≤ a ∧ a < 0x1002000000 then .loft ((a - 0x1000000000) / 0x400000)
  else if 0x1100000000 ≤ a ∧ a < 0x1120000000 ∧ a % 0x1000000 < 0x500000 then .stall ((a - 0x1100000000) / 0x1000000)
  else if 0x1200000000 ≤ a ∧ a < 0x1200040000 then .granary
  else if 0x2000000000 ≤ a ∧ a < 0x4000000000 then .host
  else .none

/-- Protected GDDR6 is usable only while both halves are ON (R374). -/
def State.gddrOn (s : State) : Bool := s.isOn 12 && s.isOn 13

/-- Whether the region of an address answers requests of the units on the droveway; the granary has private ports (R383)
and the host window is present only in BUS_MASTER (R392). -/
def State.present (s : State) (a : Nat) : Bool :=
  match s.region a with
  | .gddr => s.gddrOn
  | .loft b => s.isOn (14 + b)
  | .stall i => s.isOn (stallDomain i)
  | .granary => false
  | .host => s.rd Obj.hostLinkState == 3
  | .none => false

/-- Where the byte at a device address is kept: host memory lies above the device address space, by host address. -/
def State.phys (s : State) (a : Nat) : Nat :=
  if 0x2000000000 ≤ a ∧ a < 0x4000000000 then 2 ^ 64 + s.rd Obj.hostWindowBase + (a - 0x2000000000) else a

/-! ### Channels and blocks (R365) -/

/-- The XOR of the nibbles of g. -/
def nibbleXor : Nat → Nat → Nat
  | 0, _ => 0
  | fuel + 1, g => (g % 16) ^^^ nibbleXor fuel (g / 16)
/-- The channel of a GDDR6 address. -/
def channelOf (a : Nat) : Nat := nibbleXor 10 (a / 512)

def updMemctl (f : MemCtl → MemCtl) (s : State) : State := { s with memctl := f s.memctl }
/-- One hour in the unit of `State.now`. -/
abbrev hourUnit : Nat := 3600000000000 * nsUnit
/-- Count a corrected codeword (R371, R372, objects :0A and :0D). -/
def countCorrected (a : Nat) (s : State) : State :=
  let c := channelOf a
  s |> incE 64 Obj.memCorrected c |> wr Obj.memLastCe a
    |> updMemctl (fun m => { m with
        ceTimes := sset [] c (s.now :: (sget [] m.ceTimes c).filter (fun t => s.now < t + hourUnit)) m.ceTimes })
    |> detect (halfBlock (c / 8)) 0
/-- A demand read corrected a byte: the block is queued for a scrub write-back (R371). -/
def demandCorrected (a : Nat) (s : State) : State :=
  s |> countCorrected a |> updMemctl (fun m => { m with wbQueue := m.wbQueue ++ [a / 64] })
/-- Count an uncorrectable codeword of GDDR6 (R370). -/
def countUncorrectable (a : Nat) (s : State) : State :=
  let c := channelOf a
  let s := if s.rd Obj.memFirstUe = 0 then wr Obj.memFirstUe a s else s
  s |> incE 32 Obj.memUncorrectable c |> wr Obj.memLastUe a |> detect (halfBlock (c / 8)) 1

/-- Record a detection in a block whose domain is not ON: R374 and R378 set OFF_ACCESS there although R481 makes no other
detection (log entry 22). -/
def detectOff (b i : Nat) (s : State) : State :=
  let was := s.sticky b i
  let s := recordDetection b i s
  if was || s.rdE (Obj.faultReact b) i % 16 = 0 then s else { s with reacts := s.reacts ++ [(b, i)] }

/-- An access to GDDR6 or to a loft bank that is not ON (R374, R378). -/
def offAccess (a : Nat) (s : State) : State :=
  match s.region a with
  | .gddr =>
    if s.gddrOn then s
    else
      let s := inc 32 Obj.memOffAccess s
      let s := if s.isOn 12 then s else detectOff (halfBlock 0) Src.memOffAccess s
      if s.isOn 13 then s else detectOff (halfBlock 1) Src.memOffAccess s
  | .loft b => if s.isOn (14 + b) then s else s |> inc 32 Obj.loftOffAccess |> detectOff loftBlock Src.loftOffAccess
  | _ => s

/-- Whether the ranges of n bytes at a and of m bytes at b share a byte. -/
def rangesTouch (a n b m : Nat) : Bool := a < b + m && b < a + n
/-- The 64-byte blocks that n bytes from a touch. -/
def blocksOf (a n : Nat) : List Nat := (List.range ((a % 64 + n + 63) / 64)).map (fun i => a / 64 + i)

/-- The poisoned blocks among those that an access touches. -/
def State.poisoned (s : State) (a n : Nat) : List Nat := (blocksOf a n).filter (fun b => s.poison.contains (s.phys (b * 64) / 64))

/-- Whether every 64-byte block of a range is present. -/
def State.presentAll (s : State) (a n : Nat) : Bool :=
  (blocksOf a n).all (fun b => s.present (max a (b * 64))) && (n == 0 || s.present (a + n - 1))

/-- The blocks of an access that answer with poisoned data: not present, or uncorrectable (R361, R370, R374, R378). -/
def State.badBlocks (s : State) (a n : Nat) : List Nat :=
  (blocksOf a n).filter (fun b => !s.present (max a (b * 64)) || s.poison.contains (s.phys (b * 64) / 64))
/-- What the controller counts for such a block of an access from a on. -/
def countBad (a b : Nat) (s : State) : State :=
  if s.present (max a (b * 64)) then countUncorrectable (b * 64) s else offAccess (max a (b * 64)) s

/-- Whether an address lies in an area whose contents the manual names without a layout: the firmware's and the dictionary
store, the groom's work area (R376), the exchange slots of the loft (R377), and the expansion buffer of a stall at work (R380,
R381). What is read there is open (log entry 88). -/
def State.unlaid (s : State) (a : Nat) : Bool :=
  a < 0x4C000000 || (0xE8800000 ≤ a && a < 0x10C800000) || (0x1000D00000 ≤ a && a < 0x1001D00000)
    || (0x1100000000 ≤ a && a < 0x1120000000 && 0x480000 ≤ a % 0x1000000 && (s.leafJob ((a - 0x1100000000) / 0x1000000)).isSome)
/-- The byte that a read of the device address a finds. -/
def State.readByte (s : State) (a : Nat) : Byte :=
  if s.unlaid a then Config.areaByte a s.draws else s.byteAt (s.phys a)

/-- Read n bytes. `none` is poisoned data (R370). -/
def memRead (a n : Nat) (s : State) : Option (List Byte) × State :=
  match s.badBlocks a n with
  | [] => (some ((List.range n).map (fun i => s.readByte (a + i))), drawn s)
  | bad => (none, bad.foldl (fun s b => countBad a b s) s)

/-- A consumer without a reaction of its own replaces each poisoned 64-byte block with zeros (R370, last row). -/
def memReadZero (a n : Nat) (s : State) : List Byte × State :=
  let bad := s.badBlocks a n
  ((List.range n).map (fun i => if bad.contains ((a + i) / 64) then 0 else s.readByte (a + i)),
    bad.foldl (fun s b => countBad a b s) (drawn s))

/-! ### Stores of the stalls (R380) -/

/-- Where the stores of stall i lie: neuron store, kernel store and scratchpad. -/
abbrev stallBase (i : Nat) : Nat := 0x1100000000 + i * 0x1000000
abbrev kernelBase (i : Nat) : Nat := stallBase i + 0x100000
abbrev scratchBase (i : Nat) : Nat := stallBase i + 0x180000

/-- The rows of maps that a write of n bytes at a has changed in a scratchpad take the bytes that now lie there (R235, R381). -/
def reloadRows (a n : Nat) (s : State) : State :=
  let i := (a - 0x1100000000) / 0x1000000
  let rows := if 0x1100000000 ≤ a ∧ a < 0x1120000000 then
      (s.stall i).placed.filter (fun r => rangesTouch a n (scratchBase i + r.at') r.size) else []
  if rows.isEmpty then s
  else updStall i (fun st => { st with
    maps := st.maps.filter (fun m => !rows.any (fun r => r.layer == m.layer && r.step == m.step && r.row == m.row))
      ++ rows.flatMap (fun r => rowCells r.layer r.step r.row r.channels r.width (s.bytesAt (scratchBase i + r.at') r.size)) }) s

/-- Write bytes to memory that is present and keeps them from `place` on: a whole block replaces poison; the read of a partial
write of a poisoned block counts as uncorrectable, and the block stays poisoned (R368 to R370). -/
def writePresent (place a : Nat) (b : List Byte) (s : State) : State :=
  let isWhole := fun k => decide (a ≤ k * 64) && decide (k * 64 + 64 ≤ a + b.length)
  let cleared := ((blocksOf a b.length).filter isWhole).map (fun k => s.phys (k * 64) / 64)
  let torn := (s.poisoned a b.length).filter (fun k => !isWhole k)
  let s := torn.foldl (fun s k => countUncorrectable (k * 64) s) s
  let s := { s with poison := s.poison.filter (fun p => !cleared.contains p) }
  reloadRows a b.length (putBytes place b s)

/-- The bytes of a write from a on that fall on block k, and where they begin. -/
abbrev blockStart (a k : Nat) : Nat := max a (k * 64)
def blockPart (a : Nat) (b : List Byte) (k : Nat) : List Byte :=
  slice b (blockStart a k - a) (min (a + b.length) (k * 64 + 64) - blockStart a k)
/-- The part of a write, begun in s, that falls on block k: it is discarded where the block is not present (R374, R378). -/
def writeBlock (s : State) (a : Nat) (b : List Byte) (k : Nat) (t : State) : State :=
  let lo := blockStart a k
  if s.present lo then writePresent (s.phys lo) lo (blockPart a b k) t else offAccess lo t

/-- Write bytes. What is not present is discarded, block by block. -/
def memWrite (a : Nat) (b : List Byte) (s : State) : State :=
  if s.presentAll a b.length then writePresent (s.phys a) a b s
  else (blocksOf a b.length).foldl (fun t k => writeBlock s a b k t) s

/-! ### The areas of R376 and R377 that the event path keeps -/

abbrev loftBase : Nat := 0x1000000000
/-- Block `place` of the staging area of gate g, and record n of the block queue of stall i, in the loft. -/
abbrev stagingAt (g place : Nat) : Nat := loftBase + g * 0x40000 + place * 4096
abbrev queueAt (i n : Nat) : Nat := loftBase + 0x900000 + i * 0x20000 + n % 16384 * 8
/-- Bank b of the hot-pixel mask of gate g, record n of its quarantine area, and event n of the late-carry buffer of stall i, in
GDDR6. -/
abbrev maskAt (g b : Nat) : Nat := 0xDC000000 + g * 0x100000 + b * 0x80000
abbrev quarantineAt (g n : Nat) : Nat := 0xDE400000 + g * 0x100000 + n % 131072 * 8
abbrev lateAt (i n : Nat) : Nat := 0xE0800000 + i * 0x400000 + n % 524288 * 8
/-- The share of gate g in the groom's work area. -/
abbrev workAt (g : Nat) : Nat := 0xE8800000 + g * 0x1000000

/-! ### The droveway (R382, R383) -/

/-- Nodes, as column and row: memory attach point m, and stall i. -/
def attachNode (m : Nat) : Nat × Nat := (m, if m % 2 = 0 then 0 else 4)
def stallNode (i : Nat) : Nat × Nat :=
  if i < 4 then (2 * i + 1, 0) else if i < 28 then ((i - 4) % 8, 1 + (i - 4) / 8) else (2 * (i - 28), 4)
/-- The memory attach point at which another unit has its second port. -/
inductive DrovePort where
  | gateGroup (g : Nat) | hostLink | fieldnet | control | paddock | groomSieve | barrow (e : Nat) | troughUnit | muckOut
  deriving DecidableEq, Repr
def DrovePort.attach : DrovePort → Nat
  | .gateGroup g => g / 2
  | .hostLink => 0
  | .fieldnet => 1
  | .control => 2
  | .paddock => 3
  | .groomSieve => 3
  | .barrow e => 4 + e / 4
  | .troughUnit => 6
  | .muckOut => 7
/-- The hops of a packet, along columns first and then along rows. -/
def droveHops (a b : Nat × Nat) : Nat := (a.1 - b.1) + (b.1 - a.1) + (a.2 - b.2) + (b.2 - a.2)
/-- Time of a packet without contention, in ns: 2 ACLK cycles a hop. -/
def droveNs (a b : Nat × Nat) : Nat := 8 * droveHops a b

/-! ### Granary and records -/

/-- Bytes of the granary, which D0 holds (R384). -/
abbrev granaryBase : Nat := 0x1200000000
/-- The reset cause and boot record (R508). -/
abbrev bootRecord : Nat := 0x1200033000

/-- Drop the listed bytes of a range, which then reads as zero (R363, R375, R379). -/
def zeroRange (a n : Nat) (s : State) : State :=
  { s with mem := s.mem.filter (fun c => !(decide (a ≤ c.1) && decide (c.1 < a + n))),
           poison := s.poison.filter (fun p => !(decide (a ≤ p * 64) && decide (p * 64 < a + n))) }

/-! ### Interrupts of the control processor (R475, R508) -/

/-- Append a log entry to the boot record: kind 0 CPI, 1 NMI. It is not delivered while D1 is not ON or no firmware
runs. -/
def logInterrupt (b i kind : Nat) (s : State) : State :=
  if s.isOn 1 && s.boot.phase = .running then
    let next := s.leMem (bootRecord + 12) 4
    s |> putBytes (bootRecord + 0x100 + 8 * (next % 480))
          (leBytes 1 b ++ leBytes 1 i ++ leBytes 1 kind ++ leBytes 1 0 ++ leBytes 4 (s.nowUs % 2 ^ 32))
      |> putBytes (bootRecord + 12) (leBytes 4 (next + 1))
  else s

end Sys2Proof.Machine
end

