-- ==== Sys2Proof/Machine/PowerOps.lean ====
section
/-!
DEFINITION. Votes and targets of the power domains (R443 to R446, R172, R457, R459).
-/
namespace Sys2Proof.Machine

/-- The wakes that are asserted or latched (R457). -/
def State.wakes (s : State) : Nat := s.power.wakeAsserted ||| s.rd Obj.wakeLatched
/-- Whether the paddock is to fuse a step that is not yet DONE (R297). -/
def State.fusePending (s : State) : Bool := s.steps.any (fun r => cfgN r.cfg Obj.paddockRun == 1)

/-- What the votes of all domains rest on. -/
structure VoteCtx where
  wakes : Nat               -- domains that asserted or latched wakes hold ON
  boot : Nat                -- domains that POWER.FW_BOOT and R452 hold ON
  gates : List Nat          -- domains of enabled gates
  paddock : Bool
  memory : Bool
  jobs : Bool
  leaves : List Nat         -- active leaf stalls
  sleep : Nat
  muck : List Nat
  deriving DecidableEq, Repr

/-- The leaf stalls of job slot j that the YARD client holds ON (R172). -/
def State.heldStalls (s : State) (j : Nat) : List Nat :=
  let y := s.jobYard j
  (if s.slotRuns j then s.activeLeaves y
   else (s.slot j).leaves.filter (fun l => !bit (s.rd Obj.muckOutOfService) l)).filter isLocal

/-- While the device sleeps or wakes, D1 in transition or in RET counts as held ON for D12 to D17 (R459's example). -/
def State.voteCtx (s : State) : VoteCtx where
  wakes := if s.wakes = 0 then 0 else (List.range 4).foldl (fun m n =>
    if bit s.wakes n then m ||| clrBit (s.rdE Obj.wakeDomains n) 0 else m) 0
  boot := s.rd Obj.powerFwBoot ||| (if s.power.bootVote then 4 else 0)
  gates := (s.gates.filter (fun g => g.2.enabled)).map (fun g => gateDomain g.1)
  paddock := s.rd Obj.paddockRun == 1 || s.fusePending
  memory := s.domState 1 == 2 || s.domState 1 == 3 || s.domState 1 == 4 || s.domState 1 == 5
  jobs := !s.activeSlots.isEmpty
  leaves := s.activeSlots.flatMap s.heldStalls
  sleep := s.power.sleep
  muck := s.power.muckVotes

/-- Whether the FW client has an ON condition for domain d in R445, R452, R374 or R378. -/
def VoteCtx.fwOn (c : VoteCtx) (d : Nat) : Bool :=
  if d = 1 then true
  else if d = 2 || d = 3 || d = 10 then bit c.boot d
  else if 4 ≤ d && d ≤ 9 then c.gates.contains d
  else if d = 11 then c.paddock
  else if 12 ≤ d && d ≤ 17 then c.memory
  else if 18 ≤ d && d ≤ 21 then c.jobs
  else false

/-- The FW vote for domain d: 0 none, 1 RET, 2 ON. -/
def VoteCtx.fw (c : VoteCtx) (d : Nat) : Nat :=
  if bit c.wakes d then 2
  else if c.fwOn d then (if c.sleep = 0 then 2 else if c.sleep = 1 then 1 else 0)
  else 0
/-- The YARD vote: ON for each active leaf stall of every job in STARTING, RUNNING or STOPPING (R172). -/
def VoteCtx.yard (c : VoteCtx) (d : Nat) : Nat := if 22 ≤ d && d < 54 && c.leaves.contains (d - 22) then 2 else 0
def VoteCtx.muckOn (c : VoteCtx) (d : Nat) : Nat := if c.muck.contains d then 2 else 0

def State.hostVote (s : State) (d : Nat) : Nat := s.rdZ (Obj.domainVoteHost d)
def State.netVote (s : State) (d : Nat) : Nat := s.rdZ (Obj.domainVoteNet d)

/-- DOMAIN.VOTES of d. -/
def State.votes (s : State) (d : Nat) : Nat :=
  let c := s.voteCtx
  s.hostVote d + 4 * s.netVote d + 16 * c.fw d + 64 * c.muckOn d + 256 * c.yard d

/-- The votes of every client but MUCK. -/
def State.otherVotes (s : State) (c : VoteCtx) (d : Nat) : List Nat := [s.hostVote d, s.netVote d, c.fw d, c.yard d]

/-- The target of a domain (R443): 0 OFF, 1 RET, 2 ON. -/
def targetOf (votes : List Nat) : Nat := if votes.contains 2 then 2 else if votes.contains 1 then 1 else 0
def State.targetIn (s : State) (c : VoteCtx) (d : Nat) : Nat := if d = 0 then 2 else targetOf (c.muckOn d :: s.otherVotes c d)
def State.target (s : State) (d : Nat) : Nat := s.targetIn s.voteCtx d

/-- The PMBus role that feeds a domain besides VDD_CORE (R442, R463): 2 VDDQ_G6, 3 VDD_DPHY, 4 VDD_PHY. -/
def domainRoles (d : Nat) : List Nat :=
  if d = 2 ∨ d = 3 then [4]
  else if 4 ≤ d ∧ d ≤ 9 then [3]
  else if d = 12 ∨ d = 13 then [4, 2]
  else []

/-- The enabled slots whose managed rail a domain draws on (R465). -/
def State.domainRails (s : State) (d : Nat) : List Nat :=
  (List.range 4).filter (fun r => r != 0 && s.rdE Obj.railAddress r != 0 && (domainRoles d).contains (s.rdE Obj.railRole r))

end Sys2Proof.Machine
end

