-- ==== Sys2Proof/Machine/TroughOps.lean ====
section
/-!
DEFINITION. Troughs and the barrow: reservation, dropping and writing of sets (R336 to R348), HEAD writes and pops, the
descriptors and channels of the barrow (R349 to R359), and the resets of R360. The abort codes of R75 are here too, since
these are the first operations that answer one.
-/
namespace Sys2Proof.Machine

/-! ### Abort codes (R75) -/

namespace Ab
abbrev ok : Nat := 0x0000
abbrev unknownObject : Nat := 0x0101
abbrev unknownSub : Nat := 0x0102
abbrev elementRange : Nat := 0x0103
abbrev readOnly : Nat := 0x0201
abbrev writeOnly : Nat := 0x0202
abbrev notAuthorised : Nat := 0x0203
abbrev typeMismatch : Nat := 0x0301
abbrev lengthMismatch : Nat := 0x0302
abbrev pairMismatch : Nat := 0x0303
abbrev valueRange : Nat := 0x0304
abbrev inconsistent : Nat := 0x0305
abbrev blockRunning : Nat := 0x0401
abbrev baleConflict : Nat := 0x0402
abbrev baleEmpty : Nat := 0x0403
abbrev domainOff : Nat := 0x0404
abbrev badSignature : Nat := 0x0501
abbrev staleSequence : Nat := 0x0502
abbrev busy : Nat := 0x0601
abbrev graveFault : Nat := 0x0701
abbrev jobRejected : Nat := 0x0801
end Ab

/-- An abort code with its detail word. -/
abbrev Abort := Nat × Nat
def noAbort : Abort := (Ab.ok, 0)

/-! ### Troughs -/

def State.troughN (s : State) (t : Nat) : Nat := s.rdE Obj.troughSizeLog2 t
def State.troughBase (s : State) (t : Nat) : Nat := s.rdE Obj.troughBase t
/-- COUNT (R337). -/
def State.troughCount (s : State) (t : Nat) : Nat :=
  (s.rdE Obj.troughTail t + 2 ^ 32 - s.rdE Obj.troughHead t) % 2 ^ 32
/-- Entries of reserved sets that are not visible yet. -/
def Trough.inFlight (t : Trough) : Nat := sumNat (t.sets.map (·.length))
def inHostWindow (a : Nat) : Bool := 0x2000000000 ≤ a && a < 0x4000000000
/-- Free room of an enabled trough (R342). -/
def State.troughRoom (s : State) (t : Nat) : Nat :=
  2 ^ s.troughN t - s.troughCount t - (s.trough t).inFlight - (s.trough t).reserved
/-- Whether a trough takes sets: it is enabled and its memory answers, and the unit is not in its reset (R342, R360). -/
def State.troughUsable (s : State) (t : Nat) : Bool :=
  s.troughN t != 0 && !s.troughResetting && s.present (s.troughBase t) && s.isOn 1

/-- A shadow write (R344). Where the host window is absent, the host link refuses it and that is counted; after a link loss the
unit writes none (R396). -/
def writeShadow (t : Nat) (s : State) : State :=
  let sh := s.rdE Obj.troughShadow t
  if sh = 0 then s
  else if s.present sh then memWrite sh (leBytes 4 (s.rdE Obj.troughTail t) ++ leBytes 4 (s.rdE Obj.troughDropped t)) s
  else if s.host.lost then s
  else s |> inc 32 Obj.troughHostErrors |> detect troughBlock Src.troughHostWrite

/-- Count dropped entries: TROUGH.DROPPED, the total and ENTRY_DROPPED; then the shadow (R342, R344). -/
def dropEntries (t n : Nat) (s : State) : State :=
  let s := s |> addE 32 Obj.troughDropped t n |> addE 64 Obj.troughDroppedTotal 0 n
    |> updTrough t (fun tr => { tr with droppedBefore := true })
    |> detect troughBlock Src.troughEntryDropped
  writeShadow t s

/-- The common header of an entry (R339). -/
def entryHeader (type producer flags seq t node remaining : Nat) : List Byte :=
  leBytes 1 type ++ leBytes 1 1 ++ leBytes 1 producer ++ leBytes 1 flags ++ leBytes 4 seq ++ leBytes 2 t
    ++ leBytes 2 node ++ leBytes 2 remaining ++ leBytes 2 0

/-- Reserve a set and hand over its entries (type, 48-byte body), or drop it whole; answers whether it was reserved
(R341, R342). The entries become visible when TAIL advances (R343). -/
def writeSet (t producer : Nat) (entries : List (Nat × List Byte)) (s : State) : Bool × State :=
  if t = 0xFFFF ∨ entries.isEmpty then (true, s)
  else if s.troughUsable t && entries.length ≤ s.troughRoom t then
    let tr := s.trough t
    let flags := boolNat tr.droppedBefore
    let start := s.rdE Obj.troughTail t + tr.inFlight
    let es := ((List.range entries.length).zip entries).map (fun (p : Nat × Nat × List Byte) =>
      entryHeader p.2.1 producer flags ((start + p.1) % 2 ^ 32) t (s.rd Obj.nodeNumber) (entries.length - 1 - p.1)
        ++ padTo 48 p.2.2)
    (true, updTrough t (fun tr => { tr with sets := tr.sets ++ [es], droppedBefore := false }) s)
  else (false, dropEntries t entries.length s)

/-- Reserved sets that the memory of the trough no longer takes are dropped whole (R342, R396); writes that the host link
refuses are counted as well. -/
def refuseSets (t : Nat) (s : State) : State :=
  let n := (s.trough t).inFlight
  let s := if inHostWindow (s.troughBase t) then
      s |> addE 32 Obj.troughHostErrors 0 n |> detect troughBlock Src.troughHostWrite
    else s
  s |> updTrough t (fun tr => { tr with sets := [] }) |> dropEntries t n

/-- TAIL passes the oldest set that is written: its entries are in the ring, then TAIL, the high-water mark and the
shadow follow (R343, R344). -/
def advanceTail (t : Nat) (s : State) : State :=
  match (s.trough t).sets with
  | [] => s
  | es :: rest =>
    if !s.troughUsable t then refuseSets t s else
    let tail := s.rdE Obj.troughTail t
    let n := s.troughN t
    let s := ((List.range es.length).zip es).foldl (fun s (p : Nat × List Byte) =>
      memWrite (s.troughBase t + (tail + p.1) % 2 ^ n * 64) p.2 s) s
    let s := s |> updTrough t (fun tr => { tr with sets := rest })
      |> wrE Obj.troughTail t ((tail + es.length) % 2 ^ 32)
      |> addE 64 Obj.troughEntries 0 es.length
    writeShadow t (wrE Obj.troughHighWater t (max (s.rdE Obj.troughHighWater t) (s.troughCount t)) s)

/-- A write of h to HEAD (R338). -/
def writeHead (t h : Nat) (s : State) : Nat × State :=
  if (h + 2 ^ 32 - s.rdE Obj.troughHead t) % 2 ^ 32 ≤ s.troughCount t then (Ab.ok, wrE Obj.troughHead t (h % 2 ^ 32) s)
  else (Ab.valueRange, s |> incE 32 Obj.troughHeadRefused t |> detect troughBlock Src.troughHeadRefused)

/-- A read of a pop window (R346): n bytes from offset o, with the outcome of the ring's read. -/
def popRead (t o n : Nat) (check : ReadCheck) (s : State) : List Byte × State :=
  if o ≠ 0 then (slice (s.trough t).latch o n, s)
  else if s.troughN t = 0 || inHostWindow (s.troughBase t) then
    (List.replicate n 0, incE 32 Obj.troughHeadRefused t s)
  else if s.troughCount t = 0 then
    (List.replicate n 0, updTrough t (fun tr => { tr with latch := List.replicate 64 0 }) s)
  else
    let head := s.rdE Obj.troughHead t
    let a := s.troughBase t + head % 2 ^ s.troughN t * 64
    let raw := s.bytesAt a 64
    let stored := !(s.poisoned a 64).isEmpty || !s.presentAll a 64
    let bad := stored || check = .uncorrectable
    let e := if bad then setAt raw 3 ((raw.getD 3 0) ||| 2) else raw
    let s := s |> wrE Obj.troughHead t ((head + 1) % 2 ^ 32) |> updTrough t (fun tr => { tr with latch := e })
    let s := if !s.presentAll a 64 then offAccess a s else s
    let s := if bad then s |> countUncorrectable a |> detect troughBlock Src.troughRingUncorrectable
      else if check = .corrected then s |> demandCorrected a |> detect troughBlock Src.troughRingEcc else s
    (e.take n, s)

/-- The elements of an array that a store lists. -/
def listedElems (d : Store) (addr : Nat) : List Nat :=
  (d.filter (fun p => p.1 / 2 ^ 24 == addr)).map (fun p => p.1 % 2 ^ 24)

/-- A trough whose BASE or SIZE_LOG2 has changed at a boundary: its entries are discarded and counted, HEAD and TAIL
are 0 (R348). -/
def reconfigureTrough (t : Nat) (s : State) : State :=
  let n := s.troughCount t + (s.trough t).inFlight
  let s := if n = 0 then s else s |> addE 32 Obj.troughDropped t n |> addE 64 Obj.troughDroppedTotal 0 n
  s |> updTrough t (fun tr => { tr with sets := [] }) |> wrE Obj.troughHead t 0 |> wrE Obj.troughTail t 0

/-- BLOCK_RESET of the trough unit (R360, R44): the counters return to their defaults, then every trough's entries are
discarded and counted. -/
def resetTroughs (s : State) : State :=
  let s := s |> clearObj Obj.troughEntries 1 |> clearObj Obj.troughDroppedTotal 1 |> clearObj Obj.troughHostErrors 1
    |> clearObj Obj.troughDropped 16384 |> clearObj Obj.troughHeadRefused 16384 |> clearObj Obj.troughHighWater 16384
  let ts := dedup (listedElems s.dict Obj.troughTail ++ listedElems s.dict Obj.troughHead ++ s.troughs.map (·.1))
  let s := ts.foldl (fun s t =>
    let n := s.troughCount t + (s.trough t).inFlight
    if n = 0 then s
    else
      s |> wrE Obj.troughHead t (s.rdE Obj.troughTail t) |> addE 32 Obj.troughDropped t n
        |> addE 64 Obj.troughDroppedTotal 0 n
        |> updTrough t (fun tr => { tr with sets := [], droppedBefore := true })) s
  { s with troughResetting := true }

/-! ### Barrow descriptors (R350 to R354) -/

def State.chanState (s : State) (c : Nat) : Nat := s.rdE Obj.chanState c
def setChan (c n : Nat) (s : State) : State := wrE Obj.chanState c n s

/-- A descriptor from its 32 bytes. -/
def parseDesc (b : List Byte) : Desc :=
  ⟨leAt b 0 5, leAt b 8 5, leAt b 16 4, leAt b 20 2, leAt b 22 2, leAt b 24 5, leAt b 5 3, leAt b 13 3, leAt b 29 3⟩

def Desc.swap (d : Desc) : Nat := field d.control 2 0
def Desc.complete (d : Desc) : Bool := bit d.control 3
def Desc.last (d : Desc) : Bool := bit d.control 4
/-- The unit of a swap mode (R351). -/
def swapUnit (m : Nat) : Nat := if m = 1 then 2 else if m = 2 ∨ m = 4 then 4 else if m = 3 then 8 else 1
/-- One group as the destination holds it (R351). -/
def swapGroup (m : Nat) (g : List Byte) : List Byte :=
  if m = 0 then g
  else if m = 4 then slice g 2 2 ++ slice g 0 2
  else g.reverse
def swapBytes (m : Nat) (b : List Byte) : List Byte :=
  (chunksOf (swapUnit m) b.length b).flatMap (swapGroup m)

/-- Whether the ranges overlap (R353). -/
def Desc.overlap (d : Desc) : Bool := 0 < d.len && d.src < d.dst + d.len && d.dst < d.src + d.len
/-- A copy with the destination above the source runs in descending address order (R353). -/
def Desc.descending (d : Desc) : Bool := d.overlap && d.src < d.dst && d.swap == 0

/-- Whether a range lies wholly in one region that the barrow reaches (R352, check 2). GDDR6 and the loft are present whether or not
their domains are ON (R361); their data is then poisoned (R374, R378). -/
def State.oneRegion (s : State) (a n : Nat) : Bool :=
  let e := if n = 0 then a else a + n - 1
  let kind : Nat → Nat := fun x =>
    match s.region x with
    | .gddr => 1
    | .loft _ => 2
    | .stall i => if s.isOn (stallDomain i) then 3 + i else 0
    | .host => if s.present x then 100 else 0
    | _ => 0
  kind a != 0 && kind a == kind e

/-- Status of R356 that the checks of R352 give; 0 where all pass. -/
def State.descCheck (s : State) (d : Desc) : Nat :=
  if d.srcRes ≠ 0 ∨ d.dstRes ≠ 0 ∨ d.nextRes ≠ 0 ∨ d.control / 64 ≠ 0 ∨ d.swap > 4 ∨ (!d.last && d.next % 32 != 0) then 4
  else if !(s.oneRegion d.src d.len && s.oneRegion d.dst d.len) then 3
  else if d.len % swapUnit d.swap ≠ 0 then 2
  else if d.swap ≠ 0 && d.overlap then 1
  else 0

/-- Whether a descriptor moves nothing although it has a length (R353). -/
def Desc.still (d : Desc) : Bool := d.src == d.dst && d.swap == 0
/-- The first of the bytes `lo` to `hi` of a descriptor, counted in its copying order (R353). -/
def Desc.offset (d : Desc) (lo hi : Nat) : Nat := if d.descending then d.len - hi else lo

/-- Bytes of a descriptor reach its destination. Those that the host link has taken are in the host's memory also where the
window has become absent since. -/
def landBytes (a : Nat) (b : List Byte) (s : State) : State :=
  if inHostWindow a then putBytes (s.phys a) b s else memWrite a b s

/-- Move bytes `lo` to `hi` of a descriptor, which the engine has read without error. -/
def moveBytes (d : Desc) (lo hi : Nat) (s : State) : State :=
  if d.still then s
  else
    let off := d.offset lo hi
    drawn (landBytes (d.dst + off) (swapBytes d.swap ((List.range (hi - lo)).map (fun i => s.readByte (d.src + off + i)))) s)

/-- Destination bytes from `lo` on are undefined (R356, R360). -/
def undefineBytes (d : Desc) (lo : Nat) (s : State) : State :=
  if d.still then s
  else
    let off := if d.descending then 0 else lo
    drawn (landBytes (d.dst + off)
      ((List.range (d.len - lo)).map (fun i => Config.undefinedByte (d.dst + off + i) s.draws)) s)

/-! ### Channels (R355 to R359) -/

def State.engineOf (_ : State) (c : Nat) : Nat := c / 32

/-- Give back a reservation that is not used (R355). -/
def releaseRes (c : Nat) (s : State) : State :=
  if (s.chan c).reserved then
    let t := s.rdE Obj.chanTrough c
    s |> updTrough t (fun tr => { tr with reserved := tr.reserved - 1 }) |> updChan c (fun ch => { ch with reserved := false })
  else s

/-- Write the BARROW_COMPLETION entry of channel c (R356). -/
def complete (c : Nat) (d : Desc) (moved status next : Nat) (fin : Bool) (s : State) : State :=
  let t := s.rdE Obj.chanTrough c
  let ch := s.chan c
  let s := releaseRes c s
  let body := leBytes 8 (s.rdE Obj.chanCurrent c) ++ leBytes 4 moved ++ leBytes 1 status ++ leBytes 1 c ++ leBytes 2 d.tag
    ++ leBytes 4 ch.chain ++ leBytes 4 ch.index ++ leBytes 8 next
    ++ leBytes 1 (boolNat fin + 2 * boolNat d.descending)
  (writeSet t 4 [(0x10, body)] s).2

/-- The chain of channel c ends: the channel is IDLE and its engine is free. -/
def endChain (c : Nat) (s : State) : State :=
  let s := releaseRes c s
  let s := updChan c (fun ch => { ch with desc := none }) s
  let s := updEngine (c / 32) (fun e => { e with running := if e.running = some c then none else e.running }) s
  setChan c 0 s

/-- The chain ends with an error completion (R356); the fault source is that of the status. -/
def failChain (c : Nat) (d : Desc) (moved status : Nat) (hostErr : Bool) (s : State) : State :=
  let src := if status = 1 then Src.barrowOverlapRefused
    else if status = 2 ∨ status = 3 ∨ status = 4 then Src.barrowDescriptorError
    else if hostErr then Src.barrowHostError else Src.barrowReadUncorrectable
  let s := s |> complete c d moved status 0 true |> incE 32 Obj.chanErrors c |> detect (barrowBlock (c / 32)) src
  endChain c s

/-- An empty descriptor, for completions of chains whose descriptor could not be read. -/
def Desc.none : Desc := ⟨0, 0, 0, 0, 0, 0, 0, 0, 0⟩

/-- Take the descriptor at CHAN.CURRENT of a channel whose turn it is: reserve completion room, read and check
(R349, R352, R355). -/
def takeDescriptor (c : Nat) (s : State) : State :=
  let t := s.rdE Obj.chanTrough c
  if t != 0xFFFF && !(s.chan c).reserved && s.troughRoom t = 0 then
    let s := s |> incE 32 Obj.chanWaits c |> setChan c 1
    updEngine (c / 32) (fun e => { e with running := Option.none }) s
  else
    let s := if t != 0xFFFF && !(s.chan c).reserved then
        s |> updTrough t (fun tr => { tr with reserved := tr.reserved + 1 }) |> updChan c (fun ch => { ch with reserved := true })
      else s
    let s := s |> setChan c 2 |> updEngine (c / 32) (fun e => { e with running := some c })
    match (s.chan c).desc with
    | some _ => s           -- a resumed channel goes on with its latched copy (R357)
    | none =>
      let a := s.rdE Obj.chanCurrent c
      match memRead a 32 s with
      | (none, s) => failChain c Desc.none 0 5 (inHostWindow a) s
      | (some b, s) =>
        let d := parseDesc b
        let st := s.descCheck d
        if st = 0 then s |> updChan c (fun ch => { ch with desc := some d }) |> wrE Obj.chanDone c 0
        else failChain c d 0 st false s

/-- The engine's turn: the next READY channel after the one last served (R349). -/
def engineTurn (e : Nat) (s : State) : State :=
  if (s.engine e).running.isSome then s
  else
    match ((List.range 32).map (fun i => ((s.engine e).last + 1 + i) % 32)).find? (fun i => s.chanState (e * 32 + i) == 1) with
    | none => s
    | some i => takeDescriptor (e * 32 + i) (updEngine e (fun en => { en with last := i }) s)

/-- Count bytes moved. -/
def countMoved (c n : Nat) (s : State) : State :=
  s |> addE 64 Obj.chanBytes c n |> addE 64 Obj.barrowEngineBytes (c / 32) n

/-- The descriptor in progress ends without error (R356, R358). -/
def descriptorOk (c : Nat) (d : Desc) (s : State) : State :=
  let s := wrE Obj.chanDone c (d.len % 2 ^ 32) s
  if s.chanState c = 5 then s |> complete c d d.len 7 0 true |> endChain c
  else if d.last then
    let s := if d.complete then complete c d d.len 0 0 true s else s
    endChain c s
  else
    let s := if d.complete then complete c d d.len 0 d.next false s else releaseRes c s
    let s := s |> updChan c (fun ch => { ch with desc := none, index := ch.index + 1 }) |> wrE Obj.chanCurrent c d.next
      |> wrE Obj.chanDone c 0
    takeDescriptor c s

/-- The address of byte i of a descriptor's source in its copying order. -/
def Desc.srcAt (d : Desc) (i : Nat) : Nat := if d.descending then d.src + d.len - 1 - i else d.src + i
/-- How many of the bytes from `lo` on, in copying order, precede the first that answers with poisoned data. -/
def State.cleanPart (s : State) (d : Desc) (lo : Nat) : Nat :=
  if d.still then d.len - lo
  else
    let bad := fun (i : Nat) => !s.present (d.srcAt i) || s.poison.contains (s.phys (d.srcAt i) / 64)
    ((List.range (d.len - lo)).find? (fun i => bad (lo + i))).getD (d.len - lo)
/-- The same in whole swap units. -/
def State.readablePart (s : State) (d : Desc) (lo : Nat) : Nat := s.cleanPart d lo / swapUnit d.swap * swapUnit d.swap

/-- Bytes of the descriptor in progress on channel c are moved, up to `m`. -/
def advanceMove (c : Nat) (d : Desc) (m : Nat) (s : State) : State :=
  let done := s.rdE Obj.chanDone c
  s |> moveBytes d done m |> countMoved c (m - done) |> wrE Obj.chanDone c m

/-- The descriptor in progress fails after `m` bytes (R356). -/
def failMove (c : Nat) (d : Desc) (m status : Nat) (host : Bool) (s : State) : State :=
  s |> advanceMove c d m |> undefineBytes d m |> failChain c d m status host

/-- How far a move comes that is said to end after `moved` bytes: whole swap units, not behind what is in place, and not past
bytes of a device memory that cannot be read. Host memory that was read before the window became absent was readable. -/
def State.moveLimit (s : State) (c : Nat) (d : Desc) (moved : Nat) : Nat :=
  let done := s.rdE Obj.chanDone c
  let top := if inHostWindow d.src then d.len else done + s.readablePart d done
  max done (min moved top / swapUnit d.swap * swapUnit d.swap)

/-- The move ends as far as the memories are concerned: bytes that answer with poisoned data end it with READ_ERROR, and how much
of what precedes them is written is open; a host window that is absent ends it with WRITE_ERROR (R356, R370, R374). -/
def endAsRead (c : Nat) (d : Desc) (s : State) : State :=
  let done := s.rdE Obj.chanDone c
  let clean := s.cleanPart d done
  let u := swapUnit d.swap
  if done + clean < d.len then
    let m := done + s.free % (clean / u + 1) * u
    let a := d.srcAt (done + clean)
    s |> drawn |> advanceMove c d m |> countBad a (a / 64) |> undefineBytes d m |> failChain c d m 5 (inHostWindow d.src)
  else if inHostWindow d.dst && !s.present d.dst then failMove c d done 6 true s
  else s |> moveBytes d done d.len |> countMoved c (d.len - done) |> descriptorOk c d

/-- The descriptor in progress on channel c ends. One that moves nothing meets no memory (R353). -/
def endDescriptor (c : Nat) (d : Desc) (how : MoveEnd) (s : State) : State :=
  if d.still then endAsRead c d s
  else
    match how with
    | .readUncorrectable moved => failMove c d (s.moveLimit c d moved) 5 false s
    | .readRefused moved => failMove c d (s.moveLimit c d moved) 5 true s
    | .writeRefused moved => failMove c d (s.moveLimit c d moved) 6 true s
    | .ok => endAsRead c d s

/-- DESCRIPTOR_END: the move of the descriptor in progress on engine e ends as the memories and the host let it. -/
def descriptorEnd (e : Nat) (how : MoveEnd) (s : State) : State :=
  match (s.engine e).running with
  | none => s
  | some c =>
    match (s.chan c).desc with
    | none => s
    | some d => if s.chanState c ≠ 2 ∧ s.chanState c ≠ 5 then s else endDescriptor c d how s

/-- CHAN.CMD = 1 (R357 to R359). -/
def chanStart (c : Nat) (s : State) : Nat × State :=
  if s.chanState c ≠ 0 then (Ab.blockRunning, s)
  else
    let s := s |> wrE Obj.chanCurrent c (s.rdE Obj.chanDesc c) |> wrE Obj.chanDone c 0 |> incE 32 Obj.chanChains c
    let n := s.rdE Obj.chanChains c
    (Ab.ok, s |> updChan c (fun ch => { ch with desc := none, index := 0, chain := n }) |> setChan c 1)

/-- CHAN.CMD = 2. -/
def chanPause (c : Nat) (s : State) : Nat × State :=
  if s.chanState c = 5 then (Ab.blockRunning, s)
  else if s.chanState c = 2 then (Ab.ok, setChan c 3 s)
  else if s.chanState c = 1 then (Ab.ok, setChan c 4 s)
  else (Ab.valueRange, s)

/-- CHAN.CMD = 3. -/
def chanResume (c : Nat) (s : State) : Nat × State :=
  if s.chanState c = 5 then (Ab.blockRunning, s)
  else if s.chanState c = 4 then (Ab.ok, setChan c 1 s)
  else (Ab.valueRange, s)

/-- The reads in flight of a pausing channel have drained: `moved` bytes are in place (R357). -/
def pauseAt (c moved : Nat) (s : State) : State :=
  match (s.chan c).desc with
  | none => s |> setChan c 4 |> updEngine (c / 32) (fun e => { e with running := none })
  | some d =>
    s |> advanceMove c d (max (s.rdE Obj.chanDone c) (min moved (s.rdE Obj.chanDone c + s.readablePart d (s.rdE Obj.chanDone c))
        / swapUnit d.swap * swapUnit d.swap)) |> setChan c 4
      |> updEngine (c / 32) (fun e => { e with running := if e.running = some c then none else e.running })

/-- CHAN.CMD = 4 (R358). -/
def chanStop (c : Nat) (s : State) : Nat × State :=
  let st := s.chanState c
  if st = 5 then (Ab.blockRunning, s)
  else if st = 2 then (Ab.ok, setChan c 5 s)
  else if st = 0 then (Ab.ok, s)
  else
    -- a PAUSING channel first drains; where its paused point falls is left open
    let s := if st = 3 then
        match (s.chan c).desc with
        | some d =>
          let done := s.rdE Obj.chanDone c
          let u := swapUnit d.swap
          pauseAt c (done + s.free % ((d.len - done) / u + 1) * u) (drawn s)
        | none => s
      else s
    let d := ((s.chan c).desc).getD Desc.none
    let moved := if st = 1 then 0 else s.rdE Obj.chanDone c
    (Ab.ok, s |> complete c d moved 7 0 true |> endChain c)

/-- BLOCK_RESET of barrow engine e (R360, R44). -/
def resetEngine (e : Nat) (s : State) : State :=
  let s := (List.range 32).foldl (fun s i =>
    let c := e * 32 + i
    if s.chanState c = 0 then s
    else
      let d := ((s.chan c).desc).getD Desc.none
      let done := s.rdE Obj.chanDone c
      let s := if s.chanState c = 2 || s.chanState c = 3 || s.chanState c = 5 then undefineBytes d done s else s
      let s := if (s.chan c).reserved then complete c d done 8 0 true s else s
      endChain c s) s
  let s := (List.range 32).foldl (fun s i =>
    let c := e * 32 + i
    s |> wrE Obj.chanChains c 0 |> wrE Obj.chanBytes c 0 |> wrE Obj.chanErrors c 0 |> wrE Obj.chanWaits c 0
      |> wrE Obj.chanCurrent c 0 |> wrE Obj.chanDone c 0) s
  s |> wrE Obj.barrowEngineBytes e 0 |> updEngine e (fun _ => Engine.reset)

end Sys2Proof.Machine
end

