-- ==== Sys2Proof/Machine/GateOps.lean ====
section
/-!
DEFINITION. The gate pipeline: table banks (R108, R109), rebasing (R91, R92), the watermark and what follows from it
(R101, R106), hitching (R94 to R98), the stages of R89, and staging, ring and block queues (R103 to R107).
-/
namespace Sys2Proof.Machine

/-! ### Table banks -/

/-- Whether an object is an ingress-side table of gate g (R27, R108). -/
def ingressTable (addr : Nat) : Bool :=
  (0x2200 ≤ addr / 256 && addr / 256 < 0x2224) ||
    (0x2100 ≤ addr / 256 && addr / 256 < 0x2124 && addr % 256 == 9)
/-- The gate that an ingress-side table belongs to. -/
def tableGate (addr : Nat) : Nat := if addr / 256 < 0x2124 then addr / 256 - 0x2100 else addr / 256 - 0x2200

/-- Element e of a table of gate g in the bank in force. -/
def Gate.tab (gt : Gate) (addr e : Nat) : Nat := cfgE gt.bank addr e

/-- Enable of gate g in force (R114): GATE.RUN or its safety bit; a failing safety pair keeps the enable it had. -/
def State.safetyBit (s : State) (g : Nat) : Bool :=
  if g < 32 then bit (s.pair 32 Obj.gateSafetyLo 0) g else bit (s.pair 16 Obj.gateSafetyHi 0) (g - 32)
def State.safetyPairsOk (s : State) : Bool := pairOk 32 (s.rd Obj.gateSafetyLo) && pairOk 16 (s.rd Obj.gateSafetyHi)
def State.enableInForce (s : State) (g : Nat) : Bool :=
  if s.safetyPairsOk then s.rd (Obj.gateRun g) == 1 || s.safetyBit g else (s.gate g).enabled

def State.gateState (s : State) (g : Nat) : Nat := s.rd (Obj.gateState g)
def State.silent (s : State) (g : Nat) : Bool := bit (s.rd Obj.stepSilentGates) g
/-- Whether the loss of coverage of a safety-designated gate lasts (R114, source SAFETY_COVERAGE). -/
def State.coverageLost (s : State) (g : Nat) : Bool :=
  s.safetyBit g && (s.gateState g == 2 || s.silent g || (s.gateState g == 0 && (s.gate g).enabled))
def checkCoverage (g : Nat) (s : State) : State :=
  if s.coverageLost g && !s.sticky (gateBlock g) Src.gateSafetyCoverage then detect (gateBlock g) Src.gateSafetyCoverage s
  else s

/-! ### Rebasing (R91, R92) -/

/-- The rebased time of sensor time t (µs) under the bank in force, in 2⁻¹⁶ µs; none out of range. -/
def Gate.rebase (gt : Gate) (g : Nat) (t : Int) : Option Int :=
  let sref : Int := (gt.tab (Obj.rebaseSensorRef g) 0 : Nat)
  let dref : Int := ((gt.tab (Obj.rebaseDeviceRef g) 0 * 65536 + gt.tab (Obj.rebaseDeviceRefFrac g) 0 : Nat) : Int)
  let d := toSigned 32 (gt.tab (Obj.rebaseDrift g) 0)
  let δ := t - sref
  if δ ≤ -(2 ^ 38) ∨ 2 ^ 38 ≤ δ ∨ d * δ < -(2 ^ 71) ∨ 2 ^ 71 ≤ d * δ then none
  else some (dref + δ * 65536 + d * δ / (2 ^ 24 : Nat))

/-- ⌊t⌋ in µs of a rebased time. -/
def usOf (t : Int) : Int := t / 65536

/-! ### Unhitching (R95) -/

/-- Gate g does not cover the step that is open now (R304). -/
def loseCover (g : Nat) (s : State) : State :=
  updStep s.openStep (fun r => if r.lost.contains g then r else { r with lost := g :: r.lost }) s

/-- The groom empties the marker window of gate g (R131). -/
def dropMarkers (g : Nat) (s : State) : State :=
  if (sfind s.groom.markers g).isSome then { s with groom := { s.groom with markers := serase g s.groom.markers } } else s

/-- Leave HITCHED, or cancel a pending hitch (R95, R96). `jump` tells R86 and R92 from the other causes. What R98 asks for after
a gate has unhitched starts anew only where it was HITCHED. -/
def unhitch (g : Nat) (jump : Bool) (s : State) : State :=
  let s := updGate g (fun gt => { gt with offsets := [], hitchAt := none }) s
  if s.gateState g = 3 then
    s |> updGate g (fun gt => { gt with packetSince := false, tableSince := gt.tableSince && !jump })
      |> dropMarkers g |> wr (Obj.gateState g) 2 |> loseCover g |> incE 32 (Obj.gateWordCounts g) 11
      |> detect (gateBlock g) Src.gateUnhitched |> checkCoverage g
  else s

/-- A discontinuity or an out-of-range time (R86, R92). -/
def timeJump (g : Nat) (s : State) : State :=
  s |> dropMarkers g |> incE 32 (Obj.gateWordCounts g) 10 |> detect (gateBlock g) Src.gateTimeDiscontinuity |> unhitch g true

/-! ### Bank switches (R108, R109) -/

/-- The writes of a load that touch REBASE objects. -/
def rebaseKey (k : Nat) : Bool := ingressTable (k / 2 ^ 24) && k / 2 ^ 24 / 256 ≥ 0x2200 && k / 2 ^ 24 % 256 ≤ 5

/-- The hot-pixel mask of a change is in GDDR6, in the bank that is not in force (R99, R376). When its bytes come to lie there
before the switch is the model's choice (log entry 88). -/
def writeMask (g : Nat) (l : TableLoad) (s : State) : State :=
  match l.vals.find? (fun p => p.1 / 2 ^ 24 == Obj.hotMask g) with
  | some p => memWrite (maskAt g (boolNat (!(s.gate g).maskBank))) (padTo 524288 p.2.toBytes) s
  | none => s

/-- Gate g takes over one loaded change. -/
def switchBank (g : Nat) (l : TableLoad) (s : State) : State :=
  let s := writeMask g l s
  let mask := l.vals.any (fun p => p.1 / 2 ^ 24 == Obj.hotMask g)
  let s := updGate g (fun gt => { gt with
    bank := l.vals.foldl (fun d p => dsetK d p.1 p.2) gt.bank, loads := gt.loads.erase l,
    maskBank := if mask then !gt.maskBank else gt.maskBank }) s
  -- a REBASE.VALID of 0 takes effect: the gate unhitches, a pending hitch is cancelled
  if l.vals.any (fun p => rebaseKey p.1) && (s.gate g).tab (Obj.rebaseValid g) 0 == 0 then unhitch g false s else s

/-- Switch to every complete load whose boundary the watermark (µs) has reached, in order. -/
def switchUpTo (g : Nat) (wm : Int) (s : State) : State :=
  ((s.gate g).loads.filter (fun l => l.complete && (l.boundaryUs : Int) ≤ wm)).foldl (fun s l => switchBank g l s) s

/-- At B_j a gate that is STOPPED, or whose domain is not ON, switches to what has been loaded for B_j (R109). -/
def switchIdle (k g : Nat) (s : State) : State :=
  if s.gateState g == 0 || !s.isOn (gateDomain g) then
    ((s.gate g).loads.filter (fun l => l.boundaryUs ≤ s.boundaryUs k)).foldl (fun s l => switchBank g l s) s
  else s

/-- A committed change to the REBASE objects of gate g has applied: with REBASE.VALID at 1 a trusted gate that a jump has
unhitched may hitch again at a packet that comes after it (R98). A write that leaves the values as they were counts as a
change (log entry 99). -/
def rebaseApplied (g : Nat) (s : State) : State :=
  if s.rd (Obj.rebaseValid g) = 1 then
    updGate g (fun gt => if gt.tableSince then gt else { gt with tableSince := true, packetSince := false }) s
  else s

/-- Whether gate g still waits to switch to a change. -/
def State.loadsWait (s : State) (g : Nat) : Bool := !(s.gate g).loads.isEmpty

/-! ### Staging and ring (R104 to R107) -/

/-- A stall that takes no more events: it has failed in its yard (R194). -/
def State.stallFailed (s : State) (i : Nat) : Bool :=
  match s.leafJob i with
  | some j => (s.yard (s.jobYard j)).failed.contains i
  | none => false

/-- The lowest ring block of gate g that is free. Which free block a flush takes is the model's choice (log entry 99): the manual
does not say. -/
def Gate.freeBlock (gt : Gate) : Option Nat :=
  (List.range (gt.ringUsed.length + 1)).find? (fun b => b < 16384 && !gt.ringUsed.contains b)

/-- The lowest of the 64 blocks of gate g's staging area that is free. -/
def Gate.freePlace (gt : Gate) : Nat := ((List.range 64).find? (fun p => !gt.staging.any (fun b => b.place == p))).getD 0

/-- The block record (R105). -/
def BlockRec.word (r : BlockRec) : Nat :=
  r.block % 16384 * 2 ^ 50 + (r.count - 1) % 512 * 2 ^ 41 + boolNat r.late * 2 ^ 40 + r.gate % 64 * 2 ^ 34 + r.step % 2 ^ 32

/-- Append a record to the block queue of stall i, in the loft (R105, R377). -/
def queueBlock (i : Nat) (r : BlockRec) (s : State) : State :=
  s |> memWrite (queueAt i (s.stall i).queueNext) (leBytes 8 r.word)
    |> updStall i (fun st => { st with queue := st.queue ++ [r], queueNext := (st.queueNext + 1) % 16384 })

/-- Put a staging block into the ring and its record into the stall's queue, where both have room (R105, R107). -/
def flushBlock (g : Nat) (b : StageBlock) (s : State) : State :=
  if s.stallFailed b.stall then
    -- released unread (R194)
    s |> updGate g (fun gt => { gt with staging := gt.staging.filter (fun x => x != b) })
      |> addE 64 (Obj.stallFailedDiscards b.stall) 0 b.events.length
  else
    match (s.gate g).freeBlock with
    | none => updGate g (fun gt => { gt with staging := gt.staging.map (fun x => if x = b then { x with waiting := true } else x) }) s
    | some k =>
      if 16384 ≤ (s.stall b.stall).queue.length then
        updGate g (fun gt => { gt with staging := gt.staging.map (fun x => if x = b then { x with waiting := true } else x) }) s
      else
        let n := b.events.length
        s |> updGate g (fun gt => { gt with staging := gt.staging.filter (fun x => x != b), ringUsed := gt.ringUsed ++ [k] })
          |> memWrite (s.rd (Obj.gateRingBase g) + k * 4096) (b.events.flatMap (fun e => leBytes 8 e.toNat))
          |> queueBlock b.stall ⟨g, k, n, b.late, b.step⟩
          |> addE 64 (Obj.gateFiled g) 0 n |> addE 64 (Obj.gateLateFiled g) 0 (if b.late then n else 0)

/-- Flush the blocks of gate g that satisfy p, oldest first. -/
def flushWhere (g : Nat) (p : StageBlock → Bool) (s : State) : State :=
  ((s.gate g).staging.filter p).foldl (fun s b => flushBlock g b s) s

/-- Blocks that wait in staging go on once the ring and the stalls' queues have room (R107). -/
def retryStaging (s : State) : State :=
  s.gates.foldl (fun s g => if g.2.staging.any (·.waiting) then flushWhere g.1 (·.waiting) s else s) s

/-- Make a staging block of gate g free: its open blocks are flushed, the oldest first, until one has left staging; one that
must wait stays there, and the next is tried (R107). -/
def makeRoom (g : Nat) (s : State) : State :=
  ((s.gate g).staging.filter (fun b => !b.waiting)).foldl (fun s b =>
    if (s.gate g).staging.length < 64 then s else flushBlock g b s) s

/-- File one copy of an event for a stall (R104, R107). -/
def fileCopy (g stall k : Nat) (late : Bool) (ev : DWord) (s : State) : State :=
  let mine := fun (b : StageBlock) => b.stall == stall && b.step == k && b.late == late && !b.waiting && b.events.length < 512
  match (s.gate g).staging.find? mine with
  | some b =>
    let s := s |> memWrite (stagingAt g b.place + b.events.length * 8) (leBytes 8 ev.toNat)
      |> updGate g (fun gt => { gt with staging := gt.staging.map (fun x => if x = b then { x with events := x.events ++ [ev] } else x) })
    if b.events.length + 1 = 512 then flushWhere g (fun x => x.stall == stall && x.step == k && x.late == late && x.events.length == 512) s
    else s
  | none =>
    let s := makeRoom g s
    if (s.gate g).staging.length < 64 then
      let p := (s.gate g).freePlace
      s |> memWrite (stagingAt g p) (leBytes 8 ev.toNat)
        |> updGate g (fun gt => { gt with staging := gt.staging ++ [⟨stall, k, late, [ev], s.now, false, p⟩] })
    else s |> incE 64 (Obj.gateDrops g) 10 |> detect (gateBlock g) Src.gateRingFull

/-! ### The watermark (R17 to R20, R27, R101, R106) -/

/-- Bin number of a rebased time in µs; none before T0. -/
def State.binOf (s : State) (us : Int) : Option Nat :=
  if us < (s.t0Us : Int) then none else some ((us - (s.t0Us : Int)).toNat / max 1 (s.rd Obj.gateRateBin))

/-- The settings of chain c: those in force, or after a stop those that it ran with (R26, R158). -/
def State.chainSet (s : State) (c : Nat) : Store := ((s.chain c).cfg).getD s.dict
def State.chainN (s : State) (c addr : Nat) : Nat := cfgN (s.chainSet c) addr
/-- Whether chain c takes a sample with t_in = t, in 2⁻¹ µs: in SETTLING or RUNNING, or stopped at a later boundary (R158). -/
def State.chainTakes (s : State) (c : Nat) (t : Int) : Bool :=
  s.rd (Obj.chainState c) == 1 || s.rd (Obj.chainState c) == 2
    || (match (s.chain c).stopUs with | some u => decide (t < 2 * (u : Int)) | none => false)
/-- The chains that read rate tap i of gate g and take its sample at t (R147). -/
def State.tapChains (s : State) (g i : Nat) (t : Int) : List Nat :=
  (List.range 16).filter (fun c => s.chainTakes c t && s.chainN c (Obj.chainSource c) == 0
      && s.chainN c (Obj.chainSourceGate c) == g && s.chainN c (Obj.chainSourceTap c) == i)

/-- A sample of rate tap i is complete: it goes to each chain that reads the tap (R101, R148). -/
def pushSample (g i bin n : Nat) (s : State) : State :=
  let b := s.rd Obj.gateRateBin
  let t : Int := 2 * ((s.t0Us : Int) + ((bin * b : Nat) : Int)) + (b : Int)
  (s.tapChains g i t).foldl (fun s c => updChain c (fun ch => { ch with inbox := ch.inbox ++ [(t, some (n : Int))] }) s) s

/-- Whether the tile set of tap i is empty. -/
def Gate.tapEmpty (gt : Gate) (g i : Nat) : Bool := (List.range 32).all (fun w => gt.tab (Obj.rateTiles g) (i * 32 + w) == 0)

/-- Complete the bins of every tap that end at or before the watermark. -/
def completeBins (g : Nat) (wm : Int) (s : State) : State :=
  match s.binOf wm with
  | none => s
  | some cur =>
    (List.range 4).foldl (fun s i =>
      let gt := s.gate g
      if gt.tapEmpty g i then updGate g (fun gt => { gt with taps := setAt gt.taps i none }) s
      else
        match gt.taps.getD i none with
        | none => updGate g (fun gt => { gt with taps := setAt gt.taps i (some (cur, 0)) }) s
        | some (bin, n) =>
          if cur ≤ bin then s
          else
            let s := pushSample g i bin n s
            -- a bin without events holds 0; a gate that falls silent drops its open bins (R149)
            let s := (List.range (cur - bin - 1)).foldl (fun s d => pushSample g i (bin + 1 + d) 0 s) s
            updGate g (fun gt => { gt with taps := setAt gt.taps i (some (cur, 0)) }) s) s

/-- The watermark takes a rebased time (µs): it never falls; blocks of the steps it has passed are flushed (R106) and rate
bins end (R101). -/
def raiseWatermark (g : Nat) (us : Int) (s : State) : State :=
  let old := s.rd (Obj.gateWatermark g)
  let new := max old us.toNat
  let s := wr (Obj.gateWatermark g) (new % 2 ^ 64) s
  let s := match s.stepOfUs (new : Int) with
    | some k => flushWhere g (fun b => b.step < k && !b.waiting) s
    | none => s
  completeBins g (new : Int) s

/-- Rebase the sensor time of a word, switching banks where the watermark reaches an apply boundary; the word that reaches
it is treated under the new bank (R27, R108). -/
def rebaseWord (g : Nat) (t : Int) (s : State) : Option Int × State :=
  match (s.gate g).rebase g t with
  | none => (none, s)
  | some r =>
    let wm := max (s.rd (Obj.gateWatermark g) : Int) (usOf r)
    let s' := switchUpTo g wm s
    match (s'.gate g).rebase g t with
    | none => (none, s')
    | some r' => (some r', raiseWatermark g (usOf r') s')

/-- Whether gate g holds step k open (R19). R19 asks that it be bound to a running job; that the run must hold the step itself,
from JOB.EPOCH_STEP to the JOB.STOP_STEP of a STOPPING job, is the model's choice (log entry 99). -/
def State.holdsOpen (s : State) (g k : Nat) : Bool :=
  (s.gate g).enabled && s.gateState g == 3 && !s.silent g
    && s.activeSlots.any (fun j => bit (s.gateMask j) g && s.inRun j k)

/-- Whether gate g lets the ingress of step k close: it does not hold the step open, or its watermark has passed B_{k+1} and
the blocks of the step are written (R20, R106). A gate holds steps open from the step it hitched at. -/
def State.gatePast (s : State) (g k : Nat) : Bool :=
  !s.holdsOpen g k || (s.boundaryUs (k + 1) : Int) ≤ (s.gate g).hitchFrom
    || (s.boundaryUs (k + 1) ≤ s.rd (Obj.gateWatermark g) && (s.gate g).staging.all (fun b => k < b.step))

/-! ### Events through the pipeline (R89) -/

def drop (g e : Nat) (s : State) : State := incE 64 (Obj.gateDrops g) e s

/-- Whether a sample that falls due is one more than the two that the groom takes in an ACLK cycle (R120). The cycle in which an
event passes stage 5 is not known here: where two other gates have been sampled at the same instant, it is left open. -/
def State.sampleCrowded (s : State) (g : Nat) : Bool :=
  s.groom.sampled.1 == s.now && 2 ≤ (s.groom.sampled.2.filter (· != g)).length
/-- A sample falls due: it is taken, or skipped and counted (R120). -/
def takeOrSkip (g : Nat) (s : State) : Bool × State :=
  if s.sampleCrowded g && bit s.free 0 then
    (false, drawn s |> inc 64 Obj.groomSamplesSkipped |> detect groomBlock Src.groomSampleSkipped)
  else
    let s := if s.sampleCrowded g then drawn s else s
    let gs := if s.groom.sampled.1 = s.now then s.groom.sampled.2 else []
    (true, inc 64 Obj.groomSamples { s with groom := { s.groom with sampled := (s.now, if gs.contains g then gs else g :: gs) } })
/-- Whether the groom takes the event that reaches stage 5: every 2^SAMPLE_SHIFT-th falls due (R119). -/
def countSample (g : Nat) (s : State) : Bool × State :=
  let n := (s.gate g).sampleCount + 1
  let s := updGate g (fun gt => { gt with sampleCount := n }) s
  if n % 2 ^ s.rd Obj.groomSampleShift = 0 ∧ s.isOn 10 then takeOrSkip g s else (false, s)
/-- The groom's sample at stage 5 (R119). -/
def sampleEvent (g x y : Nat) (pos : Bool) (us : Int) (s : State) : Bool × State :=
  let (take, s) := countSample g s
  if take then (true, { s with groom := { s.groom with samples := (g, y * 2048 + x, pos, us) :: s.groom.samples } }) else (false, s)

/-- Write a raw record into the quarantine area in GDDR6, which keeps the newest 131,072 (R97, R376). -/
def quarantine (g : Nat) (t : Int) (x y : Nat) (pos : Bool) (s : State) : State :=
  let s := memWrite (quarantineAt g (s.gate g).quarNext) (leBytes 8 (Config.quarantineRecord t x y pos).toNat) s
  let s := if s.gddrOn then updGate g (fun gt => { gt with
        quarantine := (⟨t, x, y, pos⟩ :: gt.quarantine).take 131072, quarNext := (gt.quarNext + 1) % 131072 }) s else s
  drop g 2 s

/-- Whether gate g passes an event at ⌊t⌋ through stage 6: HITCHED, or a pending hitch, and in marker mode from B_j on (R95,
R96, R98). -/
def State.passesHitch (s : State) (g : Nat) (us : Int) : Bool :=
  (s.gateState g == 3 || (s.gate g).hitchAt.isSome)
    && (s.rd (Obj.gateHitchMode g) == 1 || (s.gate g).hitchFrom ≤ us)

/-- Whether the ingress of step k is open to its own events; a step that has not opened yet is. -/
def State.ingressOpen (s : State) (k : Nat) : Bool :=
  s.time.nextBoundary ≤ k || (match s.step? k with | some r => r.phase.ingressOpen | none => false)
/-- The oldest step whose ingress is still open (R23). -/
def State.carryStep (s : State) : Nat := ((s.steps.find? (fun r => r.phase.ingressOpen)).map (·.k)).getD s.openStep

/-- The job of gate g whose run holds step k; a job that starts at a later boundary holds its steps too (R184). -/
def State.boundJob (s : State) (g k : Nat) : Option Nat :=
  (List.range 64).find? (fun j => bit (s.gateMask j) g
    && (s.inRun j k || (s.rd (Obj.jobState j) == 4 && (s.slot j).startAt ≤ k)))

/-- First step of job j's run. -/
def State.epochOf (s : State) (j : Nat) : Nat :=
  if s.rd (Obj.jobState j) = 4 then (s.slot j).startAt else s.rd (Obj.jobEpochStep j)

/-- The hot-pixel mask in force discards (x, y) (R99). -/
def Gate.hot (gt : Gate) (g x y : Nat) : Bool :=
  let m := (dget gt.bank (Obj.hotMask g) 0).toBytes
  bit ((m.getD (y * 256 + x / 8) 0).toNat) (x % 8)

/-- The refractory filter (R100): whether it passes the event, and the table after it. -/
def Gate.refract (gt : Gate) (g x y : Nat) (us : Int) : Bool × Gate :=
  let ρ := gt.tab (Obj.gateRefractory g) 0
  if ρ = 0 then (true, gt)
  else
    let n := y % 128 * 128 + x % 128
    let t := (us % 65536).toNat
    let dropped := match sfind gt.refractory n with
      | some (ex, ey, et) => ex == x && ey == y && (t + 65536 - et) % 65536 < ρ
      | none => false
    if dropped then (false, gt) else (true, { gt with refractory := sput n (x, y, t) gt.refractory })

/-- The tile of (x, y) (R101). -/
def tileOf (x y : Nat) : Nat := y / 64 * 32 + x / 64
def Gate.tileSet (gt : Gate) (addr i tile : Nat) : Bool := bit (gt.tab addr (i * 32 + tile / 32)) (tile % 32)

/-- Count an event into the rate taps that select its tile, saturating at 65,535 (R101). -/
def countTaps (g x y : Nat) (us : Int) (s : State) : State :=
  (List.range 4).foldl (fun s i =>
    if (s.gate g).tileSet (Obj.rateTiles g) i (tileOf x y) then
      updGate g (fun gt => { gt with taps := match gt.taps.getD i none, s.binOf us with
        | some (bin, n), some b => if b = bin then setAt gt.taps i (some (bin, min 65535 (n + 1))) else gt.taps
        | _, _ => gt.taps }) s
    else s) s

/-- Whether flicker window w discards an event at rebased time t (R102). -/
def Gate.flickers (gt : Gate) (g w x y : Nat) (t : Int) : Bool :=
  let π := gt.tab (Obj.flickerPeriod g) w
  if π = 0 then false
  else
    let u := (t / 256 - ((gt.tab (Obj.flickerOrigin g) w * 256 : Nat) : Int)) % (π : Int)
    gt.tileSet (Obj.flickerTiles g) w (tileOf x y)
      && (u - (gt.tab (Obj.flickerStart g) w : Int)) % (π : Int) < (gt.tab (Obj.flickerWidth g) w : Int)

/-- The canonical event (R93). -/
def canonicalEvent (g x y : Nat) (pos vec sampled late : Bool) (field : Nat) : DWord :=
  BitVec.ofNat 64 (g * 2 ^ 58 + boolNat pos * 2 ^ 57 + x * 2 ^ 46 + y * 2 ^ 35 + boolNat vec * 2 ^ 34
    + boolNat sampled * 2 ^ 33 + boolNat late * 2 ^ 32 + field % 2 ^ 32)

/-- Stages 7 to 15 of an event of a hitched gate (R89). -/
def fileEvent (g x y : Nat) (pos vec sampled : Bool) (t : Int) (s : State) : State :=
  let us := usOf t
  match s.stepOfUs us with
  | none => drop g 4 s
  | some k =>
    let late := !s.ingressOpen k
    let ck := if late then s.carryStep else k
    match s.boundJob g k with
    | none => drop g 3 s
    | some j =>
      if late && (s.boundJob g ck) != some j then drop g 3 s
      else if t * 1000 * 65536 > ((s.now + s.periodUs * 1000 * nsUnit : Nat) : Int) then drop g 5 s
      else if (s.gate g).hot g x y then drop g 6 s
      else
        let (pass, gt) := (s.gate g).refract g x y us
        if !pass then drop g 7 s
        else
          let s := updGate g (fun _ => gt) s
          let s := countTaps g x y us s
          if (List.range 4).any (fun w => (s.gate g).flickers g w x y t) then drop g 8 s
          else
            let stalls := bitsOf 32 ((s.gate g).tab (Obj.regionMap g) y)
            if stalls.isEmpty then drop g 9 s
            else
              let ev := canonicalEvent g x y pos vec sampled late
                ((us - (s.boundaryUs (s.epochOf j) : Int)) % (2 ^ 32 : Nat)).toNat
              stalls.foldl (fun s i => fileCopy g i ck late ev s) s

/-- Stages 4 to 15 of one decoded event at sensor time `sensor` µs. -/
def pipeEvent (g x y : Nat) (pos vec : Bool) (sensor : Int) (s : State) : State :=
  if s.rd (Obj.gateWidth g) ≤ x ∨ s.rd (Obj.gateHeight g) ≤ y then drop g 1 s
  else
    match rebaseWord g sensor s with
    | (none, s) =>
      -- it counts in stream order (R119), and has no rebased time for the groom
      let (_, s) := countSample g s
      s |> timeJump g |> quarantine g sensor x y pos
    | (some t, s) =>
      let (sampled, s) := sampleEvent g x y pos (usOf t) s
      if s.passesHitch g (usOf t) then fileEvent g x y pos vec sampled t s
      else quarantine g sensor x y pos s

/-! ### FIFO -/

/-- Type field of a TEP word. -/
def tepType (w : Word) : Nat := w.toNat / 2 ^ 28
def tepLow (w : Word) : Nat := field w.toNat 27 22
def tepX (w : Word) : Nat := field w.toNat 21 11
def tepY (w : Word) : Nat := field w.toNat 10 0
/-- Sensor time of an EV, VEC or MARKER word (R85). -/
def Gate.sensorTime (gt : Gate) (w : Word) : Int := gt.th * 64 + (tepLow w : Int)

/-- Take the word at the head of the FIFO of gate g where its type is one of `types`. -/
def popWord (g : Nat) (types : List Nat) (s : State) : Option (FifoWord × State) :=
  match (s.gate g).fifo with
  | [] => none
  | w :: rest =>
    if types.contains (tepType w.word) then some (w, updGate g (fun gt => { gt with fifo := rest, span := gt.span && !w.brk }) s) else none

/-- The gate loses its span after the words that its FIFO holds (R88). -/
def loseSpan (g : Nat) (s : State) : State :=
  updGate g (fun gt => if gt.fifo.isEmpty then { gt with span := false } else { gt with brk := true }) s

/-- Words of one packet enter the FIFO, which holds 1,024; a word that finds it full is lost with the rest of its packet
(R90). -/
def pushWords (g : Nat) (ws : List Word) (s : State) : State :=
  let gt := s.gate g
  let kept := ws.take (1024 - gt.fifo.length)
  let n := kept.length
  let fw := ((List.range n).zip kept).map (fun (p : Nat × Word) => (⟨p.2, p.1 + 1 == n, p.1 == 0 && gt.brk⟩ : FifoWord))
  let s := updGate g (fun gt => { gt with fifo := gt.fifo ++ fw, brk := gt.brk && n == 0 }) s
  if n < ws.length then
    s |> addE 32 (Obj.gateWordCounts g) 0 (ws.length - n) |> detect (gateBlock g) Src.gateFifoOverflow |> loseSpan g
  else s

/-! ### Start, stop and reset (R98, R117) -/

/-- STOPPED to LINK_WAIT: FIFO, refractory table and TH cleared, no valid span. -/
def startGate (g : Nat) (s : State) : State :=
  s |> updGate g (fun gt => { gt with
        fifo := [], brk := false, refractory := [], th := 0, thSet := false, span := false, packetSince := false, offsets := [],
        hitchAt := none, lastWordAt := s.now, taps := [none, none, none, none] })
    |> wr (Obj.gateState g) 1 |> loseCover g

/-- Any running state to STOPPED: the words in the FIFO are discarded and counted, open staging blocks are flushed. -/
def stopGate (g : Nat) (s : State) : State :=
  let n := (s.gate g).fifo.length
  s |> addE 32 (Obj.gateWordCounts g) 0 n
    |> updGate g (fun gt => { gt with
        fifo := [], brk := false, span := false, hitchAt := none, offsets := [], taps := [none, none, none, none] })
    |> wr (Obj.gateState g) 0 |> loseCover g
    |> putBit Obj.stepSilentGates g false
    |> flushWhere g (fun b => !b.waiting)

/-- The RO counters and status objects of gate g at their defaults (R44). -/
def clearGateStatus (g : Nat) (s : State) : State :=
  s |> wr (Obj.gateWatermark g) 0 |> wr (Obj.gateResidual g) 0 |> wr (Obj.gateCountOffset g) 0 |> wr (Obj.gateFiled g) 0
    |> wr (Obj.gateLateFiled g) 0 |> clearObj (Obj.gateDrops g) 11 |> clearObj (Obj.gateWordCounts g) 14

/-- Events that the words of a FIFO carry (R87, R88). -/
def fifoEvents : List FifoWord → Nat
  | [] => 0
  | [w] => if tepType w.word ≤ 1 then 1 else 0
  | w :: m :: rest =>
    if tepType w.word ≤ 1 then 1 + fifoEvents (m :: rest)
    else if tepType w.word ≤ 3 && !w.last then (bitsOf 32 m.word.toNat).length + fifoEvents rest
    else fifoEvents (m :: rest)

/-- BLOCK_RESET of gate g (R117): the events in its FIFO and staging count in RING_DROPPED. -/
def resetGate (g : Nat) (s : State) : State :=
  let gt := s.gate g
  let lost := fifoEvents gt.fifo + sumNat (gt.staging.map (fun b => b.events.length))
  let s := s |> clearGateStatus g |> addE 64 (Obj.gateDrops g) 10 lost
    |> updGate g (fun gt => { gt with staging := [], sampleCount := 0, taps := [none, none, none, none] })
    |> putBit Obj.stepSilentGates g false
  if s.gateState g = 0 then s else startGate g s

/-- A gate's domain leaves ON (the table of gate states): STOPPED. The words in its FIFO are lost and counted (R25), and its open
staging blocks, which the loft holds, are flushed. -/
def gateDark (g : Nat) (s : State) : State := if s.gateState g = 0 then s else stopGate g s

end Sys2Proof.Machine
end

