-- ==== Sys2Proof/Machine/GateWords.lean ====
section
/-!
DEFINITION. What reaches a gate and what it decodes: packets (R79 to R81, R84), each TEP word (R85 to R88, R94, R96),
and the timeouts of a gate (R19, R104, R108, R109).
-/
namespace Sys2Proof.Machine

/-- Move on to an instant that a time-driven command waits for; none where a boundary that is not yet signalled comes
first (log entry 12). -/
def State.dueAt (s : State) (t : Nat) : Option State :=
  if t ≤ s.now then some s
  else if t ≤ s.boundary s.time.nextBoundary then some { s with now := t }
  else none

/-! ### Packets -/

def State.ganged (s : State) (g : Nat) : Bool := bit (s.rd Obj.gateGang) (g / 2)
def State.vcBit (s : State) (g vc : Nat) : Bool := bit (s.rd (Obj.gateVcMask g)) vc

/-- The pipeline that a packet on the port of gate g belongs to (R80, R81). -/
def State.packetGate (s : State) (g : Nat) (p : Packet) : Nat :=
  if s.ganged g && p.extVc == 0 && !s.vcBit g p.vc && s.vcBit (g + 1) p.vc then g + 1 else g

def countWord (g e n : Nat) (s : State) : State := addE 32 (Obj.gateWordCounts g) e n s

/-- The 32-bit words of a payload (R7), and the bytes left over. -/
def payloadWords (b : List Byte) : List Word :=
  (List.range (b.length / 4)).map (fun i => BitVec.ofNat 32 (leAt b (4 * i) 4))

/-- Any word that the link delivers ends silence (R19). -/
def wordArrives (g : Nat) (s : State) : State :=
  s |> updGate g (fun gt => { gt with lastWordAt := s.now }) |> putBit Obj.stepSilentGates g false

/-- A packet for pipeline g whose header is good: the checks of stage 2, then the FIFO. -/
def takePacket (g : Nat) (p : Packet) (s : State) : State :=
  let s := if p.header = .corrected then countWord g 1 1 s else s
  if p.extVc ≠ 0 ∨ p.vc > 3 ∨ !s.vcBit g p.vc then s |> countWord g 5 1 |> loseSpan g
  else if p.short then s
  else if !p.crcOk then
    -- the link has delivered its words, which R19 asks for; R116 discards them
    let s := if p.payload.length < 4 then s else wordArrives g s
    s |> countWord g 3 1 |> detect (gateBlock g) Src.gatePayloadCrc |> loseSpan g
  else if p.dataType < 0x30 ∨ 0x37 < p.dataType then s |> countWord g 4 1 |> loseSpan g
  else
    let ws := payloadWords p.payload
    let s := countWord g 6 (p.payload.length % 4) s
    let s := if ws.isEmpty then s else wordArrives g s
    let s := updGate g (fun gt => { gt with packetSince := true }) s
    let s := if s.gateState g = 1 then s |> wr (Obj.gateState g) 2 |> checkCoverage g else s
    pushWords g ws s

/-- CSI2_PACKET: a packet on the link of gate g. A port takes nothing in while its pipeline is STOPPED, and the second
gate of a ganged pair has no receiver of its own (R81, R98). -/
def csi2Packet (g : Nat) (p : Packet) (s : State) : State :=
  if 36 ≤ g ∨ (g % 2 = 1 ∧ s.ganged g) then s
  else if p.header = .uncorrectable then
    if s.gateState g = 0 then s
    else s |> countWord g 2 1 |> detect (gateBlock g) Src.gateHeaderEcc |> loseSpan g
  else
    let t := s.packetGate g p
    if s.gateState t = 0 then s else takePacket t p s

/-- DESKEW_SEQUENCE: lanes that do not align set DESKEW_FAIL (R79). -/
def deskewSequence (g : Nat) (aligned : Bool) (s : State) : State :=
  detectIf (g < 36 && !aligned && s.gateState g != 0) (gateBlock g) Src.gateDeskewFail s

/-! ### Words -/

/-- EV_NEG, EV_POS. -/
def evWord (g : Nat) (pos : Bool) (s : State) : State :=
  match popWord g [boolNat pos] s with
  | none => s
  | some (w, s) =>
    if (s.gate g).span then
      let t := (s.gate g).sensorTime w.word
      -- the watermark takes every word that is decoded, an event beyond the array too
      (rebaseWord g t s).2 |> pipeEvent g (tepX w.word) (tepY w.word) pos false t
    else drop g 0 s

/-- VEC_NEG, VEC_POS, with the mask word that follows (R87, R88). -/
def vecWord (g : Nat) (pos : Bool) (s : State) : State :=
  match popWord g [2 + boolNat pos] s with
  | none => s
  | some (w, s) =>
    if w.last then countWord g 8 1 s
    else
      match (s.gate g).fifo with
      | [] => s
      | m :: rest =>
        let s := updGate g (fun gt => { gt with fifo := rest }) s
        let bits := bitsOf 32 m.word.toNat
        if (s.gate g).span then
          let t := (s.gate g).sensorTime w.word
          let s := (rebaseWord g t s).2
          bits.foldl (fun s i => pipeEvent g (tepX w.word + i) (tepY w.word) pos true t s) s
        else addE 64 (Obj.gateDrops g) 0 bits.length s

/-- The signed 28-bit difference of a TIME_HIGH from the span count kept (R85). -/
def spanDelta (v : Nat) (th : Int) : Int := toSigned 28 (ofSigned 28 ((v : Int) - th))

/-- The span count takes the value of a TIME_HIGH (R85, R86). -/
def takeSpan (g v : Nat) (s : State) : State :=
  let gt := s.gate g
  if !gt.thSet then updGate g (fun gt => { gt with th := (v : Int), thSet := true, span := true }) s
  else
    let δ := spanDelta v gt.th
    if δ.natAbs > s.rd (Obj.gateJumpLimit g) then
      s |> updGate g (fun gt => { gt with th := (v : Int), span := true }) |> timeJump g
    else
      let s := updGate g (fun gt => { gt with th := gt.th + δ, span := true }) s
      if δ < 0 then countWord g 9 1 s else s

/-- TIME_HIGH: the span, then the watermark. -/
def timeHighWord (g : Nat) (s : State) : State :=
  match popWord g [8] s with
  | none => s
  | some (w, s) =>
    let s := takeSpan g (field w.word.toNat 27 0) s
    (rebaseWord g ((s.gate g).th * 64) s).2

/-- The edges of the group of gate g that are kept: index since power-up and device time in ns (R94, R419). -/
def State.edgesOf (s : State) (grp : Nat) : List (Nat × Nat) :=
  let n := s.rdE Obj.gsyncEdges grp
  (List.range (min n 256)).map (fun i => (n - 1 - i, s.rdE Obj.gsyncEdgeTime (grp * 256 + (n - 1 - i) % 256)))

/-- The edge that a marker pairs with (R94): by count while HITCHED, else the nearest in time. -/
def State.pairEdge (s : State) (g count : Nat) (tNs : Int) : Option (Nat × Nat) :=
  let es := s.edgesOf (g / 6)
  if s.gateState g = 3 then es.find? (fun e => e.1 % 256 == (count + s.rd (Obj.gateCountOffset g)) % 256)
  else minBy (fun e => ((tNs - (e.2 : Int)).natAbs : Int)) es

/-- The groom keeps a marker within TIME.OUTLIER (R121, R131). -/
def groomMarker (g : Nat) (m : GroomMarker) (s : State) : State :=
  if s.isOn 10 then { s with groom := { s.groom with markers := supd [] g (fun l => m :: l) s.groom.markers } } else s

def State.trusted (s : State) (g : Nat) : Bool := s.rd (Obj.gateHitchMode g) == 1

/-- A third consistent marker sets a pending hitch for the first boundary after its time (R96). -/
def pendHitch (g off : Nat) (t : Int) (s : State) : State :=
  let j := match s.stepOfUs (usOf t) with | some k => k + 1 | none => 0
  let s := s |> wr (Obj.gateCountOffset g) off
    |> updGate g (fun gt => { gt with offsets := [], hitchFrom := (s.boundaryUs j : Int), hitchAt := some j })
  if j < s.time.nextBoundary then
    s |> wr (Obj.gateState g) 3 |> updGate g (fun gt => { gt with hitchAt := none })
  else s

/-- A marker of an UNHITCHED gate in marker mode: edge count, marker count, rebased time, residual in ns (R96). -/
def relock (g edge count : Nat) (t r : Int) (s : State) : State :=
  if r.natAbs ≤ s.rd (Obj.gateRelockWindow g) * 1000 && (s.gate g).tab (Obj.rebaseValid g) 0 == 1 then
    let off := (edge + 256 - count) % 256
    let run := if (s.gate g).offsets.head? == some off then off :: (s.gate g).offsets else [off]
    if run.length < 3 then updGate g (fun gt => { gt with offsets := run }) s else pendHitch g off t s
  else updGate g (fun gt => { gt with offsets := [] }) s

/-- A paired marker: the residual, the groom's copy, then unhitching or the way to a re-lock (R94 to R96). -/
def pairedMarker (g edge bNs count : Nat) (sensor t : Int) (s : State) : State :=
  let r := t * 1000 / 65536 - (bNs : Int)
  let s := wr (Obj.gateResidual g) (ofSigned 32 (satInt 32 r)) s
  let s := if r.natAbs ≤ s.rd Obj.timeOutlier then groomMarker g ⟨sensor, bNs, (usOf t / 1000000).toNat⟩ s else s
  if s.gateState g = 3 then
    if s.trusted g || r.natAbs < s.periodUs * 1000 then s else unhitch g false s
  else if s.trusted g || (s.gate g).hitchAt.isSome then s
  else relock g edge count t r s

/-- A MARKER with a valid span. -/
def timedMarker (g count : Nat) (sensor : Int) (s : State) : State :=
  match rebaseWord g sensor s with
  | (none, s) => timeJump g s
  | (some t, s) =>
    match s.pairEdge g count (t * 1000 / 65536) with
    | none => updGate g (fun gt => { gt with offsets := [] }) s
    | some (edge, bNs) => pairedMarker g edge bNs count sensor t s

/-- MARKER (R88, R94). -/
def markerWord (g : Nat) (s : State) : State :=
  match popWord g [0xA] s with
  | none => s
  | some (w, s) =>
    if (s.gate g).span then timedMarker g (field w.word.toNat 7 0) ((s.gate g).sensorTime w.word) s
    else countWord g 12 1 s

/-- PAD, STATUS (R88, R121) and words of reserved types. -/
def padWord (g : Nat) (s : State) : State :=
  match popWord g [0xE] s with
  | none => s
  | some (_, s) => s
def statusWordIn (g : Nat) (s : State) : State :=
  match popWord g [0xF] s with
  | none => s
  | some (w, s) =>
    let s := countWord g 13 1 s
    if s.isOn 10 then wrE Obj.groomSensorStatus g w.word.toNat s else s
def reservedWord (g : Nat) (s : State) : State :=
  match popWord g [4, 5, 6, 7, 9, 0xB, 0xC, 0xD] s with
  | none => s
  | some (_, s) => countWord g 7 1 s

/-! ### Timeouts -/

/-- GATE_SILENT: no word for 2·P (R19). -/
def gateSilent (g : Nat) (s : State) : State :=
  if 36 ≤ g ∨ s.gateState g = 0 ∨ !(s.gate g).enabled ∨ s.silent g then s
  else
    match s.dueAt ((s.gate g).lastWordAt + 2 * s.periodUs * 1000 * nsUnit) with
    | none => s
    | some s =>
      s |> putBit Obj.stepSilentGates g true |> loseCover g |> updGate g (fun gt => { gt with taps := [none, none, none, none] })
        |> detect (gateBlock g) Src.gateSilent |> checkCoverage g

/-- STAGING_FLUSH_TIMEOUT: blocks are flushed 20 µs after their first event (R104). -/
def stagingFlush (g : Nat) (s : State) : State :=
  match minBy (fun b => (b.firstAt : Int)) ((s.gate g).staging.filter (fun b => !b.waiting)) with
  | none => s
  | some b =>
    match s.dueAt (b.firstAt + 20000 * nsUnit) with
    | none => s
    | some s => flushWhere g (fun x => !x.waiting && x.firstAt + 20000 * nsUnit ≤ s.now) s

/-- BLOCK_RELEASE: the gate can use a block again that its stall has consumed; waiting blocks move up (R105, R107). -/
def blockRelease (g block : Nat) (s : State) : State :=
  if (s.gate g).ringUsed.contains block
      && !(s.stalls.any (fun p => p.2.queue.any (fun b => b.gate == g && b.block == block))) then
    let s := updGate g (fun gt => { gt with ringUsed := gt.ringUsed.erase block }) s
    flushWhere g (fun b => b.waiting) s
  else s

/-- TABLE_LOAD_LATE_SWITCH: a load that completes after the watermark has reached its boundary switches at once (R108). -/
def tableLoadLate (g : Nat) (s : State) : State :=
  let s := updGate g (fun gt => { gt with loads := gt.loads.map (fun l => { l with complete := true }) }) s
  switchUpTo g (s.rd (Obj.gateWatermark g) : Int) s

/-- TABLE_SWITCH_LIMIT: every gate leaves the old bank by B_{j+SL} (R109). -/
def tableSwitchLimit (g : Nat) (s : State) : State :=
  match minBy (fun l => (l.limitUs : Int)) (s.gate g).loads with
  | none => s
  | some l =>
    match s.dueAt (l.limitUs * 1000 * nsUnit) with
    | none => s
    | some s =>
      ((s.gate g).loads.filter (fun l => l.limitUs * 1000 * nsUnit ≤ s.now)).foldl (fun s l => switchBank g l s) s

/-! ### The I²C masters (R110 to R113) -/

/-- The first script that waits starts, where the master is idle and powered. -/
def i2cNext (g : Nat) (s : State) : State :=
  match (s.i2cm g).running, (s.i2cm g).queue with
  | none, sc :: rest =>
    if s.isOn (4 + g) then
      s |> updI2c g (fun m => { m with running := some sc, rest := sc.bytes, result := [], queue := rest, since := s.now })
        |> wr (Obj.i2cState g) 1
    else s
  | _, _ => s

/-- Queue a script behind those that wait. -/
def i2cAppend (g : Nat) (kind : ScriptKind) (b : List Byte) (s : State) : State :=
  s |> updI2c g (fun m => { m with queue := m.queue ++ [⟨kind, b⟩] }) |> i2cNext g
/-- Queue a script that four queued scripts bar: a write of I2C.XFER_g, which is refused, or a bias script, which waits (R111,
R143). The running script does not count among the four (log entry 99). -/
def i2cQueue (g : Nat) (kind : ScriptKind) (b : List Byte) (s : State) : Nat × State :=
  if 4 ≤ (s.i2cm g).queue.length then (Ab.busy, s) else (Ab.ok, i2cAppend g kind b s)

/-- The script ends: RESULT_g and STATE_g, I2C_ERROR for a failure, then the next script. -/
def i2cFinish (g : Nat) (ok : Bool) (s : State) : State :=
  let bias := match (s.i2cm g).running with | some sc => (match sc.kind with | .bias _ => true | _ => false) | none => false
  let s := s |> wrB (Obj.i2cResult g) ((s.i2cm g).result.take 4096) |> wr (Obj.i2cState g) (if ok then 2 else 3)
    |> updI2c g (fun m => { m with running := none, rest := [], result := [] })
  let s := if ok then s else (List.range 6).foldl (fun s i => detect (gateBlock (6 * g + i)) Src.gateI2cError s) s
  let s := detectIf (bias && !ok) groomBlock Src.groomBiasScriptFail s
  i2cNext g s

/-- Add the status byte of a record and the bytes it read; a status other than 0 ends the script. -/
def i2cRecord (g status used : Nat) (bytes : List Byte) (s : State) : State :=
  let s := updI2c g (fun m => { m with
    result := m.result ++ BitVec.ofNat 8 status :: bytes, rest := m.rest.drop used, since := s.now }) s
  if status = 0 then s else i2cFinish g false s

/-- The record at the head of the running script: op, address, length field. -/
def State.i2cHead (s : State) (g : Nat) : Option (Nat × Nat × Nat) :=
  let r := (s.i2cm g).rest
  if (s.i2cm g).running.isSome && 4 ≤ r.length then some (leAt r 0 1, leAt r 1 1, leAt r 2 2) else none

def i2cStatus : I2cAnswer → Nat
  | .ok _ => 0
  | .addressNack => 1
  | .dataNack => 2
def i2cData (n : Nat) : I2cAnswer → List Byte
  | .ok d => padTo n d
  | _ => []

/-- One bus transfer of `op`: w bytes written, r bytes read. -/
def i2cTransfer (g op : Nat) (a : I2cAnswer) (counts : Nat → Nat × Nat) (good : Nat → Bool) (s : State) : State :=
  match s.i2cHead g with
  | none => s
  | some (o, addr, len) =>
    if o ≠ op then s
    else
      let (w, r) := counts len
      let rest := (s.i2cm g).rest
      if !good len || 0x80 ≤ addr || rest.length < 4 + w then i2cRecord g 4 rest.length [] s
      else
        s |> emit (.i2c g op addr (slice rest 4 w)) |> i2cRecord g (i2cStatus a) (4 + w) (i2cData r a)

/-- I2C_XFER: a write of I2C.XFER_g. -/
def i2cXfer (g : Nat) (b : List Byte) (s : State) : Nat × State := i2cQueue g .xfer b s
def i2cWrite (g : Nat) (a : I2cAnswer) (s : State) : State :=
  i2cTransfer g 1 a (fun n => (n, 0)) (fun n => 1 ≤ n && n ≤ 256) s
def i2cRead (g : Nat) (a : I2cAnswer) (s : State) : State :=
  i2cTransfer g 2 a (fun n => (0, n)) (fun n => 1 ≤ n && n ≤ 256) s
def i2cWriteRead (g : Nat) (a : I2cAnswer) (s : State) : State :=
  i2cTransfer g 3 a (fun n => (n % 256, n / 256)) (fun _ => true) s
/-- I2C_DELAY: the master waits in units of 10 µs. -/
def i2cDelay (g : Nat) (s : State) : State :=
  match s.i2cHead g with
  | some (4, _, n) =>
    match s.dueAt ((s.i2cm g).since + n * 10000 * nsUnit) with
    | none => s
    | some s => i2cRecord g 0 4 [] s
  | _ => s
/-- I2C_END: END, the end of the script's bytes, or a record that is no record. END leaves no status byte in RESULT_g: the manual
does not say whether END is a record that is run, and this is the model's choice (log entry 99). -/
def i2cEnd (g : Nat) (s : State) : State :=
  if (s.i2cm g).running.isNone then s
  else if (s.i2cm g).rest.isEmpty then i2cFinish g true s
  else
    match s.i2cHead g with
    | none => i2cRecord g 4 (s.i2cm g).rest.length [] s
    | some (op, _, _) =>
      if op = 5 then i2cFinish g true s
      else if 1 ≤ op ∧ op ≤ 4 then s
      else i2cRecord g 4 4 [] s
/-- I2C_TIMEOUT: a transfer exceeds I2C.TIMEOUT (R110, R113). -/
def i2cTimeout (g : Nat) (s : State) : State :=
  match s.i2cHead g with
  | some (op, _, _) =>
    if 1 ≤ op ∧ op ≤ 3 then
      match s.dueAt ((s.i2cm g).since + s.rd Obj.i2cTimeout * 1000000 * nsUnit) with
      | none => s
      | some s => i2cRecord g 3 4 [] s
    else s
  | none => s

end Sys2Proof.Machine
end

