-- ==== Sys2Proof/Machine/LayerOps.lean ====
section
/-!
DEFINITION. The job image (R173 to R178): fields of layer descriptors (R217, R241), kernels (R215, R216), weight tiles
(R250 to R252), and the checks that a load makes, each with its reason and qualifier (R182).
-/
namespace Sys2Proof.Machine

/-! ### Layer descriptors -/

abbrev lyType (l : List Byte) : Nat := leAt l 0 1
abbrev lyFlags (l : List Byte) : Nat := leAt l 1 1
abbrev lyWinnow (l : List Byte) : Nat := leAt l 2 1
abbrev lySource (l : List Byte) : Nat := leAt l 4 2
abbrev lyOut (l : List Byte) : Nat := leAt l 8 2
abbrev lyW (l : List Byte) : Nat := leAt l 12 2
abbrev lyH (l : List Byte) : Nat := leAt l 14 2
abbrev lyMargin (l : List Byte) : Nat := leAt l 32 2
def lyMode (l : List Byte) : Nat := lyWinnow l % 4
def lyFused (l : List Byte) : Nat := lyWinnow l / 4 % 4

abbrev spKernel (l : List Byte) : Nat := leAt l 6 2
abbrev spIn (l : List Byte) : Nat := leAt l 10 1
abbrev spStride (l : List Byte) : Nat := leAt l 11 1
abbrev spShift (l : List Byte) : Nat := leAt l 16 1
abbrev spTau (l : List Byte) : Nat := leAt l 17 1
abbrev spWeightShift (l : List Byte) : Nat := leAt l 18 1
abbrev spMapValue (l : List Byte) : Nat := leAt l 19 1
def spTheta (l : List Byte) : Int := toSigned 16 (leAt l 20 2)
def spFloor (l : List Byte) : Int := toSigned 16 (leAt l 22 2)
abbrev spCapacity (l : List Byte) : Nat := leAt l 24 4
abbrev spSteps (l : List Byte) : Nat := leAt l 28 2
abbrev spRowCap (l : List Byte) : Nat := leAt l 30 2

abbrev dnAct (l : List Byte) : Nat := leAt l 3 1
abbrev dnSecond (l : List Byte) : Nat := leAt l 6 2
abbrev dnIn (l : List Byte) : Nat := leAt l 10 2
abbrev dnKw (l : List Byte) : Nat := leAt l 16 1
abbrev dnKh (l : List Byte) : Nat := leAt l 17 1
abbrev dnSx (l : List Byte) : Nat := leAt l 18 1
abbrev dnSy (l : List Byte) : Nat := leAt l 19 1
abbrev dnDx (l : List Byte) : Nat := leAt l 20 1
abbrev dnDy (l : List Byte) : Nat := leAt l 21 1
abbrev dnGroups (l : List Byte) : Nat := leAt l 22 2
abbrev dnWeights (l : List Byte) : Nat := leAt l 24 4
abbrev dnRequant (l : List Byte) : Nat := leAt l 28 4
abbrev dnCap (l : List Byte) : Nat := leAt l 34 1
abbrev dnSteps (l : List Byte) : Nat := leAt l 48 2
abbrev shFormat (l : List Byte) : Nat := leAt l 36 1
abbrev shBins (l : List Byte) : Nat := leAt l 37 1
abbrev shDown (l : List Byte) : Nat := leAt l 38 1
abbrev shQuantum (l : List Byte) : Nat := leAt l 40 4
abbrev adMulA (l : List Byte) : Nat := leAt l 36 2
abbrev adMulB (l : List Byte) : Nat := leAt l 38 2
abbrev adShift (l : List Byte) : Nat := leAt l 40 1
abbrev crBoxes (l : List Byte) : Nat := leAt l 36 2
abbrev crW (l : List Byte) : Nat := leAt l 38 1
abbrev crH (l : List Byte) : Nat := leAt l 39 1
def crOutside (l : List Byte) : Int := toSigned 8 (leAt l 40 1)
abbrev crCapacity (l : List Byte) : Nat := leAt l 42 2
abbrev deK (l : List Byte) : Nat := leAt l 36 2
def deThreshold (l : List Byte) : Int := toSigned 8 (leAt l 38 1)
abbrev deShift (l : List Byte) : Nat := leAt l 39 1
abbrev deScale (l : List Byte) : Nat := leAt l 40 2
def dePaddock (l : List Byte) : Bool := bit (leAt l 42 1) 0

/-- Layer types. -/
abbrev tySpikeEvent : Nat := 1
abbrev tySpikeConv : Nat := 2
abbrev tySheaf : Nat := 0x10
abbrev tyConv : Nat := 0x20
abbrev tyPoolMax : Nat := 0x30
abbrev tyPoolAvg : Nat := 0x31
abbrev tyAdd : Nat := 0x38
abbrev tyCrop : Nat := 0x40
abbrev tyDetect : Nat := 0x50
def isSpike (l : List Byte) : Bool := lyType l == 1 || lyType l == 2
def isDense (l : List Byte) : Bool := 0x10 ≤ lyType l && lyType l ≤ 0x7F
def isPool (l : List Byte) : Bool := lyType l == tyPoolMax || lyType l == tyPoolAvg

/-- The y stride of a layer (R217, R238). -/
def lyStrideY (l : List Byte) : Nat :=
  if isSpike l then spStride l else if lyType l = tySheaf then shDown l
  else if lyType l = tyConv || isPool l then dnSy l else 1

/-- The product of the y strides of the layers of a group from its first to before layer n. -/
def JobImage.sigmaBefore (i : JobImage) (n : Nat) : Nat :=
  let g := i.group (i.groupOf n)
  ((List.range (n - grpFirst g)).map (fun d => lyStrideY (i.layer (grpFirst g + d)))).foldl (· * ·) 1
/-- The same, up to and including layer n (R219). -/
def JobImage.sigma (i : JobImage) (n : Nat) : Nat := i.sigmaBefore n * lyStrideY (i.layer n)

/-! ### Kernels (R215, R216) -/

structure Kernel where
  offset : Nat
  out : Nat
  kw : Nat
  kh : Nat
  ins : Nat
  deriving DecidableEq, Repr

def JobImage.kernel (i : JobImage) (n : Nat) : Kernel :=
  let b := slice i.kernels (4 + 12 * n) 12
  ⟨leAt b 0 4, leAt b 4 2, leAt b 6 1, leAt b 7 1, leAt b 8 1⟩
/-- W: weights per line slot. -/
def Kernel.width (k : Kernel) : Nat := if k.out ≤ 16 then 16 else if k.out ≤ 32 then 32 else 64
def Kernel.groups (k : Kernel) : Nat := ceilDiv k.out k.width
def Kernel.size (k : Kernel) : Nat := k.kh * k.kw * k.ins * k.groups * k.width
/-- Weight of tap (kx, ky), input channel ci, output channel co. -/
def Kernel.weight (k : Kernel) (store : List Byte) (ky kx ci co : Nat) : Int :=
  toSigned 8 (leAt store (k.offset + (((ky * k.kw + kx) * k.ins + ci) * k.groups + co / k.width) * k.width + co % k.width) 1)

/-! ### Weights (R245, R250 to R252) -/

/-- K_g, C_out of a group, chunks and output tiles of a CONV layer. -/
def convCg (l : List Byte) : Nat := dnIn l / max 1 (dnGroups l)
def convKg (l : List Byte) : Nat := dnKh l * dnKw l * convCg l
def convCout (l : List Byte) : Nat := lyOut l / max 1 (dnGroups l)
/-- Whether the diagonal mapping applies, and the groups one tile serves. -/
def convDiagonal (l : List Byte) : Bool := dnGroups l > 1 && convKg l ≤ 64 && convCout l ≤ 64
def convPerTile (l : List Byte) : Nat := min (64 / max 1 (convKg l)) (64 / max 1 (convCout l))
/-- Tiles that a CONV layer has in WEIGHTS. -/
def convTiles (l : List Byte) : Nat :=
  if convDiagonal l then ceilDiv (dnGroups l) (max 1 (convPerTile l))
  else dnGroups l * (ceilDiv (convKg l) 64 * ceilDiv (convCout l) 64)
/-- Byte offset in WEIGHTS of the weight of patch element k for channel c of group q. -/
def convWeightAt (l : List Byte) (q k c : Nat) : Nat :=
  if convDiagonal l then
    let m := convPerTile l
    dnWeights l + q / m * 4096 + (q % m * convKg l + k) * 64 + q % m * convCout l + c
  else
    let noc := ceilDiv (convCout l) 64
    let chunks := ceilDiv (convKg l) 64
    dnWeights l + (q * (chunks * noc) + (k / 64 * noc + c / 64)) * 4096 + k % 64 * 64 + c % 64
def convWeight (l w : List Byte) (q k c : Nat) : Int := toSigned 8 (leAt w (convWeightAt l q k c) 1)
/-- Requantisation record of output channel c (R251): bias, multiplier, shift. -/
def requantOf (l w : List Byte) (c : Nat) : Int × Nat × Nat :=
  let b := slice w (dnRequant l + 8 * c) 8
  (toSigned 32 (leAt b 0 4), leAt b 4 2, leAt b 6 1)

/-- P_c and N_c of output channel ch of a CONV layer (R269). -/
def convSums (l w : List Byte) (ch : Nat) : Int × Int :=
  let co := max 1 (convCout l)
  let ws := (List.range (convKg l)).map (fun e => convWeight l w (ch / co) e (ch % co))
  (sumInt (ws.map (fun w => max w 0)), sumInt (ws.map (fun w => min w 0)))
/-- The bound records of a CONV layer: P_c and −N_c of each channel. -/
def boundRecords (l w : List Byte) : List Byte :=
  (List.range (lyOut l)).flatMap (fun ch =>
    let (p, n) := convSums l w ch
    leBytes 4 p.toNat ++ leBytes 4 (-n).toNat)

/-! ### Rows (R186, R187, R219, R244) -/

/-- Maps of group g for m bound gates: a group that begins with a CROP has box slots in place of ports (R261). -/
def JobImage.ports (i : JobImage) (g m : Nat) : Nat :=
  let f := i.layer (grpFirst (i.group g))
  if lyType f = tyCrop then crCapacity f else m
/-- Rows of the stacked map of layer n for m bound gates. -/
def JobImage.stackedRows (i : JobImage) (n m : Nat) : Nat := i.ports (i.groupOf n) m * lyH (i.layer n)

/-- The group row of stacked row `row` of layer n. -/
def JobImage.groupRow (img : JobImage) (n row : Nat) : Nat :=
  let h := max 1 (lyH (img.layer n))
  row / h * grpRows (img.group (img.groupOf n)) + row % h * img.sigma n
def JobImage.owner (img : JobImage) (cut : List Nat) (gates n row : Nat) : Option Nat :=
  let g := img.groupOf n
  rowOwner (img.group g) cut (img.ports g gates) (img.groupRow n row)
/-- Stacked rows of layer n that a leaf owns. -/
def JobImage.owned (img : JobImage) (cut : List Nat) (gates leaf n : Nat) : List Nat :=
  (List.range (img.stackedRows n gates)).filter (fun r => img.owner cut gates n r == some leaf)
/-- Stacked rows of layer n that a leaf computes: a dense layer also runs over the halo rows of its group (R235). -/
def JobImage.computed (img : JobImage) (cut : List Nat) (gates leaf n : Nat) : List Nat :=
  if isDense (img.layer n) && lyType (img.layer n) != tyDetect then
    let g := img.groupOf n
    let halo := haloRows (img.group g) cut (img.ports g gates) leaf
    (List.range (img.stackedRows n gates)).filter (fun r =>
      img.owner cut gates n r == some leaf || halo.contains (img.groupRow n r))
  else img.owned cut gates leaf n

/-- Rows of the source's map, in the same port, that output row y of a layer reads. -/
def rowsReadBy (l : List Byte) (kh : Nat) (src y : Nat) : List Int :=
  if lyType l = tySpikeConv then
    (List.range kh).map (fun (t : Nat) => ((y * spStride l + t : Nat) : Int) - (((kh - 1) / 2 : Nat) : Int))
  else if lyType l = tyConv then
    (List.range (dnKh l)).map (fun (t : Nat) => ((y * dnSy l : Nat) : Int) + ((t : Int) - (((dnKh l - 1) / 2 : Nat) : Int)) * (dnDy l : Int))
  else if isPool l then
    (List.range (dnKh l)).map (fun (t : Nat) => ((y * dnSy l + t : Nat) : Int) - (((dnKh l - 1) / 2 : Nat) : Int))
  else if lyType l = tyDetect && src == lySource l then [(y : Int) - 1, y, (y : Int) + 1]
  else [y]

/-- Stacked rows of layer src that stacked row `row` of layer n reads. -/
def JobImage.rowsRead (img : JobImage) (n src row : Nat) : List Nat :=
  let l := img.layer n
  let h := max 1 (lyH l)
  let hs := lyH (img.layer src)
  let kh := (img.kernel (spKernel l)).kh
  (rowsReadBy l kh src (row % h)).filterMap (fun (y : Int) => if 0 ≤ y ∧ y < (hs : Int) then some (row / h * hs + y.toNat) else none)

/-- The layers whose rows layer n reads through the leaf's own store: its source, and the second source of ADD and DETECT.
A CROP reads a gathered map instead (R260), a SPIKE_EVENT layer and a SHEAF read events. -/
def rowSources (l : List Byte) : List Nat :=
  if lyType l = tySpikeConv || lyType l = tyConv || isPool l then [lySource l]
  else if lyType l = tyAdd || lyType l = tyDetect then dedup [lySource l, dnSecond l]
  else []

/-- Rows of layer src that a leaf needs for layer n and does not hold itself. -/
def JobImage.missingRows (img : JobImage) (cut : List Nat) (gates leaf n src : Nat) : List Nat :=
  let same := isDense (img.layer src) && img.groupOf src == img.groupOf n
  if same then []
  else
    let need := dedup ((img.computed cut gates leaf n).flatMap (fun r => img.rowsRead n src r))
    need.filter (fun r => img.owner cut gates src r != some leaf)

/-- The layers that read rows of layer src. -/
def JobImage.rowReaders (img : JobImage) (src : Nat) : List Nat :=
  (List.range img.layers.length).filter (fun n => (rowSources (img.layer n)).contains src)
/-- Rows of layer src that pass from leaf p to leaf c. -/
def JobImage.passed (img : JobImage) (cut : List Nat) (gates src p c : Nat) : List Nat :=
  dedup (((img.rowReaders src).flatMap (fun n => img.missingRows cut gates c n src)).filter
    (fun r => img.owner cut gates src r == some p))
/-- The leaves whose rows of layer src leaf c needs. -/
def JobImage.producers (img : JobImage) (cut : List Nat) (gates src c : Nat) : List Nat :=
  cut.filter (fun p => p != c && !(img.passed cut gates src p c).isEmpty)

/-- The first layer group that reads rows of layer n from other leaves. -/
def JobImage.readerGroup (img : JobImage) (n : Nat) : Nat := img.groupOf ((img.rowReaders n).headD n)

/-! ### Packed places of neurons and surface words -/

def placeOf (layer row x c : Nat) : Nat := ((layer * 2 ^ 17 + row) * 2 ^ 11 + x) * 2 ^ 8 + c
def placeLayer (p : Nat) : Nat := p / 2 ^ 36
def placeRow (p : Nat) : Nat := p / 2 ^ 19 % 2 ^ 17
def placeX (p : Nat) : Nat := p / 2 ^ 8 % 2 ^ 11
def placeC (p : Nat) : Nat := p % 2 ^ 8

/-! ### Reasons of a refused load (R182) -/

/-- Reason and qualifier as JOB.REJECT_DETAIL and the detail word carry them. -/
def reject (reason qualifier : Nat) : Nat := reason * 2 ^ 24 + qualifier % 2 ^ 24
abbrev rjHeader : Nat := 1
abbrev rjSection : Nat := 2
abbrev rjLayer : Nat := 3
abbrev rjGroup : Nat := 4
abbrev rjUnsigned : Nat := 5
abbrev rjSignature : Nat := 6
abbrev rjFeature : Nat := 7
abbrev rjNoRoom : Nat := 8
abbrev rjNotLoaded : Nat := 9
abbrev rjPortCount : Nat := 10
abbrev rjGateSize : Nat := 11
abbrev rjGateTaken : Nat := 12
abbrev rjStallTaken : Nat := 13
abbrev rjStoreFit : Nat := 14
abbrev rjLoftFit : Nat := 15
abbrev rjLeaves : Nat := 16

/-- The detail of the first check that fails. -/
def firstBad (l : List (Bool × Nat)) : Option Nat := (l.find? (fun p => !p.1)).map (·.2)
def within (lo hi n : Nat) : Bool := lo ≤ n && n ≤ hi

/-! ### Header and sections (R173, R174) -/

def headerCheck (b : List Byte) (len : Nat) : Option Nat :=
  let bad := fun (ok : Bool) (o : Nat) => (ok, reject rjHeader o)
  firstBad [bad (within 128 268435456 len) 8, bad (leAt b 0 4 == 0x424F4A43) 0, bad (leAt b 4 2 == 1) 4,
    bad (leAt b 6 2 == 64) 6, bad (leAt b 8 4 == len) 8, bad (within 1 64 (leAt b 16 2)) 16, bad (within 1 32 (leAt b 18 1)) 18,
    bad (within 1 36 (leAt b 19 1)) 19, bad (within 1 131072 (leAt b 20 4)) 20,
    ((leAt b 24 4) / 4 == 0, reject rjFeature (((List.range 32).find? (fun i => 2 ≤ i && bit (leAt b 24 4) i)).getD 0)),
    bad (within 1 2048 (leAt b 28 2)) 28, bad (within 1 2048 (leAt b 30 2)) 30, bad (leAt b 36 4 % 16 == 0) 36]

structure Section where
  kind : Nat
  offset : Nat
  length : Nat
  count : Nat
  deriving DecidableEq, Repr

def sectionsOf (b : List Byte) : List Section :=
  (List.range (leAt b 16 2)).map (fun i =>
    let e := slice b (leAt b 36 4 + 16 * i) 16
    ⟨leAt e 0 2, leAt e 4 4, leAt e 8 4, leAt e 12 4⟩)

def knownSection (k : Nat) : Bool := within 1 6 k || k == 0xFF
/-- Record size of a section whose records have one. -/
def recordSize (k : Nat) : Nat := if k = 1 then 64 else if k = 4 then 520 else if k = 5 then 32 else if k = 6 then 16 else 0
def rangesMeet (a n b m : Nat) : Bool := a < b + m && b < a + n && 0 < n && 0 < m

/-- Whether entry i of the section table is good. -/
def sectionOk (b : List Byte) (len : Nat) (ss : List Section) (i : Nat) : Bool :=
  match ss[i]? with
  | none => false
  | some s =>
    let table := leAt b 36 4
    leAt b 36 4 + 16 * (i + 1) ≤ len && 64 ≤ table
      && knownSection s.kind && s.offset % 64 == 0 && s.offset + s.length ≤ len && 64 ≤ s.offset
      && !rangesMeet s.offset s.length table (16 * ss.length)
      && (List.range i).all (fun j => match ss[j]? with
          | some t => t.kind != s.kind && !rangesMeet s.offset s.length t.offset t.length
          | none => true)
      && (recordSize s.kind == 0 || s.length == recordSize s.kind * s.count)
      && (s.kind != 5 || s.count == leAt b 18 1)
      && (s.kind != 4 || within 1 16 s.count)
      && (s.kind != 0xFF || (i + 1 == ss.length && s.offset + s.length == len && s.length == 3313))

def sectionsCheck (b : List Byte) (len : Nat) : Option Nat :=
  let ss := sectionsOf b
  match (List.range ss.length).find? (fun i => !sectionOk b len ss i) with
  | some i => some (reject rjSection i)
  | none =>
    if ss.any (fun s => s.kind == 1) && ss.any (fun s => s.kind == 5) then none else some (reject rjSection ss.length)

def sectionBytes (b : List Byte) (k : Nat) : List Byte :=
  match (sectionsOf b).find? (fun s => s.kind == k) with
  | some s => slice b s.offset s.length
  | none => []
def sectionIndex (b : List Byte) (k : Nat) : Nat := ((sectionsOf b).findIdx? (fun s => s.kind == k)).getD 0

/-- The records of an image whose header and sections are good. -/
def imageOf (b : List Byte) : JobImage :=
  let recs := fun k => let s := sectionBytes b k; chunksOf (recordSize k) s.length s
  ⟨b.take 64, recs 1, recs 5, recs 6, sectionBytes b 2, sectionBytes b 3, recs 4, b⟩

/-- Whether the kernel directory and every kernel of a KERNELS section that is present are good (R215, R216). -/
def kernelsOk (i : JobImage) (present : Bool) : Bool :=
  let n := leAt i.kernels 0 2
  let len := i.kernels.length
  !present ||
    (within 1 256 n && 4 + 12 * n ≤ len && (List.range n).all (fun a =>
      let k := i.kernel a
      within 1 256 k.out && within 1 9 k.kw && within 1 9 k.kh && within 1 64 k.ins && k.offset % 64 == 0
        && 4 + 12 * n ≤ k.offset && k.offset + k.size ≤ len
        && (List.range a).all (fun c => !rangesMeet k.offset k.size (i.kernel c).offset (i.kernel c).size)))

/-- Leak records: only τ is checked (R207). -/
def tablesOk (i : JobImage) : Bool := i.tables.all (fun t => within 1 2048 (leAt t 0 4))

/-! ### Layers (R204, R217, R241 to R245, R256, R259, R271 to R277) -/

/-- Input width, height and channels of the layer that reads `src`. -/
def JobImage.inputOf (i : JobImage) (src : Nat) : Nat × Nat × Nat :=
  if src = 0xFFFF then (leAt i.header 28 2, leAt i.header 30 2, 2)
  else let l := i.layer src; (lyW l, lyH l, lyOut l)

/-- The rules of R204 for one spike layer under a schedule. -/
def tickRules (p sl : Nat) (l : List Byte) : Bool :=
  p % 2 ^ spShift l == 0 && (sl + 2) * p + 4200 ≤ 8192 * 2 ^ spShift l

/-- Layers that name layer n as a source. -/
def JobImage.readers (i : JobImage) (n : Nat) : List Nat :=
  (List.range i.layers.length).filter (fun m =>
    let l := i.layer m
    lySource l == n || (isDense l && dnSecond l == n) || (lyType l == tyCrop && crBoxes l == n))

/-- R272 and R277 for the winnow byte of layer n. -/
def JobImage.winnowOk (i : JobImage) (n : Nat) : Bool :=
  let l := i.layer n
  let src := i.layer (lySource l)
  let mode := lyWinnow l % 4
  let fused := lyWinnow l / 4
  (mode == 0 || (mode ≤ 2 && (lyType l == tyConv || (lyType l == tySpikeConv && isDense src))))
    && (fused == 0 || (fused ≤ 2 && lyType l == tyConv && !bit (lyFlags l) 1
        && !(i.outputs.any (fun o => outLayer o == n))
        && (match i.readers n with
            | [m] => let r := i.layer m
              lySource r == n && dnSecond r != n && lyType r == (if fused == 1 then tyPoolMax else tyDetect)
            | _ => false)))

/-- The tick-independent checks of a spike layer (R217). -/
def JobImage.spikeOk (i : JobImage) (n : Nat) : Bool :=
  let l := i.layer n
  let src := lySource l
  let (w, h, ch) := i.inputOf src
  let k := i.kernel (spKernel l)
  (if lyType l = tySpikeEvent then src == 0xFFFF else src < n)
    && spKernel l < leAt i.kernels 0 2 && within 1 256 (lyOut l) && lyOut l == k.out && spIn l == ch && spIn l == k.ins
    && within 1 4 (spStride l) && lyW l == ceilDiv w (max 1 (spStride l)) && lyH l == ceilDiv h (max 1 (spStride l))
    && spShift l ≤ 7 && spTau l < i.tables.length && spWeightShift l ≤ 8 && within 1 127 (spMapValue l)
    && 1 ≤ spTheta l && spFloor l ≤ 0 && spCapacity l ≤ 16777216 && within 2 256 (spSteps l) && within 1 8192 (spRowCap l)

def isTensorSource (i : JobImage) (n : Nat) : Bool := i.outputs.any (fun o => outType o == 6 && outLayer o == n)

/-- The checks of a CONV layer's own fields. -/
def JobImage.convOk (i : JobImage) (l : List Byte) (w h : Nat) : Bool :=
  within 1 9 (dnKw l) && within 1 9 (dnKh l) && within 1 4 (dnSx l) && within 1 4 (dnSy l) && within 1 16 (dnDx l)
    && within 1 16 (dnDy l) && within 1 1024 (dnGroups l) && dnIn l % max 1 (dnGroups l) == 0
    && lyOut l % max 1 (dnGroups l) == 0 && lyW l == ceilDiv w (max 1 (dnSx l)) && lyH l == ceilDiv h (max 1 (dnSy l))
    && convKg l ≤ 65536 && dnWeights l + 4096 * convTiles l ≤ i.weights.length
    && dnRequant l + 8 * lyOut l ≤ i.weights.length
    && (List.range (lyOut l)).all (fun c => within 1 47 (requantOf l i.weights c).2.2)

/-- Fields that are 1 in every other layer but pooling. -/
def plainShape (l : List Byte) : Bool :=
  dnKw l == 1 && dnKh l == 1 && dnSx l == 1 && dnSy l == 1 && dnDx l == 1 && dnDy l == 1 && dnGroups l == 1
def poolOk (l : List Byte) (w h : Nat) : Bool :=
  within 1 8 (dnKw l) && within 1 8 (dnKh l) && within 1 8 (dnSx l) && within 1 8 (dnSy l) && dnDx l == 1 && dnDy l == 1
    && dnGroups l == 1 && lyOut l == dnIn l && lyW l == ceilDiv w (max 1 (dnSx l)) && lyH l == ceilDiv h (max 1 (dnSy l))
def sheafOk (l : List Byte) (w h : Nat) : Bool :=
  lySource l == 0xFFFF && plainShape l && shFormat l ≤ 2
    && (if shFormat l = 2 then within 1 8 (shBins l) && lyOut l == 2 * shBins l else shBins l == 0 && lyOut l == 2)
    && (shDown l == 1 || shDown l == 2 || shDown l == 4) && (shFormat l != 1 || within 1 65535 (shQuantum l))
    && lyW l == ceilDiv w (max 1 (shDown l)) && lyH l == ceilDiv h (max 1 (shDown l))
def JobImage.sameShape (i : JobImage) (a b : Nat) : Bool :=
  lyW (i.layer a) == lyW (i.layer b) && lyH (i.layer a) == lyH (i.layer b)

/-- The checks of a dense layer (R241, R245, R250, R256, R260). -/
def JobImage.denseOk (i : JobImage) (n : Nat) : Bool :=
  let l := i.layer n
  let t := lyType l
  let src := lySource l
  let (w, h, ch) := i.inputOf src
  (t == tySheaf || src < n) && dnAct l ≤ 2 && (dnAct l != 2 || within 1 127 (dnCap l)) && within 1 1024 (lyOut l)
    && dnIn l == (if t = tySheaf then 0 else ch) && dnWeights l % 64 == 0 && dnRequant l % 8 == 0
    && (if isTensorSource i n then within 2 256 (dnSteps l) else dnSteps l == 0)
    && (t == tyAdd || t == tyDetect || dnSecond l == 0xFFFF)
    && (if t = tySheaf then sheafOk l w h
        else if t = tyConv then i.convOk l w h
        else if isPool l then poolOk l w h
        else if t = tyAdd then plainShape l && dnSecond l < n && i.sameShape n src && i.sameShape n (dnSecond l)
          && lyOut l == ch && lyOut (i.layer (dnSecond l)) == ch && within 1 31 (adShift l)
        else if t = tyCrop then plainShape l && crBoxes l < n && lyType (i.layer (crBoxes l)) == tyDetect && within 1 32 (crW l)
          && within 1 32 (crH l) && within 1 1024 (crCapacity l) && lyW l == crW l && lyH l == crH l && lyOut l == ch
          && !bit i.features 1
        else if t = tyDetect then plainShape l && dnSecond l < n && i.sameShape n src && i.sameShape src (dnSecond l)
          && lyOut (i.layer (dnSecond l)) == 4 && within 1 1024 (deK l) && deShift l ≤ 8 && within 1 64 (deScale l)
        else false)

/-- What is wrong with layer n: the index that BAD_LAYER names. -/
def JobImage.layerBad (i : JobImage) (p sl n : Nat) : Option Nat :=
  let l := i.layer n
  let src := lySource l
  if isSpike l then
    if !(i.spikeOk n && i.winnowOk n && tickRules p sl l) then some n
    else if lyType l = tySpikeConv && isDense (i.layer src) && !bit (lyFlags (i.layer src)) 0 then some src
    else none
  else if isDense l then
    if !(i.denseOk n && i.winnowOk n) then some n
    else if lyType l = tyCrop && !(isDense (i.layer src) && bit (lyFlags (i.layer src)) 1) then some src
    else none
  else some n

/-- The layer at which the boxes for the paddock pass 1,024 (R259). -/
def JobImage.paddockOver (i : JobImage) : Option Nat :=
  let ks := fun n => let l := i.layer n; if lyType l = tyDetect && dePaddock l then deK l else 0
  (List.range i.layers.length).find? (fun n => 1024 < sumNat ((List.range (n + 1)).map ks) && ks n != 0)

/-! ### Groups and outputs (R175, R176, R217, R225, R244, R261) -/

/-- A group record's own fields, and its place in the run of layers. -/
def JobImage.groupOk (i : JobImage) (n : Nat) : Bool :=
  let g := i.group n
  let start := if n = 0 then 0 else grpFirst (i.group (n - 1)) + grpCount (i.group (n - 1))
  grpFirst g == start && within 1 1024 (grpCount g) && grpFirst g + grpCount g ≤ i.layers.length
    && (n + 1 != i.groups.length || grpFirst g + grpCount g == i.layers.length)
    && grpAbove g ≤ 16 && grpBelow g ≤ 16 && within 1 2048 (grpGranule g) && within 1 2048 (grpRows g)
    && (n != 0 || bit (grpFlags g) 0)

def JobImage.outputOk (i : JobImage) (o : List Byte) : Bool :=
  let l := i.layer (outLayer o)
  outLayer o < i.layers.length && outScope o ≤ 1 && within 1 256 (outEntries o)
    && ((outType o == 5 && isSpike l) || (outType o == 6 && isDense l) || (outType o == 7 && lyType l == tySpikeEvent))

/-- The reach of layer n above and below, in group rows (R244). -/
def JobImage.reach (i : JobImage) (n : Nat) : Nat × Nat :=
  let l := i.layer n
  let σ := i.sigmaBefore n
  if lyType l = tyConv || isPool l then
    ((dnKh l - 1) / 2 * dnDy l * σ, (dnKh l - 1 - (dnKh l - 1) / 2) * dnDy l * σ)
  else if lyType l = tyDetect then (σ, σ) else (0, 0)

/-- A group against the layers it holds. Its halo bytes per row are those of the slots that its layers read: they hold a full
row of every spike list among the sources (R225). -/
def JobImage.groupFits (i : JobImage) (n : Nat) : Bool :=
  let g := i.group n
  let ls := (List.range (grpCount g)).map (fun d => grpFirst g + d)
  let strides := (ls.map (fun m => lyStrideY (i.layer m))).foldl (· * ·) 1
  let whole := grpGranule g == grpRows g
  grpGranule g % max 1 strides == 0
    && ls.all (fun m => (rowSources (i.layer m)).all (fun src => let l := i.layer src
        !(isSpike l && bit (lyFlags l) 0) || 8 + 8 * spRowCap l ≤ grpHaloBytes g))
    && (whole || (sumNat (ls.map (fun m => (i.reach m).1)) ≤ grpAbove g && sumNat (ls.map (fun m => (i.reach m).2)) ≤ grpBelow g))
    && ls.all (fun m => lyType (i.layer m) != tyCrop || (m == grpFirst g && grpGranule g == crH (i.layer m) && grpRows g == crH (i.layer m)))

/-! ### Room in the job area (R229, R260, R264, R269) -/

/-- Bytes of one buffer that holds the map or list of layer n. -/
def JobImage.mapBytes (i : JobImage) (n m : Nat) : Nat :=
  let l := i.layer n
  if lyType l = tyDetect then 32 * deK l
  else
    let rows := i.stackedRows n m
    if bit (lyFlags l) 0 then (4 * rows + 7) / 8 * 8 + rows * (rowBytes (lyOut l) (lyW l) / 64 * 72)
    else rows * rowBytes (lyOut l) (lyW l)

/-- Bytes that an image takes of the job area: the image, its output buffers, gathered maps and bound records. -/
def JobImage.areaBytes (i : JobImage) : Nat :=
  let m := leAt i.header 19 1
  let outs := sumNat (i.outputs.map (fun o =>
    let l := i.layer (outLayer o)
    let n := if outScope o = 0 then outEntries o else 1
    if outType o = 6 then n * dnSteps l * i.mapBytes (outLayer o) m else n * spSteps l * (8 * spCapacity l)))
  let perLayer := sumNat ((List.range i.layers.length).map (fun n =>
    let l := i.layer n
    (if isDense l && bit (lyFlags l) 1 then 2 * i.mapBytes n m else 0)
      + (if lyType l = tyConv && lyMode l != 0 then 8 * lyOut l else 0)))
  i.raw.length + outs + perLayer

/-! ### The whole check of a load (R179, R180) -/

/-- The signature section, where the image has one: key slot and signature. -/
def imageSignature (b : List Byte) : Option (Nat × Nat × List Byte) :=
  match (sectionsOf b).find? (fun s => s.kind == 0xFF) with
  | some s => let x := slice b s.offset s.length; some (leAt x 0 1, leAt x 2 2, slice x 4 3309)
  | none => none

/-- Checks of groups, outputs and layers, in the order of R179. -/
def JobImage.recordsCheck (i : JobImage) (p sl : Nat) (b : List Byte) : Option Nat :=
  if !kernelsOk i ((sectionsOf b).any (fun s => s.kind == 2)) then some (reject rjSection (sectionIndex b 2))
  else if !tablesOk i then some (reject rjSection (sectionIndex b 4))
  else
    match (List.range i.groups.length).find? (fun n => !i.groupOk n) with
    | some n => some (reject rjGroup n)
    | none =>
      match (List.range i.outputs.length).find? (fun n => !i.outputOk (i.outputs.getD n [])) with
      | some n => some (reject rjGroup n)
      | none =>
        match (List.range i.layers.length).findSome? (fun n => i.layerBad p sl n) with
        | some n => some (reject rjLayer n)
        | none =>
          match i.paddockOver with
          | some n => some (reject rjLayer n)
          | none => ((List.range i.groups.length).find? (fun n => !i.groupFits n)).map (reject rjGroup)

/-- SEC.OPKEY_k: slots 0 to 3 at 0xB000, 4 to 7 at 0xB001. -/
def opkeyAddr (k : Nat) : Nat := if k < 4 then Obj.secOpkey0 + k else Obj.secOpkey4 + (k - 4)
/-- The operator key of slot k where it is enabled (R507). -/
def operatorKey (d : Store) (k : Nat) : Option (List Byte) :=
  let key := cfgB d (opkeyAddr k)
  if k < 8 && bit (cfgN d Obj.secOpkeyEnable) k && key.length == 1952 then some key else none

/-- The signature of an image: none wrong, or the detail of R182. -/
def signatureCheck (d : Store) (b : List Byte) : Option Nat :=
  match imageSignature b with
  | none => if cfgN d Obj.secJobSigned = 1 then some (reject rjUnsigned 0) else none
  | some (k, n, sig) =>
    match operatorKey d k with
    | none => some (reject rjSignature k)
    | some key =>
      let signed := b.take (b.length - 3313)
      if n = 3309 && Config.verify key (ascii "OUVAC-JOB") signed sig then none else some (reject rjSignature k)

/-- Every check of a load, but for the room in the job area. -/
def loadCheck (d : Store) (p : Nat) (b : List Byte) (len : Nat) : Option Nat :=
  match headerCheck b len with
  | some e => some e
  | none =>
    match sectionsCheck b len with
    | some e => some e
    | none =>
      match (imageOf b).recordsCheck p (slOf d) b with
      | some e => some e
      | none => signatureCheck d b

end Sys2Proof.Machine
end

