-- ==== Sys2Proof/Machine/DictRules.lean ====
section
/-!
DEFINITION. The rules that a COMMIT is checked against (R48 checks 4, 7 and 8, R49): the set that would be in force, what
counts as a change, and every chapter's own rules with the object each of them names.
-/
namespace Sys2Proof.Machine

/-! ### Sets of settings (R47 to R49) -/

/-- Write the values of one staged write into a set of settings. -/
def overlayOne (d : Store) (w : Staged) : Store :=
  ((List.range w.vals.length).zip w.vals).foldl (fun d p => dset d w.addr (w.first + p.1) p.2) d
def overlay (d : Store) (ws : List Staged) : Store := ws.foldl overlayOne d
/-- The values in force, with the last STEP.PERIOD that passed where its pair fails its check (R78). -/
def State.sound (s : State) : Store :=
  if pairOk 32 (s.rd Obj.stepPeriod) then s.dict else dset s.dict Obj.stepPeriod 0 (dget s.pairs Obj.stepPeriod 0)
/-- Values in force, overlaid by all bales committed and waiting, in the order of their COMMITs. -/
def State.waitingSet (s : State) : Store := s.sdp.waiting.foldl (fun d w => overlay d w.writes) s.sound

/-- The entries of one object in a set. -/
def objEntries (d : Store) (addr : Nat) : Store := d.filter (fun p => p.1 / 2 ^ 24 == addr)
/-- Whether an object differs between two sets. -/
def differs (d0 d : Store) (addr : Nat) : Bool := objEntries d0 addr != objEntries d addr
/-- The elements of an object that differ. -/
def changedElems (d0 d : Store) (addr : Nat) : List Nat :=
  (dedup (listedElems d0 addr ++ listedElems d addr)).filter (fun e => dget d0 addr e != dget d addr e)
/-- The objects of a range of addresses that a set lists. -/
def listedAddrs (d : Store) (lo hi : Nat) : List Nat :=
  dedup ((d.filter (fun p => lo ≤ p.1 / 2 ^ 24 && p.1 / 2 ^ 24 ≤ hi)).map (fun p => p.1 / 2 ^ 24))

/-- What a rule is checked on: the set without the bale, the set with it, and the addresses it stages. -/
structure Check where
  old : Store
  new : Store
  staged : List Nat

/-- The offending object of a broken rule (R49). -/
def Check.offender (c : Check) (concerned : List Nat) : Nat :=
  let mine := concerned.filter (fun a => c.staged.contains a)
  let l := if mine.isEmpty then concerned else mine
  l.foldl min (l.headD 0)

/-- A broken rule: its offending object, and what the response carries. -/
abbrev Broken := Nat × Abort
def Check.inconsistent (c : Check) (concerned : List Nat) : Broken :=
  let a := c.offender concerned
  (a, (Ab.inconsistent, a))
def brokenIf (b : Bool) (x : Broken) : List Broken := if b then [x] else []

/-- The refusal of the offending object with the lowest address (R48). -/
def lowestBroken (l : List Broken) : Option Abort := (minBy (fun b => (b.1 : Int)) l).map (·.2)

/-- A step schedule is active (R15, R402). -/
def State.scheduleActive (s : State) : Bool :=
  !s.activeSlots.isEmpty || s.rd Obj.paddockRun == 1 || s.steps.any (fun r => r.scheduled)
/-- Whether a waiting bale sets PADDOCK.RUN to 1. -/
def State.paddockWaits (s : State) : Bool := s.sdp.waiting.any (fun w => w.writes.any (fun x => x.addr == Obj.paddockRun && x.vals == [.num 1]))

/-! ### Check 4: blocks that must be stopped -/

/-- The gates that a lane object of gate n affects: both of a ganged pair (R81, R83). -/
def pairGates (d : Store) (n : Nat) : List Nat := if bit (cfgN d Obj.gateGang) (n / 2) then [n / 2 * 2, n / 2 * 2 + 1] else [n]
/-- The gates that a change of an object of R83 affects. -/
def gatesAffected (c : Check) (addr : Nat) : List Nat :=
  if addr = Obj.gateGang then
    (List.range 18).flatMap (fun m =>
      if bit (cfgN c.old Obj.gateGang) m != bit (cfgN c.new Obj.gateGang) m then [2 * m, 2 * m + 1] else [])
  else
    let n := addr / 256 - 0x2100
    let sub := addr % 256
    if 0x2100 ≤ addr / 256 && addr / 256 < 0x2124 then
      if 2 ≤ sub && sub ≤ 6 then pairGates c.old n ++ pairGates c.new n else if sub = 7 || sub = 8 then [n] else []
    else []

/-- Chains in SETTLING or RUNNING that read a rate source (R147, R149). -/
def State.rateChains (s : State) : List Nat :=
  (List.range 16).filter (fun c => s.rd (Obj.chainState c) != 0 && s.rd (Obj.chainSource c) == 0)

/-- R149 for the rate taps. -/
def tapBusy (c : Check) (addr : Nat) (s : State) : Bool :=
  (addr == Obj.gateRateBin && !s.rateChains.isEmpty) ||
    s.rateChains.any (fun ch =>
      let g := s.rd (Obj.chainSourceGate ch)
      addr == Obj.rateTiles g && (changedElems c.old c.new addr).any (fun e => e / 32 == s.rd (Obj.chainSourceTap ch)))

/-- R158: the objects of a chain that runs. -/
def chainBusy (addr : Nat) (s : State) : Bool :=
  0x2C10 ≤ addr / 256 && addr / 256 < 0x2C20 && 2 ≤ addr % 256 && addr % 256 ≤ 12
    && s.rd (Obj.chainRun (addr / 256 - 0x2C10)) == 1

/-- R169: records reached from the yard of an active slot, as they stand or as waiting bales will make them. -/
def yardBusy (addr : Nat) (s : State) : Bool :=
  0x3000 ≤ addr / 256 && addr / 256 < 0x3100 && 1 ≤ addr % 256 && addr % 256 ≤ 3
    && s.activeSlots.any (fun j => s.jobYard j < 256 &&
      ((yardsBelow s.dict 9 (s.jobYard j)).contains (addr / 256 - 0x3000)
        || (yardsBelow s.waitingSet 9 (s.jobYard j)).contains (addr / 256 - 0x3000)))

/-- R181: objects of a slot whose JOB.RUN is 1, or that is about to run. -/
def slotBusy (addr : Nat) (s : State) : Bool :=
  let j := addr / 256 - 0x3200
  0x3200 ≤ addr / 256 && addr / 256 < 0x3240 && 2 ≤ addr % 256 && addr % 256 ≤ 5
    && (s.rd (Obj.jobRun j) == 1 || s.rd (Obj.jobState j) == 4)

/-- R188: the region maps of the gates of active slots. -/
def regionBusy (addr : Nat) (s : State) : Bool := (List.range 36).any (fun g => addr == Obj.regionMap g && (s.gateJob g).isSome)

/-- Whether a producer that names trough t is active (R348). -/
def State.troughBusy (s : State) (t : Nat) : Bool :=
  s.activeSlots.any (fun j => s.jobYard j < 256 && s.rd (Obj.yardTrough (s.jobYard j)) == t)
    || (s.rd Obj.paddockTrough == t && (s.rd Obj.paddockRun == 1 || s.fusePending))
    || (s.rd Obj.groomTrough == t && s.isOn 10)
    || (List.range 256).any (fun c => s.chanState c != 0 && s.rdE Obj.chanTrough c == t)
    || (s.rd Obj.muckTrough == t && s.muck.any (fun p => p.2.running || p.2.active))
def ringBusy (c : Check) (addr : Nat) (s : State) : Bool :=
  (addr == Obj.troughBase || addr == Obj.troughSizeLog2) && (changedElems c.old c.new addr).any (fun t => s.troughBusy t)

/-- R359: the trough of a channel that is not IDLE. -/
def chanTroughBusy (c : Check) (addr : Nat) (s : State) : Bool :=
  addr == Obj.chanTrough && (changedElems c.old c.new addr).any (fun e => s.chanState e != 0)

/-- R392: the host window moves only while nothing uses it. -/
def windowBusy (addr : Nat) (s : State) : Bool :=
  addr == Obj.hostWindowBase &&
    ((listedElems s.dict Obj.troughBase).any (fun t => s.troughN t != 0 && inHostWindow (s.troughBase t))
      || (List.range 256).any (fun c => s.chanState c != 0)
      || (List.range 64).any (fun j => s.rd (Obj.jobState j) == 1 && inHostWindow ((s.slot j).latched.1)))

/-- R15: the step schedule. -/
def scheduleObject (addr : Nat) : Bool := addr == Obj.stepPeriod || addr == Obj.stepT0Sec || addr == Obj.stepT0Ns

/-- Whether a changed object may not change now. -/
def mustStop (c : Check) (addr : Nat) (s : State) : Bool :=
  (scheduleObject addr && (s.scheduleActive || s.paddockWaits))
    || (gatesAffected c addr).any (fun g => s.gateState g != 0)
    || tapBusy c addr s || chainBusy addr s || yardBusy addr s || slotBusy addr s || regionBusy addr s || ringBusy c addr s
    || windowBusy addr s || chanTroughBusy c addr s || (addr == Obj.nodeNumber && !s.activeSlots.isEmpty)

def check4 (c : Check) (s : State) : Option Abort :=
  lowestBroken ((c.staged.filter (fun a => differs c.old c.new a && mustStop c a s)).map (fun a => (a, (Ab.blockRunning, a))))

/-! ### Check 7: values refused at COMMIT -/

/-- R385, R425, R468 and R479 for one FAULT.REACT. -/
def reactBad (d : Store) (addr : Nat) : Bool :=
  let b := addr / 256 - 0x7000
  (listedElems d addr).any (fun i =>
    bit (faultPresent b) i &&
      ((bit (cfgE d addr i) 2 && !hasBlockReset b) || (bit (faultGrave b) i && !bit (cfgE d addr i) 1)))

def check7 (c : Check) : Option Abort :=
  let d := c.new
  let base := cfgN d Obj.hostWindowBase
  if cfgN d Obj.stepT0Ns % 1000 != 0
      || (listedElems d Obj.alignDtheta).any (fun e => cfgI d 32 Obj.alignDtheta e < -200000 || 200000 < cfgI d 32 Obj.alignDtheta e)
      || base % 2 ^ 30 != 0 || 2 ^ 64 < base + 0x2000000000
      || (listedAddrs d 0x700006 0x705C06).any (fun a => a % 256 == 6 && reactBad d a)
  then some (Ab.valueRange, 0) else none

/-! ### Check 8: cross-object rules -/

/-- R82 for ganged pair m. -/
def gangRule (c : Check) (m : Nat) : List Broken :=
  let d := c.new
  let a := 2 * m
  let b := 2 * m + 1
  let gang := bit (cfgN d Obj.gateGang) m
  let lanes := fun g => cfgN d (Obj.gateLanes g)
  brokenIf ((lanes a == 4) != gang) (c.inconsistent [Obj.gateGang, Obj.gateLanes a])
    ++ brokenIf (lanes b == 4) (c.inconsistent [Obj.gateGang, Obj.gateLanes b])
    ++ brokenIf (gang && (cfgN d (Obj.gateVcMask a) &&& cfgN d (Obj.gateVcMask b)) % 16 != 0)
        (c.inconsistent [Obj.gateGang, Obj.gateVcMask a, Obj.gateVcMask b])
    ++ brokenIf (gang && cfgN d (Obj.gateLaneRate a) != cfgN d (Obj.gateLaneRate b))
        (c.inconsistent [Obj.gateGang, Obj.gateLaneRate a, Obj.gateLaneRate b])
    ++ brokenIf (gang && cfgN d (Obj.gateClockMode a) != cfgN d (Obj.gateClockMode b))
        (c.inconsistent [Obj.gateGang, Obj.gateClockMode a, Obj.gateClockMode b])

/-- P of a set. -/
def periodOf (d : Store) : Nat := cfgN d Obj.stepPeriod % 2 ^ 32

/-- R97 and R102 for gate g. -/
def gateRule (c : Check) (g : Nat) : List Broken :=
  let d := c.new
  brokenIf (periodOf d ≤ 2 * cfgN d (Obj.gateRelockWindow g)) (c.inconsistent [Obj.stepPeriod, Obj.gateRelockWindow g])
    ++ (List.range 4).flatMap (fun w =>
      let π := cfgE d (Obj.flickerPeriod g) w
      brokenIf (π != 0 && !(cfgE d (Obj.flickerStart g) w < π && 2 * cfgE d (Obj.flickerWidth g) w ≤ π))
        (c.inconsistent [Obj.flickerPeriod g, Obj.flickerStart g, Obj.flickerWidth g]))

/-- R142 for the template of gate g. -/
def templateRule (c : Check) (g : Nat) : List Broken :=
  let b := cfgB c.new (Obj.groomBiasTemplate g)
  let n := leAt b 0 2
  let script := b.length - (4 + 4 * n)
  brokenIf (!b.isEmpty && (16 < n || b.length < 4 + 4 * n || (List.range n).any (fun i =>
      let p := slice b (4 + 4 * i) 4
      script < leAt p 0 2 + (if leAt p 3 1 = 0 then 1 else 2))))
    (c.inconsistent [Obj.groomBiasTemplate g])

/-- R155 and R160 for chain n. -/
def chainRule (c : Check) (n : Nat) : List Broken :=
  let d := c.new
  let taps := cfgN d (Obj.chainFirTaps n)
  let on := fun m => cfgN d (Obj.flickerEnable m) == 1 || cfgN d (Obj.flickerEnable m) == 2
  brokenIf (cfgN d (Obj.chainMode n) == 0 &&
      (cfgN d (Obj.chainSections n) != 0 ||
        !(List.range taps).all (fun i => cfgE d (Obj.chainFirCoeff n) i == cfgE d (Obj.chainFirCoeff n) (taps - 1 - i))))
      (c.inconsistent [Obj.chainMode n, Obj.chainFirTaps n, Obj.chainFirCoeff n, Obj.chainSections n])
    ++ brokenIf (on n && cfgN d (Obj.chainSource n) != 0) (c.inconsistent [Obj.chainSource n, Obj.flickerEnable n])
    ++ (List.range n).flatMap (fun m =>
      brokenIf (on n && on m && cfgN d (Obj.chainSourceGate n) == cfgN d (Obj.chainSourceGate m)
          && cfgN d (Obj.flickerWindow n) == cfgN d (Obj.flickerWindow m))
        (c.inconsistent [Obj.chainSourceGate m, Obj.flickerEnable m, Obj.flickerWindow m, Obj.chainSourceGate n, Obj.flickerEnable n, Obj.flickerWindow n]))

/-- Whether record y has a non-empty slot. -/
def yardUsed (d : Store) (y : Nat) : Bool := (List.range 64).any (fun i => memKind (cfgE d (Obj.yardMembers y) i) != 0)
/-- Records of the longest chain of local yards from y, counted up to `fuel`. -/
def yardDepth (d : Store) : Nat → Nat → Nat
  | 0, _ => 0
  | fuel + 1, y =>
    1 + ((List.range 64).map (fun i =>
      let w := cfgE d (Obj.yardMembers y) i
      if memKind w = 2 then yardDepth d fuel (memNum w) else 0)).foldl max 0

/-- R168 for record y. A stall of another device counts as reached twice where its device reports it for two members, or
where one remote member is named twice. -/
def yardRule (c : Check) (s : State) (y : Nat) : List Broken :=
  let d := c.new
  let ws := (List.range 64).map (fun i => cfgE d (Obj.yardMembers y) i)
  let deep := 8 < yardDepth d 9 y
  let leaves := s.yardLeaves d y
  let members := (remoteMembers d y).map memberCode
  let bad := ws.any (fun w => (memKind w == 1 && 31 < memNum w) || (memKind w == 2 && !yardUsed d (memNum w)))
    || deep
    || (!deep && (leaves.length != (dedup leaves).length || members.length != (dedup members).length))
    || ws.any (fun w => memKind w == 3 && memNode w == cfgN d Obj.nodeNumber)
    || (!deep && cfgN d (Obj.yardLead y) != 0xFFFF && !(remoteMembers d y).isEmpty)
  let a := Obj.yardMembers y
  brokenIf bad (a, (Ab.inconsistent, a))

/-- The records of R168 and R430 that a set uses. -/
def recordsUsed (d : Store) : List Nat :=
  dedup (((listedAddrs d 0x300001 0x30FF01).filter (fun a => a % 256 == 1)).map (fun a => a / 256 - 0x3000))

/-- Whether node n has an address in NET.PEER_TABLE (R430). -/
def hasAddress (d : Store) (n : Nat) : Bool := (slice (cfgB d Obj.netPeerTable) (16 * n) 16).any (fun b => b != 0)

/-- R430. -/
def partnerRule (c : Check) : List Broken :=
  let d := c.new
  (List.range 64).flatMap (fun j =>
    let y := cfgN d (Obj.jobYard j)
    if y < 256 then
      (yardsBelow d 9 y).flatMap (fun z =>
        (List.range 64).flatMap (fun i =>
          let w := cfgE d (Obj.yardMembers z) i
          brokenIf (memKind w == 3 && !hasAddress d (memNode w)) (Obj.yardMembers z, (Ab.inconsistent, Obj.yardMembers z))))
      ++ brokenIf (cfgN d (Obj.jobRun j) == 1 && cfgN d (Obj.yardLead y) < 4096 && !hasAddress d (cfgN d (Obj.yardLead y)))
          (Obj.yardLead y, (Ab.inconsistent, Obj.yardLead y))
    else [])

/-! #### Starting a job (R177, R182, R183, R204) -/

/-- Rows that a leaf owns, and its halo rows, in group g. -/
def JobImage.rowsIn (i : JobImage) (g : Nat) (cut : List Nat) (gates leaf : Nat) : Nat :=
  let r := i.group g
  (ownedRows r cut (i.ports g gates) leaf).length + (haloRows r cut (i.ports g gates) leaf).length
/-- R183 for one leaf under a cut. -/
def JobImage.storeFits (i : JobImage) (cut : List Nat) (gates leaf : Nat) : Bool :=
  let gs := List.range i.groups.length
  sumNat (gs.map (fun g => grpNeuron (i.group g) * i.rowsIn g cut gates leaf)) ≤ 1048576
    && sumNat (gs.map (fun g => grpScratch (i.group g) * i.rowsIn g cut gates leaf)) ≤ 3145728
    && i.kernels.length ≤ 524288
/-- Loft bytes of the halo slots of a cut: for each layer and each local leaf, two slots of the rows that other leaves pass to
it, at the halo bytes per row of the group that reads them (R183, R189, R225). -/
def JobImage.loftBytes (i : JobImage) (cut : List Nat) (gates : Nat) : Nat :=
  sumNat ((List.range i.layers.length).map (fun src =>
    2 * grpHaloBytes (i.group (i.readerGroup src)) * sumNat ((cut.filter isLocal).map (fun c =>
      (dedup ((i.rowReaders src).flatMap (fun n => i.missingRows cut gates c n src))).length))))

/-- Slots besides j that are active, or that the bale starts as well. -/
def otherJobs (c : Check) (s : State) (j : Nat) : List Nat :=
  (List.range 64).filter (fun m => m != j &&
    (s.slotActive m || (cfgN c.new (Obj.jobRun m) == 1 && cfgN c.old (Obj.jobRun m) == 0)))

/-- Yard and gates of another slot that is active or starts too. -/
def otherYard (c : Check) (s : State) (o : Nat) : Nat := if s.slotActive o then s.jobYard o else cfgN c.new (Obj.jobYard o)
def otherGates (c : Check) (s : State) (o : Nat) : Nat := if s.slotActive o then s.gateMask o else cfgN c.new (Obj.jobGates o)

/-- The first check of R182 that a start of slot j fails: reason and qualifier. The cut with the image's minimum number of
leaves, which R182 does not name, is the yard's first ones in leaf order (log entry 104). -/
def startBad (c : Check) (s : State) (j : Nat) : Option Nat :=
  let d := c.new
  if s.rd (Obj.jobState j) ≠ 2 then some (reject rjNotLoaded (s.rd (Obj.jobState j)))
  else
    match (s.slot j).image with
    | none => some (reject rjNotLoaded 2)
    | some i =>
      let y := cfgN d (Obj.jobYard j)
      let gates := bitsOf 36 (cfgN d (Obj.jobGates j))
      let leaves := if y < 256 then s.yardLeaves d y else []
      let others := otherJobs c s j
      let m := gates.length
      let small := leaves.take (min leaves.length i.minLeaves)
      let active := leaves.filter (fun l => !(isLocal l && bit (s.rd Obj.muckOutOfService) l))
      let loft := i.loftBytes leaves m + sumNat (others.filterMap (fun o => (s.slot o).image.map (fun oi =>
        oi.loftBytes (s.yardLeaves d (otherYard c s o)) (bitsOf 36 (otherGates c s o)).length)))
      match (List.range i.layers.length).find? (fun n => isSpike (i.layer n) && !tickRules (periodOf d) (slOf d) (i.layer n)) with
      | some n => some (reject rjLayer n)
      | none =>
        if m = 0 ∨ leAt i.header 19 1 < m then some (reject rjPortCount m)
        else
          match gates.find? (fun g => leAt i.header 28 2 < cfgN d (Obj.gateWidth g) || leAt i.header 30 2 < cfgN d (Obj.gateHeight g)) with
          | some g => some (reject rjGateSize g)
          | none =>
            match gates.find? (fun g => others.any (fun o => bit (otherGates c s o) g)) with
            | some g => some (reject rjGateTaken g)
            | none =>
              match (leaves.filter isLocal).find? (fun l => others.any (fun o => (s.yardLeaves d (otherYard c s o)).contains l)) with
              | some l => some (reject rjStallTaken l)
              | none =>
                match leaves.find? (fun l => !(i.storeFits leaves m l && (!small.contains l || i.storeFits small m l))) with
                | some l => some (reject rjStoreFit (l % 256))
                | none =>
                  if 16777216 < loft then some (reject rjLoftFit (ceilDiv (loft - 16777216) 1024))
                  else if y < 256 && !(remoteMembers d y).isEmpty && !bit i.features 1 then some (reject rjFeature 1)
                  else if active.isEmpty ∨ active.length < i.minLeaves then some (reject rjLeaves active.length)
                  else if i.outputs.any (fun o => outScope o == 0 && outEntries o < leaves.length) then
                    some (reject rjLeaves leaves.length)
                  else none

/-- R182 for every slot that the bale starts. -/
def startRule (c : Check) (s : State) : List Broken :=
  (List.range 64).flatMap (fun j =>
    if cfgN c.new (Obj.jobRun j) = 1 && cfgN c.old (Obj.jobRun j) = 0 then
      match startBad c s j with
      | some r => [(Obj.jobRun j, (Ab.jobRejected, r))]
      | none => []
    else [])

/-- R205. -/
def stretchRule (c : Check) (s : State) : List Broken :=
  brokenIf (differs c.old c.new Obj.stepStretch &&
    s.activeSlots.any (fun j => match (s.slot j).image with
      | some i => i.layers.any (fun l => isSpike l && !tickRules (periodOf c.new) (slOf c.new) l)
      | none => false))
    (Obj.stepStretch, (Ab.inconsistent, Obj.stepStretch))

/-! #### Paddock and zones (R299 to R306, R322) -/

def paddockRule (c : Check) : List Broken :=
  let d := c.new
  let j := cfgN d Obj.paddockJob
  let y := cfgN d (Obj.jobYard j)
  let key := fun e => cfgE d Obj.projKey e
  let valid := (listedElems d Obj.projKey).filter (fun e => bit (key e) 31)
  let name := fun e => (field (key e) 27 16, key e % 256)
  let box := fun e i => cfgI d 32 Obj.projBox (4 * e + i)
  let ov := fun o => cfgE d Obj.overlapEntries o
  brokenIf (j != 0xFF && (64 ≤ j || 256 ≤ y || cfgN d (Obj.yardLead y) != 0xFFFF))
      (c.inconsistent (if 64 ≤ j then [Obj.paddockJob] else if 256 ≤ y then [Obj.paddockJob, Obj.jobYard j]
        else [Obj.paddockJob, Obj.jobYard j, Obj.yardLead y]))
    ++ brokenIf ((listedElems d Obj.paddockClassMap).any (fun e => 3 < cfgE d Obj.paddockClassMap e && cfgE d Obj.paddockClassMap e != 0xFF))
      (c.inconsistent [Obj.paddockClassMap])
    ++ brokenIf (valid.any (fun e => valid.any (fun f => e != f && name e == name f))) (c.inconsistent [Obj.projKey])
    ++ brokenIf ((dedup ((listedElems d Obj.projBox).map (· / 4))).any (fun e => box e 2 < box e 0 || box e 3 < box e 1))
      (c.inconsistent [Obj.projBox])
    ++ brokenIf ((listedElems d Obj.overlapEntries).any (fun o =>
        let a := ov o % 256
        let b := ov o / 256
        ov o != 0xFFFF && (a == b || !bit (key a) 31 || !bit (key b) 31)))
      (c.inconsistent [Obj.projKey, Obj.overlapEntries])

def zoneRule (c : Check) (z : Nat) : List Broken :=
  let n := cfgN c.new (Obj.zoneCount z) % 65536
  brokenIf (!(n == 0 || within 3 16 n)) (c.inconsistent [Obj.zoneCount z])

/-! #### Troughs (R347) -/

def ringOk (d : Store) (t : Nat) : Bool :=
  let n := cfgE d Obj.troughSizeLog2 t
  let a := cfgE d Obj.troughBase t
  let len := 64 * 2 ^ n
  n == 0 || !within 4 20 n || (a % len == 0
    && (a + len ≤ max 0x380000000 (cfgN d Obj.memProtectedTop) || (0x2000000000 ≤ a && a + len ≤ 0x4000000000)))
def ringRange (d : Store) (t : Nat) : Nat × Nat := (cfgE d Obj.troughBase t, if cfgE d Obj.troughSizeLog2 t = 0 then 0 else 64 * 2 ^ cfgE d Obj.troughSizeLog2 t)
/-- Whether the ring of trough t, in device memory, meets another or a reserved area other than the trough area (R347, R376). -/
def ringMeets (d : Store) (ts : List Nat) (t : Nat) : Bool :=
  let r := ringRange d t
  r.1 < 0x2000000000
    && (ts.any (fun u => u != t && (let q := ringRange d u; rangesMeet r.1 r.2 q.1 q.2)) || rangesMeet r.1 r.2 0 0x18C800000)
/-- The objects that name a trough. -/
def troughNamed (d : Store) (addr e : Nat) : Bool :=
  let t := cfgE d addr e
  t == 0xFFFF || cfgE d Obj.troughSizeLog2 t != 0
def troughRule (c : Check) : List Broken :=
  let d := c.new
  let listed := dedup (listedElems d Obj.troughBase ++ listedElems d Obj.troughSizeLog2)
  let ts := dedup (List.range 256 ++ listed)
  brokenIf (listed.any (fun t => cfgE d Obj.troughSizeLog2 t != 0 && !within 4 20 (cfgE d Obj.troughSizeLog2 t)))
      (c.inconsistent [Obj.troughSizeLog2])
    ++ brokenIf (listed.any (fun t => !ringOk d t)) (c.inconsistent [Obj.troughBase, Obj.troughSizeLog2])
    ++ brokenIf (listed.any (fun t => ringMeets d ts t)) (c.inconsistent [Obj.troughBase, Obj.troughSizeLog2])
    ++ brokenIf ((listedElems d Obj.troughShadow).any (fun t =>
        let a := cfgE d Obj.troughShadow t
        a != 0 && !(a % 8 == 0 && inHostWindow a))) (c.inconsistent [Obj.troughShadow])
    ++ ((listedAddrs d 0x300002 0x30FF02).filter (fun a => a % 256 == 2) ++ [Obj.paddockTrough, Obj.groomTrough, Obj.muckTrough]).flatMap
        (fun a => brokenIf (!troughNamed d a 0) (c.inconsistent [Obj.troughSizeLog2, a]))
    ++ brokenIf ((listedElems d Obj.chanTrough).any (fun e => !troughNamed d Obj.chanTrough e)) (c.inconsistent [Obj.troughSizeLog2, Obj.chanTrough])

/-! #### Time, power, ports and keys -/

def timeRule (c : Check) (s : State) : List Broken :=
  let d := c.new
  brokenIf ((differs c.old d Obj.stepT0Sec || differs c.old d Obj.stepT0Ns)
      && s.now < (cfgN d Obj.stepT0Sec * 1000000000 + cfgN d Obj.stepT0Ns) * nsUnit) (c.inconsistent [Obj.stepT0Sec, Obj.stepT0Ns])
    ++ brokenIf (cfgN d Obj.gsyncDivider * periodOf d < 2 * cfgN d Obj.gsyncWidthUs)
      (c.inconsistent [Obj.stepPeriod, Obj.gsyncDivider, Obj.gsyncWidthUs])
    ++ (List.range 8).flatMap (fun i =>
      brokenIf (cfgN d (Obj.toutMode i) == 2 && cfgN d (Obj.toutPeriodNs i) ≤ cfgN d (Obj.toutWidthNs i))
        (c.inconsistent [Obj.toutMode i, Obj.toutPeriodNs i, Obj.toutWidthNs i]))

def railRule (c : Check) : List Broken :=
  let d := c.new
  let role := fun r => cfgE d Obj.railRole r
  let lo := fun r => cfgE d Obj.railVminMv r % 65536
  let hi := fun r => cfgE d Obj.railVmaxMv r % 65536
  let v := fun r => cfgE d Obj.railVoutMv r
  let rs := [1, 2, 3]
  brokenIf (role 0 != 1 || rs.any (fun r => role r == 1) || rs.any (fun r => rs.any (fun q => r != q && role r != 0 && role r == role q)))
      (c.inconsistent [Obj.railRole])
    ++ brokenIf ([0, 1, 2, 3].any (fun r => role r != 0 && cfgE d Obj.railAddress r == 0)) (c.inconsistent [Obj.railAddress, Obj.railRole])
    ++ brokenIf (lo 0 < 620 || 850 < hi 0 || [0, 1, 2, 3].any (fun r => hi r < lo r)) (c.inconsistent [Obj.railVminMv, Obj.railVmaxMv])
    ++ brokenIf (rs.any (fun r => v r != 0 && (v r < lo r || hi r < v r))) (c.inconsistent [Obj.railVminMv, Obj.railVmaxMv, Obj.railVoutMv])

def otherRule (c : Check) : List Broken :=
  let d := c.new
  brokenIf (cfgN d Obj.supplyBandHi ≤ cfgN d Obj.supplyBandLo) (c.inconsistent [Obj.supplyBandLo, Obj.supplyBandHi])
    ++ brokenIf (cfgN d Obj.biasMax < cfgN d Obj.biasMin) (c.inconsistent [Obj.biasMin, Obj.biasMax])
    ++ brokenIf ([0, 1].any (fun p => cfgE d Obj.portFec p == 2 && cfgE d Obj.portMode p == 1)) (c.inconsistent [Obj.portMode, Obj.portFec])
    ++ (List.range 8).flatMap (fun k =>
      brokenIf (bit (cfgN d Obj.secOpkeyEnable) k && (cfgB d (opkeyAddr k)).isEmpty) (c.inconsistent [Obj.secOpkeyEnable, opkeyAddr k]))

/-- R479 for FAULT.PIN_GRAVE of one block. -/
def pinGraveRule (c : Check) (addr : Nat) : List Broken :=
  let b := addr / 256 - 0x7000
  let v := cfgN c.new addr % 2 ^ 32
  let keep := if b = 72 then [2, 3] else if b = 92 then [1] else if b = 87 then [8, 9] else []
  brokenIf (andNot v (faultGrave b) != 0 || keep.any (fun i => !bit v i)) (addr, (Ab.inconsistent, addr))

/-- Every cross-object rule of check 8 that the set would break. -/
def check8All (c : Check) (s : State) : List Broken :=
  (List.range 18).flatMap (gangRule c) ++ (List.range 36).flatMap (gateRule c) ++ (List.range 36).flatMap (templateRule c)
    ++ (List.range 16).flatMap (chainRule c) ++ (recordsUsed c.new).flatMap (yardRule c s) ++ partnerRule c
    ++ startRule c s ++ stretchRule c s ++ paddockRule c ++ (List.range 64).flatMap (zoneRule c) ++ troughRule c
    ++ timeRule c s ++ railRule c ++ otherRule c
    ++ ((listedAddrs c.new 0x700007 0x705C07).filter (fun a => a % 256 == 7)).flatMap (pinGraveRule c)
def check8 (c : Check) (s : State) : Option Abort := lowestBroken (check8All c s)

end Sys2Proof.Machine
end

