-- ==== Sys2Proof/Machine/BaleOps.lean ====
section
/-!
DEFINITION. Bales: staging and its limits (R46), claims (R53), COMMIT with its checks and its apply step (R48 to R51),
DISCARD (R54), and the loading of ingress-side tables (R108).
-/
namespace Sys2Proof.Machine

/-! ### Owners and bales -/

/-- The code of an owner. -/
def ownerCode : Owner → Nat
  | .mailbox => 0
  | .groom => 1
  | .sieve => 2
  | .boot => 3
  | .session id => 4 + id

def State.bale (s : State) (o : Nat) : Bale := sget Bale.reset s.sdp.bales o
def updSdp (f : Sdp → Sdp) (s : State) : State := { s with sdp := f s.sdp }
def updBale (o : Nat) (f : Bale → Bale) (s : State) : State :=
  updSdp (fun d => { d with bales := supd Bale.reset o f d.bales }) s

/-! ### Pieces of a message or a value (R56, R65) -/

/-- Bytes covered from offset 0 on by parts in ascending order. -/
def coverFrom : Nat → List (Nat × List Byte) → Nat
  | n, [] => n
  | n, (o, b) :: t => if o ≤ n then coverFrom (max n (o + b.length)) t else n
/-- Bytes that parts in ascending order hold from offset n on. -/
def heldFrom : Nat → List (Nat × List Byte) → Nat
  | _, [] => 0
  | n, (o, b) :: t => (max n (o + b.length) - max n o) + heldFrom (max n (o + b.length)) t
def inOrder (parts : List (Nat × List Byte)) : List (Nat × List Byte) := sortBy (fun a b => decide (a.1 ≤ b.1)) parts
def covered (parts : List (Nat × List Byte)) : Nat := coverFrom 0 (inOrder parts)
/-- n bytes with the parts laid over zeros, later parts over earlier ones. -/
def joinParts (n : Nat) (parts : List (Nat × List Byte)) : List Byte :=
  parts.foldl (fun m p => (m.take p.1 ++ p.2 ++ m.drop (p.1 + p.2.length)).take n) (List.replicate n 0)

/-- Whether some part has brought byte i. -/
def Chunks.has (c : Chunks) (i : Nat) : Bool := c.parts.any (fun p => p.1 ≤ i && i < p.1 + p.2.length)
/-- Whether bytes lack (R65). -/
def Chunks.lacks (c : Chunks) : Bool := covered c.parts < c.total
/-- Whether a staged write still lacks bytes. -/
def Staged.lacks (w : Staged) : Bool := match w.chunks with | some c => c.lacks | none => false

/-- Bytes of one value of an object (R36). -/
def valBytes (addr : Nat) (v : Val) : Nat :=
  match v with
  | .bytes b => b.length
  | .num _ => match findObj addr with | .found o => o.ty.size | _ => 0
/-- Value bytes that a staged write holds. -/
def Staged.bytes (w : Staged) : Nat :=
  match w.chunks with
  | some c => heldFrom 0 (inOrder c.parts)
  | none => sumNat (w.vals.map (valBytes w.addr))
def Bale.bytes (b : Bale) : Nat := sumNat (b.staged.map Staged.bytes)
def Bale.addrs (b : Bale) : List Nat := dedup (b.staged.map (·.addr))

/-! ### Claims (R53) -/

def State.claimOf (s : State) (addr : Nat) : Option Nat := (s.sdp.claims.find? (fun c => c.1 == addr)).map (·.2)
def setClaim (addr : Nat) (o : Option Nat) (s : State) : State :=
  updSdp (fun d =>
    let rest := d.claims.filter (fun c => c.1 != addr)
    { d with claims := match o with | some o => rest ++ [(addr, o)] | none => rest }) s

/-- The bale that has held a fresh staged value for the address longest. -/
def State.claimant (s : State) (addr : Nat) : Option Nat :=
  let held := s.sdp.bales.flatMap (fun b =>
    (b.2.staged.filter (fun w => w.addr == addr && !w.stale)).map (fun w => (b.1, w.order)))
  (minBy (fun h => (h.2 : Int)) held).map (·.1)
/-- A claim ends without an apply and passes on. -/
def passClaim (addr : Nat) (s : State) : State := setClaim addr (s.claimant addr) s

/-- A claim ends because the write was applied: the staged values of other bales turn stale. -/
def endClaim (addr owner : Nat) (s : State) : State :=
  let s := setClaim addr none s
  updSdp (fun d => { d with bales := d.bales.map (fun b =>
    if b.1 = owner then b
    else (b.1, { b.2 with staged := b.2.staged.map (fun w => if w.addr = addr then { w with stale := true } else w) })) }) s

/-! ### Staging (R46) -/

def isArray (addr : Nat) : Bool := match findObj addr with | .found o => o.arr | _ => false
/-- Whether a new write takes the place of a staged one: the whole object, or the same range of an ARRAY. -/
def sameRange (a b : Staged) : Bool :=
  a.addr == b.addr && (!isArray a.addr
    || (a.first == b.first && a.vals.length == b.vals.length && a.chunks.isSome == b.chunks.isSome))

/-- Stage a write in the bale of owner o, or refuse it with BUSY. -/
def stage (o : Nat) (w : Staged) (s : State) : Nat × State :=
  let b := s.bale o
  let rest := b.staged.filter (fun x => !sameRange x w)
  if 4096 ≤ rest.length ∨ 67108864 < sumNat (rest.map Staged.bytes) + w.bytes then (Ab.busy, s)
  else
    let since := match b.staged.find? (fun x => x.addr == w.addr && !x.stale) with
      | some x => x.order
      | none => s.sdp.orders
    let fresh := rest.map (fun x => if x.addr = w.addr then { x with stale := false, order := since } else x)
    let s := updBale o (fun b => { b with staged := fresh ++ [{ w with order := since, stale := false }] }) s
    let s := updSdp (fun d => { d with orders := d.orders + 1 }) s
    (Ab.ok, if (s.claimOf w.addr).isNone then setClaim w.addr (some o) s else s)

/-- Empty the bale of owner o and let go of its claims (R54). -/
def discardBale (o : Nat) (s : State) : State :=
  let addrs := (s.bale o).addrs
  let s := updBale o (fun b => { b with staged := [] }) s
  let s := updSdp (fun d => { d with assemblies := d.assemblies.filter (fun a => a.1 != o) }) s
  addrs.foldl (fun s a =>
    if s.claimOf a = some o && !s.sdp.waiting.any (fun w => w.owner == o && w.writes.any (fun x => x.addr == a))
    then passClaim a s else s) s

/-! ### The checks of COMMIT (R48) -/

/-- Who commits: whether over the mailbox, and the key slot that signed the COMMIT. -/
structure Committer where
  owner : Nat
  signer : Option Nat
  deriving DecidableEq, Repr

/-- Check 2: R74 and R507. -/
def check2 (c : Check) (who : Committer) : Option Abort :=
  let keys := (List.range 8).any (fun k => differs c.old c.new (opkeyAddr k)) || differs c.old c.new Obj.secOpkeyEnable
  let bySlot0 := who.signer == some 0 && (operatorKey c.old 0).isSome
  if (keys && !(who.owner == ownerCode .mailbox || who.owner == ownerCode .boot || bySlot0))
      || (cfgN c.old Obj.mbxRequireSigned == 1 && cfgN c.new Obj.mbxRequireSigned == 0 && who.signer.isNone)
  then some (Ab.notAuthorised, 0) else none

/-- Check 3: claims of other bales, and stale values. -/
def check3 (o : Nat) (s : State) : Option Abort :=
  lowestBroken (((s.bale o).staged.filter (fun w =>
    w.stale || (match s.claimOf w.addr with | some p => p != o | none => false))).map (fun w => (w.addr, (Ab.baleConflict, w.addr))))

/-- Check 5: no PAIR commit while a GRAVE sticky bit is set. -/
def check5 (o : Nat) (s : State) : Option Abort :=
  let pair := (s.bale o).staged.any (fun w => match findObj w.addr with | .found r => r.ty.isPair | _ => false)
  if pair then s.graveBlock.map (fun b => (Ab.graveFault, b)) else none

/-- Check 6: every DOMAIN write is complete. The model's choice (log entry 99): an incomplete WRITE_BLOCK of an ARRAY, of which
R48 does not speak, is refused here as well. -/
def check6 (o : Nat) (s : State) : Option Abort :=
  lowestBroken (((s.bale o).staged.filter Staged.lacks).map (fun w => (w.addr, (Ab.lengthMismatch, w.addr))))

def State.checkOf (s : State) (o : Nat) : Check :=
  let old := s.waitingSet
  ⟨old, overlay old (s.bale o).staged, (s.bale o).addrs⟩

/-- The first check that fails. The groom and the sieve skip checks 2 and 5 (R127, R164). -/
def commitCheck (who : Committer) (s : State) : Option Abort :=
  let o := who.owner
  let inner := o == ownerCode .groom || o == ownerCode .sieve
  let c := s.checkOf o
  if (s.bale o).staged.isEmpty then some (Ab.baleEmpty, 0)
  else
    (if inner then none else check2 c who) <|> check3 o s <|> check4 c s <|> (if inner then none else check5 o s)
      <|> check6 o s <|> check7 c <|> check8 c s

/-! ### The apply step (R51) -/

/-- The tables of a gate that switch together: rebasing, hot pixels, region map, flicker windows, rate taps, refractory. -/
def tableGroup (addr : Nat) : Nat :=
  let sub := addr % 256
  tableGate addr * 8 +
    (if addr / 256 < 0x2124 then 5 else if sub ≤ 5 then 0 else if sub = 6 then 1 else if sub = 7 then 2 else if sub ≤ 12 then 3 else 4)

def tableGroups (addrs : List Nat) : List Nat := dedup ((addrs.filter ingressTable).map tableGroup)

/-- T0 and P of a set, in µs. -/
def t0Of (d : Store) : Nat := cfgN d Obj.stepT0Sec * 1000000 + cfgN d Obj.stepT0Ns / 1000
def sameSchedule (d e : Store) : Bool :=
  cfgN d Obj.stepPeriod == cfgN e Obj.stepPeriod && cfgN d Obj.stepT0Sec == cfgN e Obj.stepT0Sec && cfgN d Obj.stepT0Ns == cfgN e Obj.stepT0Ns

/-- Loads of tables in the groups that some gate has not switched to, and that it need not have switched to 100 µs from now
(R109). -/
def State.loadsOf (s : State) (groups : List Nat) : List TableLoad :=
  s.gates.flatMap (fun g => g.2.loads.filter (fun l =>
    s.now + 100 * 1000 * nsUnit < l.limitUs * (1000 * nsUnit) && l.vals.any (fun v => groups.contains (tableGroup (v.1 / 2 ^ 24)))))
/-- Of these, the loads that no gate has switched to by then. Whether a gate will have is not known yet, so each is left open
(log entry 100). -/
def State.lateLoads (s : State) (groups : List Nat) : List TableLoad :=
  let ls := s.loadsOf groups
  ((List.range ls.length).zip ls).filterMap (fun p => if bit s.free p.1 then some p.2 else none)

/-- The boundary (µs) at which the newest waiting change of the step schedule takes effect. -/
def State.scheduleChangeUs (s : State) : Option Nat :=
  (s.sdp.waiting.foldl (fun (p : Store × Option Nat) w =>
    let d := overlay p.1 w.writes
    (d, if sameSchedule p.1 d then p.2 else some w.boundaryUs)) (s.dict, none)).2

/-- The apply step of a bale of n value bytes that changes `groups` of tables, with its boundary in µs. -/
def State.applyStepFor (s : State) (n : Nat) (groups : List Nat) : Nat × Nat :=
  let d := s.waitingSet
  let t0 := t0Of d
  let p := max 1 (periodOf d)
  let slack := 100 * 1000 * nsUnit + n * 1000 * 2 ^ 22
  let unit := 1000 * nsUnit
  let earliest := (s.lateLoads groups).foldl (fun m l => max m (l.limitUs * unit + slack)) (s.now + slack)
  let last := s.sdp.waiting.foldl (fun m w => max m w.boundaryUs) 0
  let after := match s.scheduleChangeUs with
    | none => last
    | some b => max last (b + 1)
  let us := max (ceilDiv earliest unit) after
  let j := ceilDiv (us - t0) p
  (j, t0 + j * p)

/-! ### Loading of tables (R108, R109) -/

/-- The ingress-side values of a list of writes that belong to gate g and change its tables. -/
def tableVals (old : Store) (g : Nat) (ws : List Staged) : List (Nat × Val) :=
  ws.flatMap (fun w =>
    if ingressTable w.addr && tableGate w.addr == g then
      ((List.range w.vals.length).zip w.vals).filterMap (fun p =>
        if dget old w.addr (w.first + p.1) != p.2 then some (dkey w.addr (w.first + p.1), p.2) else none)
    else [])

def loadAllTables (old : Store) (j boundaryUs sl : Nat) (ws : List Staged) (s : State) : State :=
  (dedup ((ws.filter (fun w => ingressTable w.addr)).map (fun w => tableGate w.addr))).foldl
    (fun s g => loadTables g j boundaryUs sl (tableVals old g ws) s) s

/-! ### COMMIT -/

/-- The slots that an accepted bale starts, with the yard, gates and leaves of the run (R182, the slot state machine). -/
def startSlots (old : Store) (j boundaryUs : Nat) (ws : List Staged) (s : State) : State :=
  (List.range 64).foldl (fun s n =>
    if ws.any (fun w => w.addr == Obj.jobRun n && w.vals == [.num 1]) && cfgN old (Obj.jobRun n) == 0
        && s.rd (Obj.jobState n) == 2 then
      let d := s.waitingSet
      let y := cfgN d (Obj.jobYard n)
      let leaves := s.yardLeaves d y
      let s := s |> updSlot n (fun sl => { sl with startAt := j, yard := y, gates := cfgN d (Obj.jobGates n), leaves := leaves })
        |> setJobState n 4
      loadRegions n j boundaryUs (leaves.filter (fun l => !(bit (s.rd Obj.muckOutOfService) l && isLocal l))) s
    else s) s

/-- An accepted bale becomes committed and waiting (R50). -/
def acceptBale (o : Nat) (s : State) : Nat × State :=
  let b := s.bale o
  let old := s.waitingSet
  let new := overlay old b.staged
  let groups := tableGroups (b.addrs.filter (differs old new))
  let (j, us) := s.applyStepFor b.bytes groups
  let s := if (s.loadsOf groups).isEmpty then s else drawn s
  let s := updBale o (fun b => { b with staged := [], applyStep := j }) s
  let s := updSdp (fun d => { d with waiting := d.waiting ++ [⟨o, j, us, b.staged⟩] }) s
  let s := loadAllTables old j us (slOf new) b.staged s
  (j, startSlots old j us b.staged s)

/-- COMMIT: what the response carries, the apply step, and the state (R48, R50). -/
def commitBale (who : Committer) (s : State) : Abort × Nat × State :=
  let s := checkPair 32 Obj.stepPeriod 0 s
  let o := who.owner
  let note := fun (a : Abort) (s : State) => updBale o (fun b => { b with lastAbort := a.1, lastDetail := a.2 }) s
  match commitCheck who s with
  | some a =>
    let s := note a s
    let s := if a.1 = Ab.jobRejected then
        match (check8All (s.checkOf o) s).find? (fun b => b.2 == a) with
        | some b => wr (Obj.jobRejectDetail (b.1 / 256 - 0x3200)) a.2 s
        | none => s
      else s
    (a, 0, s)
  | none =>
    let (j, s) := acceptBale o s
    (noAbort, j, note noAbort s)

/-! ### A bale whose pair fails at its boundary (R78) -/

/-- The PAIR objects of a waiting bale of which a value fails its check, in the order of their staging. -/
def badPairs (w : WaitingBale) : List Nat :=
  dedup ((w.writes.filter (fun x => match findObj x.addr with
    | .found r => r.ty.isPair && x.vals.any (fun v => !pairOk r.ty.width v.toNat)
    | _ => false)).map (·.addr))
/-- The object that BALE.LAST_DETAIL names. Where several fail, R78 does not say which: the first in the order of staging (the
model's choice, log entry 99). -/
def badPair (w : WaitingBale) : Option Nat := (badPairs w).head?

/-- Forget what COMMIT loaded for a bale: the tables of its writes, and the slots it was to start. -/
def unload (w : WaitingBale) (s : State) : State :=
  let mine := fun (l : TableLoad) (v : Nat × Val) => l.step == w.step && w.writes.any (fun x => x.addr == v.1 / 2 ^ 24)
  let s := { s with gates := s.gates.map (fun g => (g.1, { g.2 with
    loads := g.2.loads.filterMap (fun l =>
      let vs := l.vals.filter (fun v => !mine l v)
      if vs.isEmpty then none else some { l with vals := vs }) })) }
  (List.range 64).foldl (fun s n =>
    if w.writes.any (fun x => x.addr == Obj.jobRun n && x.vals == [.num 1]) && s.rd (Obj.jobState n) == 4
        && (s.slot n).startAt == w.step then
      s |> dropRegions n w.step |> setJobState n 2 |> updSlot n (fun sl => { sl with startAt := 0, leaves := [] })
    else s) s

/-- Drop a waiting bale as a whole. -/
def dropBale (w : WaitingBale) (addr : Nat) (s : State) : State :=
  let s := updSdp (fun d => { d with waiting := d.waiting.erase w }) s
  let s := (badPairs w).foldl (fun s a => detect dictBlock (if isHoldPair a then Src.dictPairStoreHold else Src.dictPairStore) s) s
  let s := unload w s
  let s := if w.owner = ownerCode .boot then { s with boot := { s.boot with blockPending := false } } else s
  let s := (dedup (w.writes.map (·.addr))).foldl (fun s a => if s.claimOf a = some w.owner then passClaim a s else s) s
  updBale w.owner (fun b => { b with lastAbort := Ab.pairMismatch, lastDetail := addr }) s

end Sys2Proof.Machine
end

