-- ==== Sys2Proof/Machine/GroomOps.lean ====
section
/-!
DEFINITION. The groom (R118 to R146): cycles, the fits and decisions of its four categories, epochs, accepted proposals
and bias scripts.
-/
namespace Sys2Proof.Machine

/-! ### Floor rotation (R303) -/

/-- Sum of the series Σ ±θ^m / m! over every second m from `m`, with θ = k·10⁻⁶, scaled by 2¹⁰⁰. -/
def trigSeries (k2 : Int) : Nat → Nat → Int → Int
  | 0, _, _ => 0
  | fuel + 1, m, t => t + trigSeries k2 fuel (m + 2) (-(t * k2) / ((10 ^ 12 * (m + 1) * (m + 2) : Nat) : Int))
/-- cos and sin of k µrad, in 2⁻³⁰ to the nearest integer. -/
def cosQ30 (k : Int) : Int := rshr (trigSeries (k * k) 14 0 (2 ^ 100)) 70
def sinQ30 (k : Int) : Int := rshr (trigSeries (k * k) 14 1 (k * 2 ^ 100 / 1000000)) 70
/-- A floor position under a correction (R303). -/
def corrected (dx dy dθ x y : Int) : Int × Int :=
  let c := cosQ30 dθ
  let s := sinQ30 dθ
  (roundAway (c * x - s * y) (2 ^ 30) + dx, roundAway (s * x + c * y) (2 ^ 30) + dy)

/-! ### Cycles -/

abbrev catHot : Nat := 1
abbrev catTime : Nat := 2
abbrev catAlign : Nat := 3
abbrev catBias : Nat := 4

def updGroom (f : Groom → Groom) (s : State) : State := { s with groom := f s.groom }
/-- Mode of a category for gate g; BIAS of a safety-designated gate acts as PROPOSE (R123, R125). -/
def State.groomMode (s : State) (cat g : Nat) : Nat :=
  let m := s.rdE (if cat = 1 then Obj.groomModeHot else if cat = 2 then Obj.groomModeTime
    else if cat = 3 then Obj.groomModeAlign else Obj.groomModeBias) g
  if cat = catBias && m == 2 && s.safetyBit g then 1 else m
def State.groomLocked (s : State) (cat g : Nat) : Bool :=
  bit (s.rd (if cat = 1 then Obj.groomLockHot else if cat = 2 then Obj.groomLockTime
    else if cat = 3 then Obj.groomLockAlign else Obj.groomLockBias)) g
/-- Whether a groom epoch is waiting (R129). -/
def State.epochWaits (s : State) : Bool := s.sdp.waiting.any (fun w => w.owner == ownerCode .groom)

/-- The category and gate of an object and element that the groom writes (R122). -/
def groomObject (d : Store) (node addr e : Nat) : Option (Nat × Nat) :=
  let i := addr / 256
  let sub := addr % 256
  if 0x2200 ≤ i && i < 0x2224 && sub == 6 then some (catHot, i - 0x2200)
  else if 0x2200 ≤ i && i < 0x2224 && 1 ≤ sub && sub ≤ 4 then some (catTime, i - 0x2200)
  else if addr = Obj.alignDx ∨ addr = Obj.alignDy ∨ addr = Obj.alignDtheta then
    let k := cfgE d Obj.projKey e
    if bit k 31 && field k 27 16 == node then some (catAlign, k % 256) else none
  else if addr = Obj.biasPos ∨ addr = Obj.biasNeg then some (catBias, e)
  else none

/-- Newest apply step of a category's objects of gate g (R126). -/
def State.baseStep (s : State) (cat g : Nat) : Nat :=
  ((s.groom.lastApply.find? (fun a => a.1 == cat && a.2.1 == g)).map (·.2.2)).getD 0
/-- A bale has applied at step j: the categories whose objects it wrote. -/
def noteApply (j : Nat) (ws : List Staged) (s : State) : State :=
  ws.foldl (fun s w => (List.range w.vals.length).foldl (fun s i =>
    match groomObject s.dict (s.rd Obj.nodeNumber) w.addr (w.first + i) with
    | some (c, g) => updGroom (fun gr => { gr with
        lastApply := (c, g, j) :: gr.lastApply.filter (fun a => !(a.1 == c && a.2.1 == g)) }) s
    | none => s) s) s

/-- A quotient whose rounding the manual does not state. -/
def openQuot (n d : Nat) : Nat := if n % d = 0 then n / d else n / d + boolNat (Config.roundBit n d)
/-- The root of n / d, whose rounding the manual does not state. -/
def openRoot (n d : Nat) : Nat :=
  let r := isqrtBig (n / d)
  if r * r * d = n then r else r + boolNat (Config.rootUp n d)

/-- A new draft of the cycle. Its number is given when it is written (R145). -/
def draft (g cat disp flags : Nat) (writes : List Staged) (payload : List Byte) (s : State) : State :=
  updGroom (fun gr => { gr with drafts := gr.drafts ++ [⟨0, g, cat, disp, flags, s.baseStep cat g, writes, payload, [], []⟩] }) s

/-- A change that the category's mode lets the groom propose: AUTO drafts ask to be applied (R123, R124). -/
def propose (g cat flags : Nat) (writes : List Staged) (payload : List Byte) (s : State) : State :=
  if s.groomLocked cat g then s else draft g cat (if s.groomMode cat g = 2 then 1 else 0) flags writes payload s

def stagedNum (addr e n : Nat) : Staged := ⟨addr, e, [.num n], none, 0, false⟩

/-! ### TIME (R131 to R134) -/

/-- The sums of a fit: markers, newest first, as offsets from the newest (µs, ns). -/
structure TimeFit where
  n : Nat
  sN : Int
  eN : Int
  num : Int                 -- n Σxy − Σx Σy
  den : Int                 -- n Σxx − (Σx)²
  sx : Int
  sy : Int
  syy : Int
  deriving DecidableEq, Repr

def timeFit (ms : List GroomMarker) : TimeFit :=
  let top := ms.headD ⟨0, 0, 0⟩
  let new := ms.foldl (fun a m => if a.s < m.s then m else a) top
  let xs := ms.map (fun m => (m.s - new.s, (m.edgeNs : Int) - (new.edgeNs : Int)))
  let n : Int := ms.length
  let sx := sumInt (xs.map (·.1))
  let sy := sumInt (xs.map (·.2))
  let sxx := sumInt (xs.map (fun p => p.1 * p.1))
  let sxy := sumInt (xs.map (fun p => p.1 * p.2))
  ⟨ms.length, new.s, new.edgeNs, n * sxy - sx * sy, n * sxx - sx * sx, sx, sy, sumInt (xs.map (fun p => p.2 * p.2))⟩

/-- α in 2⁻¹⁶ µs, and the drift in 2⁻⁴⁰. -/
def TimeFit.alpha (f : TimeFit) : Int :=
  roundUp ((f.eN * f.n * f.den + (f.sy * f.den - f.num * f.sx)) * 65536) (1000 * f.n * f.den.toNat)
def TimeFit.drift (f : TimeFit) : Int := roundUp ((f.num - 1000 * f.den) * 2 ^ 40) (1000 * f.den.toNat)
/-- The RMS residual of the fit in ns. -/
def TimeFit.rms (f : TimeFit) : Nat :=
  let sse := (f.n * f.syy - f.sy * f.sy) * f.den - f.num * f.num
  openRoot sse.toNat (f.n * f.n * f.den.toNat)

/-- The candidate: SENSOR_REF, time in 2⁻¹⁶ µs, drift; and whether it was clipped. -/
abbrev TimeTable := Int × Int × Int

/-- Rebase with a candidate table; none where R92 finds it out of range. -/
def rebaseWith (t : TimeTable) (us : Int) : Option Int :=
  let δ := us - t.1
  let p := t.2.2 * δ
  if δ ≤ -(2 ^ 38) ∨ 2 ^ 38 ≤ δ ∨ p < -(2 ^ 71) ∨ 2 ^ 71 ≤ p then none else some (t.2.1 + δ * 65536 + p / (2 ^ 24 : Nat))

/-- The table in force for gate g. -/
def State.timeTable (s : State) (g : Nat) : TimeTable :=
  (s.rd (Obj.rebaseSensorRef g), s.rd (Obj.rebaseDeviceRef g) * 65536 + s.rd (Obj.rebaseDeviceRefFrac g), s.rdI 32 (Obj.rebaseDrift g) 0)

/-- The limits of R133: the candidate held near the table in force. -/
def clipTime (old : TimeTable) (α drift : Int) (sN : Int) (stepNs stepDrift : Nat) : TimeTable × Bool :=
  let was := (rebaseWith old sN).getD α
  let j := was - α
  let lim : Int := roundUp (stepNs * 65536) 1000
  let farJ := (stepNs : Int) * 65536 < (j.natAbs : Int) * 1000
  let α' := if farJ then (if 0 < j then was - lim else was + lim) else α
  let dd := drift - old.2.2
  let farD := (stepDrift : Int) < dd.natAbs
  let drift' := if farD then (if 0 < dd then old.2.2 + stepDrift else old.2.2 - stepDrift) else drift
  ((sN, α', drift'), farJ || farD)

/-- Whether a candidate is too close to the table in force to be written (R133). -/
def timeSame (old : TimeTable) (α drift sN : Int) : Bool :=
  match rebaseWith old sN with
  | some was => (was - α).natAbs * 1000 < 64 * 65536 && (drift - old.2.2).natAbs < 1100
  | none => false

/-- R134: at most 1 % of the newest 4,096 quarantined records would fall later than now. -/
def State.quarantineAgrees (s : State) (g : Nat) (t : TimeTable) : Bool :=
  let rs := (s.gate g).quarantine.take 4096
  let late := rs.filter (fun r =>
    let δ := r.sensorUs - t.1
    (s.now : Int) < (t.2.1 + δ * 65536 + t.2.2 * δ / (2 ^ 24 : Nat)) * 1000 * 65536)
  late.length * 100 ≤ rs.length

/-- Consecutive clipped proposals (R133). -/
def noteClip (g : Nat) (c : Bool) (s : State) : State :=
  let n := if c then sget 0 s.groom.clipped g + 1 else 0
  let s := updGroom (fun gr => { gr with clipped := sset 0 g (if n = 3 then 0 else n) gr.clipped }) s
  detectIf (n == 3) groomBlock Src.groomTimeLimit s

/-- Write the TIME proposal of a candidate. -/
def proposeTime (g : Nat) (f : TimeFit) (t : TimeTable) (clip : Bool) (s : State) : State :=
  let sr := ofSigned 64 t.1
  let dr := ofSigned 64 (t.2.1 / 65536)
  let fr := ofSigned 16 t.2.1
  let d := ofSigned 32 (satInt 32 t.2.2)
  let writes := [stagedNum (Obj.rebaseSensorRef g) 0 sr, stagedNum (Obj.rebaseDeviceRef g) 0 dr,
    stagedNum (Obj.rebaseDeviceRefFrac g) 0 fr, stagedNum (Obj.rebaseDrift g) 0 d]
  let payload := leBytes 8 sr ++ leBytes 8 dr ++ leBytes 4 d ++ leBytes 2 fr ++ leBytes 2 (satTo 16 f.rms)
  s |> noteClip g (clip && !s.groomLocked catTime g) |> propose g catTime (boolNat clip) writes payload

/-- The second of the cycle's start boundary, and the markers of the window of R118 and R131. -/
def State.timeMarkers (s : State) (g bcUs : Nat) : List GroomMarker :=
  let sb := bcUs / 1000000
  (sget [] s.groom.markers g).filter (fun m => m.second ≤ sb && sb < m.second + s.rd Obj.timeWindow)

def estimateTime (bcUs g : Nat) (s : State) : State :=
  let ms := s.timeMarkers g bcUs
  if ms.length < s.rd Obj.timeMinMarkers then noteClip g false s
  else
    let f := timeFit ms
    if f.den ≤ 0 then noteClip g false s
    else
      let s := s |> wrE Obj.timeRms g (satTo 32 f.rms) |> wrE Obj.timeMarkersUsed g (satTo 16 f.n)
      let old := s.timeTable g
      if s.rd (Obj.rebaseValid g) = 0 || timeSame old f.alpha f.drift f.sN then noteClip g false s
      else if s.gateState g = 3 then
        let (t, clip) := clipTime old f.alpha f.drift f.sN (s.rd Obj.timeOffsetStep) (s.rd Obj.timeDriftStep)
        proposeTime g f t clip s
      else
        let t : TimeTable := (f.sN, f.alpha, f.drift)
        if s.quarantineAgrees g t then proposeTime g f t false s else noteClip g false s

/-! ### HOT (R135 to R137) -/

/-- Samples of gate g in the cycle that has ended: pixel → count. -/
def State.pixelCounts (s : State) (g : Nat) (fromUs toUs : Int) : Sparse Nat :=
  (s.groom.samples.filter (fun p => p.1 == g && fromUs ≤ p.2.2.2 && p.2.2.2 < toUs)).foldl
    (fun m p => sset 0 p.2.1 (min 65535 (sget 0 m p.2.1 + 1)) m) []
/-- The tile of a pixel number y·2048 + x. -/
def pixelTile (p : Nat) : Nat := tileOf (p % 2048) (p / 2048)
def tileTotals (m : Sparse Nat) : Sparse Nat := m.foldl (fun t p => supd 0 (pixelTile p.1) (· + p.2) t) []

/-- The tiles of gate g, as a mask, that a flicker window that is on selects under a set of settings (R102). -/
def flickerTilesOn (d : Store) (g : Nat) : Nat :=
  (List.range 4).foldl (fun m w =>
    if cfgE d (Obj.flickerPeriod g) w = 0 then m
    else m ||| leNat ((List.range 32).flatMap (fun i => leBytes 4 (cfgE d (Obj.flickerTiles g) (w * 32 + i))))) 0
/-- A bale has applied that writes flicker windows: those that were on before it count for the cycle too (R136, R141). -/
def noteFlicker (old : Store) (ws : List Staged) (s : State) : State :=
  (dedup ((ws.map (fun w => w.addr)).filterMap (fun a =>
    if 0x2200 ≤ a / 256 && a / 256 < 0x2224 && 8 ≤ a % 256 && a % 256 ≤ 0xC then some (a / 256 - 0x2200) else none))).foldl
      (fun s g => updGroom (fun gr => { gr with flicked := supd 0 g (fun m => m ||| flickerTilesOn old g) gr.flicked }) s) s
/-- Whether a flicker window of gate g that was on during the cycle selects a tile (R136). -/
def State.tileFlickers (s : State) (g tile : Nat) : Bool :=
  bit (sget 0 s.groom.flicked g) tile
    || (List.range 4).any (fun w =>
      s.rdE (Obj.flickerPeriod g) w != 0 && bit (s.rdE (Obj.flickerTiles g) (w * 32 + tile / 32)) (tile % 32))
def maskBit (m : List Byte) (p : Nat) : Bool := bit ((m.getD (p / 8) 0).toNat) (p % 8)
/-- A mask with the bits of some pixels set and of others cleared. -/
def maskWith (m : List Byte) (on off : List Nat) : List Byte :=
  let base := padTo 524288 m
  let put := fun (b : List Byte) (p : Nat) (v : Bool) =>
    setAt b (p / 8) (BitVec.ofNat 8 (if v then setBit ((b.getD (p / 8) 0).toNat) (p % 8) else clrBit ((b.getD (p / 8) 0).toNat) (p % 8)))
  off.foldl (fun b p => put b p false) (on.foldl (fun b p => put b p true) base)

/-- Pixels that are candidates in this cycle for masking, and for release. -/
def State.hotNow (s : State) (g : Nat) (m : Sparse Nat) : List (Nat × Nat) × List (Nat × Nat) :=
  let tiles := tileTotals m
  let mean := fun p => sget 0 tiles (pixelTile p)
  let free := fun p => !s.tileFlickers g (pixelTile p)
  let mask := (dget s.dict (Obj.hotMask g) 0).toBytes
  let F := s.rd Obj.hotFactor
  -- a pixel without samples can be a candidate only where HOT.MIN_RATE is 0
  let all := if s.rd Obj.hotMinRate = 0 then
      (List.range (s.rd (Obj.gateHeight g))).flatMap (fun y => (List.range (s.rd (Obj.gateWidth g))).map (fun x =>
        (y * 2048 + x, sget 0 m (y * 2048 + x))))
    else m
  let hot := all.filter (fun p => free p.1 && !maskBit mask p.1 && F * mean p.1 ≤ p.2 * 4096
    && s.rd Obj.hotMinRate * s.rd Obj.groomPeriod ≤ p.2 * 2 ^ s.rd Obj.groomSampleShift)
  let own := sget [] s.groom.ownBits g
  let cool := (own.filter free).map (fun p => (p, sget 0 m p))
  (hot, cool.filter (fun p => 4 * 4096 * p.2 < F * mean p.1))

/-- Runs of consecutive cycles, for the pixels that are candidates now. -/
def bumpRuns (old : Sparse Nat) (now : List (Nat × Nat)) : Sparse Nat :=
  now.foldl (fun m p => sput p.1 (sget 0 old p.1 + 1) m) []

/-- The mask of a HOT change: the bits in force that the groom did not set, and its own bits with the change (R137). -/
def State.hotMaskWith (s : State) (g : Nat) (added released : List Nat) : List Byte :=
  maskWith (dget s.dict (Obj.hotMask g) 0).toBytes (sget [] s.groom.ownBits g ++ added) released
def State.hotWrites (s : State) (g : Nat) (added released : List Nat) : List Staged :=
  [⟨Obj.hotMask g, 0, [.bytes (s.hotMaskWith g added released)], none, 0, false⟩]
/-- GROOM.HOT_PENDING_n shows the proposed mask. -/
def pendMask (g : Nat) (added released : List Nat) (s : State) : State :=
  wrB (Obj.groomHotPending g) (s.hotMaskWith g added released) s

def estimateHot (g : Nat) (fromUs toUs : Int) (s : State) : State :=
  let m := s.pixelCounts g fromUs toUs
  let (hot, cool) := s.hotNow g m
  let hr := bumpRuns (sget [] s.groom.hotRuns g) hot
  let cr := bumpRuns (sget [] s.groom.coolRuns g) cool
  let s := updGroom (fun gr => { gr with hotRuns := sset [] g hr gr.hotRuns, coolRuns := sset [] g cr gr.coolRuns }) s
  let add := sortBy (fun a b => b.2 ≤ a.2) (hot.filter (fun p => s.rd Obj.hotPersist ≤ sget 0 hr p.1))
  let rel := sortBy (fun a b => a.2 ≤ b.2) (cool.filter (fun p => 3 ≤ sget 0 cr p.1))
  let own := sget [] s.groom.ownBits g
  let lim := s.rd Obj.hotMaxChange
  let room := s.rd Obj.hotMaxMasked - own.length
  let added := (add.take (min lim room)).map (·.1)
  let released := (rel.take (lim - added.length)).map (·.1)
  let clip := added.length < add.length || released.length < rel.length
  let after := own.length + added.length - released.length
  if added.isEmpty && released.isEmpty then s
  else if s.groomLocked catHot g then s
  else
    let s := detectIf (s.rd Obj.hotMaxMasked ≤ own.length + added.length) groomBlock Src.groomHotLimit s
    s |> pendMask g added released |> propose g catHot (boolNat clip) (s.hotWrites g added released)
          (leBytes 4 added.length ++ leBytes 4 released.length ++ leBytes 4 after)
      |> updGroom (fun gr => { gr with drafts := gr.drafts.map (fun p =>
          if p.gate = g ∧ p.category = catHot then { p with added := added, released := released } else p) })

/-- The groom's own bits after a mask that it wrote has applied (R137). -/
def ownAfter (own : List Nat) (old new : List Byte) : List Nat :=
  own.filter (maskBit new) ++ ((List.range (8 * new.length)).filter (fun p => maskBit new p && !maskBit old p && !own.contains p))

/-- A bale has applied that writes hot-pixel masks: GROOM.HOT_COUNT shows the groom's bits that are in force. -/
def recountHot (ws : List Staged) (s : State) : State :=
  (List.range 36).foldl (fun s g =>
    if ws.any (fun w => w.addr == Obj.hotMask g) then
      wrE Obj.groomHotCount g ((sget [] s.groom.ownBits g).filter (maskBit (dget s.dict (Obj.hotMask g) 0).toBytes)).length s
    else s) s

/-! ### ALIGN (R138 to R140) -/

/-- A partner slot is freed when its window, which ends with second sb, holds no co-observation; a bucket older than the 3,600 of
a slot is used again (R118). -/
def freeSlots (sb w : Nat) (l : List CoObs) : List CoObs :=
  l.filter (fun c => sb < c.second + 3600 && l.any (fun d => d.a == c.a && d.b == c.b && sb < d.second + w))
def pruneCoObs (sb : Nat) (s : State) : State :=
  if s.groom.coObs.isEmpty then s else updGroom (fun gr => { gr with coObs := freeSlots sb (s.rd Obj.alignWindow) gr.coObs }) s

/-- Co-observations of gate a that are kept: each names the gate that keeps it first (R118). -/
def keepCoObs (o : CoObs) (s : State) : State :=
  let s := pruneCoObs o.second s
  let partners := dedup ((s.groom.coObs.filter (fun c => c.a == o.a)).map (·.b))
  if partners.contains o.b || partners.length < 8 then updGroom (fun gr => { gr with coObs := o :: gr.coObs }) s
  else addE 32 Obj.alignPairsUnkept o.a 1 s
/-- A co-observation reaches the groom, and is kept for both gates. -/
def takeCoObs (o : CoObs) (s : State) : State :=
  if s.isOn 10 then s |> keepCoObs o |> keepCoObs ⟨o.b, o.a, o.bx, o.by', o.ax, o.ay, o.second⟩ else s

def State.windowCoObs (s : State) (a bcUs : Nat) (p : Nat → Bool) : List CoObs :=
  let sb := bcUs / 1000000
  s.groom.coObs.filter (fun c => c.a == a && p c.b && c.second ≤ sb && sb < c.second + s.rd Obj.alignWindow)

/-- The entries whose correction is that of gate g (R303). -/
def State.entriesOf (s : State) (g : Nat) : List Nat :=
  (List.range 256).filter (fun e =>
    let k := s.rdE Obj.projKey e
    bit k 31 && field k 27 16 == s.rd Obj.nodeNumber && k % 256 == g)

/-- The square of the largest distance by which a correction moves a position, in mm². -/
def displacement2 (c : Int × Int × Int) (obs : List CoObs) : Nat :=
  obs.foldl (fun m o =>
    let (x, y) := corrected c.1 c.2.1 c.2.2 o.ax o.ay
    max m ((x - o.ax) * (x - o.ax) + (y - o.ay) * (y - o.ay)).toNat) 0

def alignPayload (c : Int × Int × Int) (ref n rms : Nat) : List Byte :=
  leBytes 4 (ofSigned 32 c.1) ++ leBytes 4 (ofSigned 32 c.2.1) ++ leBytes 4 (ofSigned 32 c.2.2) ++ leBytes 4 ref
    ++ leBytes 4 n ++ leBytes 2 (satTo 16 rms) ++ leBytes 2 0

/-- cos and sin of k µrad in 2⁻¹²⁸, for |k| up to π rad. -/
def cosQ128 (k : Int) : Int := trigSeries (k * k) 32 0 (2 ^ 128)
def sinQ128 (k : Int) : Int := trigSeries (k * k) 32 1 (k * 2 ^ 128 / 1000000)
/-- The largest k µrad, from lo in steps down from 2^i, at which the rotation by k does not pass the direction (a, b). -/
def angleFrom (a b : Int) : Nat → Int → Int
  | 0, k => k
  | i + 1, k => let k' := k + ((2 ^ i : Nat) : Int); angleFrom a b i (if 0 ≤ b * cosQ128 k' - a * sinQ128 k' then k' else k)
/-- The angle of (a, b) in µrad, rounded down. -/
def angleOf (a b : Int) : Int :=
  if 0 ≤ b then angleFrom a b 22 0
  else -(angleFrom a (-b) 22 0) - 1

/-- The fit of a set of co-observations (R138): rotation about the origin, then translation, by least squares; the sums are
exact. Where a value is no integer its rounding is left open. -/
def fitAlign (obs : List CoObs) : (Int × Int × Int) × Nat :=
  let n : Int := obs.length
  let sum := fun (f : CoObs → Int) => sumInt (obs.map f)
  let ax := sum (·.ax)
  let ay := sum (·.ay)
  let bx := sum (·.bx)
  let by' := sum (·.by')
  let a := n * sum (fun o => o.ax * o.bx + o.ay * o.by') - (ax * bx + ay * by')
  let b := n * sum (fun o => o.ax * o.by' - o.ay * o.bx) - (ax * by' - ay * bx)
  let h2 := (a * a + b * b).toNat
  let h : Int := isqrtBig (h2 * 2 ^ 80)           -- √(a² + b²) in 2⁻⁴⁰
  let θ := if h2 = 0 then Config.alignAngle a b
    else if b = 0 ∧ 0 < a then 0
    else angleOf a b + (boolNat (Config.roundBit b a.natAbs) : Nat)
  let near := fun (u : Int) (v : Int) =>          -- (u − v / h) / n
    let num := u * h - v * 2 ^ 40
    if num % (n * h) = 0 then num / (n * h) else num / (n * h) + (boolNat (Config.roundBit num (n * h).toNat) : Nat)
  let (dx, dy) := if h2 = 0 then
      (roundUp (bx - (corrected 0 0 θ ax ay).1) n.toNat, roundUp (by' - (corrected 0 0 θ ax ay).2) n.toNat)
    else (near bx (a * ax - b * ay), near by' (b * ax + a * ay))
  let ss := n * sum (fun o => o.ax * o.ax + o.ay * o.ay + o.bx * o.bx + o.by' * o.by') - (ax * ax + ay * ay + bx * bx + by' * by')
  ((dx, dy, θ), openRoot ((ss * 2 ^ 40 - 2 * h).toNat) (n.toNat * n.toNat * 2 ^ 40))

/-- Whether a correction meets the limits of R139. -/
def withinAlign (mm ur : Nat) (obs : List CoObs) (c : Int × Int × Int) : Bool :=
  displacement2 c obs ≤ mm * mm && c.2.2.natAbs ≤ ur
/-- q / 2¹⁶ of a correction, each part rounded toward zero. -/
def partOf (c : Int × Int × Int) (q : Nat) : Int × Int × Int :=
  let p := fun (i : Int) => if 0 ≤ i then i * q / 65536 else -(-i * q / 65536)
  (p c.1, p c.2.1, p c.2.2)
/-- The largest part of a correction that meets the limits, found from its highest bit down. -/
def scaleFrom (ok : Int × Int × Int → Bool) (c : Int × Int × Int) : Nat → Nat → Nat
  | 0, q => q
  | i + 1, q => scaleFrom ok c i (if ok (partOf c (q + 2 ^ i)) then q + 2 ^ i else q)
/-- Whether c' is a scaling of c: every part lies between 0 and that of c, and no two are out of proportion by more than rounding. -/
def scaledOk (c c' : Int × Int × Int) : Bool :=
  let within := fun (i i' : Int) => if 0 ≤ i then 0 ≤ i' && i' ≤ i else i ≤ i' && i' ≤ 0
  let prop := fun (i j i' j' : Int) => (i' * j - i * j').natAbs ≤ i.natAbs + j.natAbs
  within c.1 c'.1 && within c.2.1 c'.2.1 && within c.2.2 c'.2.2
    && prop c.1 c.2.1 c'.1 c'.2.1 && prop c.1 c.2.2 c'.1 c'.2.2 && prop c.2.1 c.2.2 c'.2.1 c'.2.2

/-- The fit scaled to its limits (R139), and whether it was clipped. How finely it is scaled is left open: any scaling within the
limits that is at least the one found in steps of 2⁻¹⁶. -/
def State.scaleAlign (s : State) (c : Int × Int × Int) (obs : List CoObs) : (Int × Int × Int) × Bool :=
  let mm := s.rd Obj.alignStepMm
  let ur := s.rd Obj.alignStepUrad
  let ok := withinAlign mm ur obs
  if ok c then (c, false)
  else
    let low := partOf c (scaleFrom ok c 16 0)
    let open' := Config.alignScale c mm ur
    (if ok open' && scaledOk c open' && scaledOk open' low then open' else if ok low then low else (0, 0, 0), true)

def alignWrites (es : List Nat) (c : Int × Int × Int) : List Staged :=
  es.flatMap (fun e => [stagedNum Obj.alignDx e (ofSigned 32 c.1), stagedNum Obj.alignDy e (ofSigned 32 c.2.1),
    stagedNum Obj.alignDtheta e (ofSigned 32 c.2.2)])

def estimateAlign (bcUs g : Nat) (s : State) : State :=
  let anchors := s.rd Obj.alignAnchors
  let obs := s.windowCoObs g bcUs (bit anchors)
  let s := wrE Obj.alignPairs g (satTo 32 obs.length) s
  if bit anchors g || obs.length < s.rd Obj.alignMinPairs || obs.isEmpty then s
  else
    let (c, rms) := fitAlign obs
    let ref := (obs.headD ⟨0, 0, 0, 0, 0, 0, 0⟩).b
    let imp := s.rd Obj.alignImplausibleMm
    if imp * imp < displacement2 c obs then
      let s := detect groomBlock Src.groomAlignImplausible s
      if s.groomLocked catAlign g then s else draft g catAlign 3 0 [] (alignPayload (0, 0, 0) ref obs.length rms) s
    else
      let (c, clip) := s.scaleAlign c obs
      let es := s.entriesOf g
      if es.isEmpty then s else propose g catAlign (boolNat clip) (alignWrites es c) (alignPayload c ref obs.length rms) s

/-- The check of a pair that the paddock reported (R140): the lower-numbered gate is the reference unless only the other
is an anchor. -/
def checkPairAlign (bcUs : Nat) (p : Nat × Nat) (s : State) : State :=
  let anchors := s.rd Obj.alignAnchors
  let lo := min p.1 p.2
  let hi := max p.1 p.2
  let (ref, g) := if !bit anchors lo && bit anchors hi then (hi, lo) else (lo, hi)
  let obs := s.windowCoObs g bcUs (· == ref)
  -- too few co-observations fit nothing: the entry carries no correction (R138)
  let (c, rms) := if obs.isEmpty || obs.length < s.rd Obj.alignMinPairs then ((0, 0, 0), 0) else fitAlign obs
  draft g catAlign 3 (4 + 2 * boolNat (s.groomLocked catAlign g)) [] (alignPayload c ref obs.length rms) s

/-! ### BIAS (R141, R142) -/

/-- Tiles of gate g without a masked pixel and without a flicker window, with their samples: total and positive. -/
def State.biasTiles (s : State) (g : Nat) (fromUs toUs : Int) : List (Nat × Nat × Nat) :=
  let mine := s.groom.samples.filter (fun p => p.1 == g && fromUs ≤ p.2.2.2 && p.2.2.2 < toUs)
  let mask := (dget s.dict (Obj.hotMask g) 0).toBytes
  let masked := fun t => (List.range 64).any (fun r => (List.range 8).any (fun b =>
    mask.getD ((t / 32 * 64 + r) * 256 + t % 32 * 8 + b) 0 != 0))
  ((List.range 1024).filter (fun t => t % 32 * 64 < s.rd (Obj.gateWidth g) && t / 32 * 64 < s.rd (Obj.gateHeight g)
      && !s.tileFlickers g t && !masked t)).map (fun t =>
    let l := mine.filter (fun p => pixelTile p.2.1 == t)
    (t, l.length, (l.filter (fun p => p.2.2.1)).length))

/-- Change in sensitivity of the positive and the negative code: +1 less sensitive, −1 more, 0 unchanged (R141). -/
def biasMove (high low : Bool) (inRange above below : Bool) : Int × Int :=
  if high then (if inRange then (1, 1) else (if above then 1 else 0, if below then 1 else 0))
  else if low then (if inRange then (-1, -1) else (if below then -1 else 0, if above then -1 else 0))
  else (if above then 1 else 0, if below then 1 else 0)

def estimateBias (g : Nat) (fromUs toUs : Int) (s : State) : State :=
  let ts := sortBy (fun a b => a.2.1 ≤ b.2.1) (s.biasTiles g fromUs toUs)
  let used := ts.take (ts.length / 4)
  if used.isEmpty || (cfgB s.dict (Obj.groomBiasTemplate g)).isEmpty then s
  else
    let tot := sumNat (used.map (·.2.1))
    let pos := sumNat (used.map (·.2.2))
    let num := tot * 2 ^ s.rd Obj.groomSampleShift * 1000
    let den := s.rd Obj.groomPeriod * 4096 * used.length
    let T := s.rd Obj.biasTarget
    let b := s.rd Obj.biasBand
    let above := 39321 * tot < pos * 65536
    let below := pos * 65536 < 26214 * tot
    let mv := biasMove (T * (100 + b) * den < num * 100) (num * 100 < T * (100 - b) * den) (!above && !below) above below
    let sign : Int := if bit (s.rd Obj.biasSense) g then -1 else 1
    let step := fun (old : Nat) (m : Int) =>
      (clampInt (s.rd Obj.biasMin) (s.rd Obj.biasMax) ((old : Int) + sign * m * (s.rd Obj.biasStep : Int))).toNat
    let p0 := s.rdE Obj.biasPos g
    let n0 := s.rdE Obj.biasNeg g
    let p1 := if mv.1 = 0 then p0 else step p0 mv.1
    let n1 := if mv.2 = 0 then n0 else step n0 mv.2
    if p1 = p0 ∧ n1 = n0 then s
    else
      propose g catBias 0 [stagedNum Obj.biasPos g p1, stagedNum Obj.biasNeg g n1]
        (leBytes 2 p0 ++ leBytes 2 n0 ++ leBytes 2 p1 ++ leBytes 2 n1 ++ leBytes 4 (openQuot num den)
          ++ leBytes 2 (satTo 16 (openQuot (pos * 65536) tot))) s

/-! ### The cycle (R122, R129, R140) -/

/-- The first boundary, in the unit of `State.now`, at or after an instant. -/
def State.boundaryAfter (s : State) (t : Nat) : Nat :=
  let p := s.periodUs * 1000 * nsUnit
  let t0 := s.t0Us * 1000 * nsUnit
  if t ≤ t0 then t0 else t0 + ceilDiv (t - t0) (max 1 p) * p

/-- A cycle in which the hot pixels of gate g are not evaluated ends every run of consecutive cycles (R135). -/
def endRuns (g : Nat) (s : State) : State :=
  updGroom (fun gr => { gr with hotRuns := serase g gr.hotRuns, coolRuns := serase g gr.coolRuns }) s

/-- The cycle meets uncorrectable blocks in the work area of gate g: the groom uses nothing of it (R370). That the gate then gets
no estimate in the cycle is the model's choice (log entry 109). -/
def badWork (g : Nat) (bad : List Nat) (s : State) : State :=
  bad.foldl (fun s b => countUncorrectable (b * 64) s) s |> detect groomBlock Src.groomWorkUncorrectable |> endRuns g |> noteClip g false

/-- Estimates of one gate in every category whose mode is not OFF; the first cycle has no samples of a cycle before it. -/
def estimateGate (bcUs : Nat) (fromUs : Option Int) (g : Nat) (s : State) : State :=
  let bad := s.poison.filter (fun b => workAt g / 64 ≤ b && b < workAt (g + 1) / 64)
  if !bad.isEmpty then badWork g bad s
  else if s.gateState g = 2 ∨ s.gateState g = 3 then
    let s := match fromUs with
      | some t => if s.groomMode catHot g = 0 then endRuns g s else estimateHot g t bcUs s
      | none => endRuns g s
    let s := if s.groomMode catTime g = 0 then noteClip g false s else estimateTime bcUs g s
    let s := if s.groomMode catAlign g = 0 then s else estimateAlign bcUs g s
    match fromUs with
    | some t => if s.groomMode catBias g = 0 then s else estimateBias g t bcUs s
    | none => s
  else s |> endRuns g |> noteClip g false

/-- A cycle whose epoch still waits defers its proposals (R129). -/
def deferDrafts (s : State) : State :=
  updGroom (fun gr => { gr with drafts := gr.drafts.map (fun p => if p.disposition = 3 then p else { p with disposition := 2 }) }) s

/-- GROOM_CYCLE_START: the boundary at which the cycle starts has been signalled. -/
def groomCycleStart (s : State) : State :=
  let bc := s.boundaryAfter s.groom.nextCycle
  if !s.isOn 10 || s.now < bc || s.time.nextBoundary = 0 || s.boundary s.time.nextBoundary ≤ bc then s
  else
    let bcUs := bc / (1000 * nsUnit)
    let fromUs : Option Int :=
      if s.groom.nextCycle = s.groom.cycleStart then none else some ((s.groom.cycleStart / (1000 * nsUnit) : Nat) : Int)
    let s := s |> inc 32 Obj.groomCycles |> pruneCoObs (bcUs / 1000000)
    let s := (List.range 36).foldl (fun s g => estimateGate bcUs fromUs g s) s
    let s := s.groom.checks.foldl (fun s p => checkPairAlign bcUs p s) s
    let s := if s.epochWaits then deferDrafts s else s
    updGroom (fun gr => { gr with
      cycleStart := bc, nextCycle := bc + s.rd Obj.groomPeriod * 10 ^ 9 * nsUnit, checks := [], estimated := true, flicked := [],
      samples := gr.samples.filter (fun p => (bcUs : Int) ≤ p.2.2.2) }) s

/-! ### Epochs and proposals (R127 to R130, R144, R145) -/

/-- Write the entry of a proposal (R145). -/
def writeProposal (p : Proposal) (j : Nat) (s : State) : State :=
  let t := s.rd Obj.groomTrough
  if t = 0xFFFF then s
  else
    let body := leBytes 4 p.number ++ leBytes 1 p.gate ++ leBytes 1 p.category ++ leBytes 1 p.disposition ++ leBytes 1 p.flags
      ++ leBytes 8 p.baseStep ++ leBytes 8 (if p.disposition = 1 then j else 0) ++ padTo 24 p.payload
    match writeSet t 3 [(0x12, body)] s with
    | (true, s) => s
    | (false, s) => s |> inc 32 Obj.groomProposalsDropped |> detect groomBlock Src.groomProposalDropped

/-- Number a proposal, write it, and keep it for GROOM.ACCEPT; it supersedes the older ones of its gate and category. -/
def issueProposal (j : Nat) (p : Proposal) (s : State) : State :=
  let n := s.rd Obj.groomNextProposal
  let p := { p with number := n }
  let s := s |> wr Obj.groomNextProposal ((n + 1) % 2 ^ 32) |> writeProposal p j
  updGroom (fun gr => { gr with proposals := p :: gr.proposals }) s

/-- Whether some other bale has claimed an address that a proposal writes (R128). -/
def State.claimedByOther (s : State) (o : Nat) (ws : List Staged) : Bool :=
  ws.any (fun w => match s.claimOf w.addr with | some c => c != o | none => false)

/-- Commit writes as an epoch of owner o: the apply step where the checks pass. -/
def commitEpoch (o refused : Nat) (ws : List Staged) (s : State) : Option Nat × State :=
  let s := ws.foldl (fun s w => (stage o w s).2) s
  match commitBale ⟨o, none⟩ s with
  | (a, j, s) =>
    if a.1 = Ab.ok then (some j, s)
    else (none, s |> discardBale o |> inc 32 refused)

/-- Whether the groom may write a TIME table for gate g: its REBASE.VALID is 1, in force and once every waiting bale has applied
(R134). -/
def State.tableAllowed (s : State) (g : Nat) : Bool :=
  s.rd (Obj.rebaseValid g) == 1 && cfgN s.waitingSet (Obj.rebaseValid g) == 1
/-- A HOT change that is applied is laid over the mask in force now: a bit that another bale has set meanwhile stays (R137). -/
def State.refreshMask (s : State) (p : Proposal) : Proposal :=
  if p.category = catHot ∧ p.disposition = 1 then { p with writes := s.hotWrites p.gate p.added p.released } else p

/-- GROOM_EPOCH_COMMIT: the estimates of the cycle are done. A TIME change of a gate whose REBASE.VALID is 0 by now is dropped. -/
def groomEpochCommit (s : State) : State :=
  if !s.groom.estimated then s
  else
    let s := if s.epochWaits then deferDrafts s else s
    let drafts := (s.groom.drafts.filter (fun p => p.category != catTime || s.tableAllowed p.gate)).map s.refreshMask |>.map (fun p =>
      if p.disposition = 1 && s.claimedByOther (ownerCode .groom) p.writes then { p with disposition := 2 } else p)
    let autos := drafts.filter (fun p => p.disposition == 1)
    let s := updGroom (fun gr => { gr with drafts := [], estimated := false }) s
    let (r, s) := if autos.isEmpty then (some 0, s) else commitEpoch (ownerCode .groom) Obj.groomEpochsRefused (autos.flatMap (·.writes)) s
    let s := detectIf r.isNone groomBlock Src.groomEpochRefused s
    drafts.foldl (fun s p =>
      issueProposal (r.getD 0) (if p.disposition = 1 && r.isNone then { p with disposition := 4 } else p) s) s

/-- Whether a proposal is current (R126). -/
def State.proposalCurrent (s : State) (p : Proposal) : Bool :=
  s.baseStep p.category p.gate == p.baseStep
    && ((s.groom.proposals.find? (fun q => q.gate == p.gate && q.category == p.category)).map (·.number)) == some p.number

/-- A write of a proposal number to GROOM.ACCEPT (R144). -/
def groomAccept (n : Nat) (s : State) : Nat × State :=
  match s.groom.proposals.find? (fun p => p.number == n) with
  | none => (Ab.valueRange, s)
  | some p =>
    if p.disposition = 1 ∨ p.disposition = 3 ∨ p.disposition = 4 then (Ab.valueRange, s)
    else if !s.proposalCurrent p then (Ab.inconsistent, s)
    -- R144 names no refusal for a gate whose REBASE.VALID has become 0, which R134 bars: the model's choice (log entry 103)
    else if p.category = catTime ∧ !s.tableAllowed p.gate then (Ab.inconsistent, s)
    else if s.epochWaits then (Ab.busy, s)
    else
      let (d, j, s) :=
        if s.claimedByOther (ownerCode .groom) p.writes then (2, 0, s)
        else match commitEpoch (ownerCode .groom) Obj.groomEpochsRefused p.writes s with
          | (some j, s) => (1, j, s)
          | (none, s) => (4, 0, detect groomBlock Src.groomEpochRefused s)
      let q := { p with disposition := d }
      let s := updGroom (fun gr => { gr with proposals := gr.proposals.map (fun x => if x.number = n then q else x) }) s
      (Ab.ok, writeProposal q j s)

/-! ### Applying an epoch; bias scripts (R137, R143) -/

/-- A bias template patched with the codes in force (R142). -/
def patchedScript (b : List Byte) (pos neg : Nat) : List Byte :=
  let n := leAt b 0 2
  (List.range n).foldl (fun (s : List Byte) i =>
    let p := slice b (4 + 4 * i) 4
    let o := leAt p 0 2
    let code := if leAt p 2 1 = 0 then pos else neg
    let bytes := if leAt p 3 1 = 0 then leBytes 1 code else if leAt p 3 1 = 1 then beBytes 2 code else leBytes 2 code
    (s.take o ++ bytes ++ s.drop (o + bytes.length))) (b.drop (4 + 4 * n))

/-- Try to queue the bias script of a gate; while the master's queue is full it waits. -/
def tryBias (b : BiasScript) (s : State) : State :=
  match i2cQueue (b.gate / 6) (.bias b.gate) b.bytes s with
  | (code, s) => if code = Ab.ok then s else updGroom (fun gr => { gr with bias := gr.bias ++ [b] }) s
/-- Each later boundary tries the scripts that wait. -/
def retryBias (s : State) : State :=
  let bs := s.groom.bias
  bs.foldl (fun s b => tryBias b s) (updGroom (fun gr => { gr with bias := [] }) s)
/-- BIAS_SCRIPT_GIVE_UP: one cycle has passed. -/
def biasGiveUp (g : Nat) (s : State) : State :=
  match s.groom.bias.find? (fun b => b.gate == g) with
  | none => s
  | some b =>
    match s.dueAt (b.since + s.rd Obj.groomPeriod * 10 ^ 9 * nsUnit) with
    | none => s
    | some s => s |> updGroom (fun gr => { gr with bias := gr.bias.filter (fun x => x != b) }) |> detect groomBlock Src.groomBiasScriptFail

/-- What the groom does when its epoch applies at a boundary: `old` is the set before. -/
def groomApplied (old : Store) (ws : List Staged) (s : State) : State :=
  let s := inc 32 Obj.groomEpochsApplied s
  let s := (List.range 36).foldl (fun s g =>
    if ws.any (fun w => w.addr == Obj.hotMask g) then
      let own := ownAfter (sget [] s.groom.ownBits g) (dget old (Obj.hotMask g) 0).toBytes (dget s.dict (Obj.hotMask g) 0).toBytes
      s |> updGroom (fun gr => { gr with ownBits := sset [] g own gr.ownBits }) |> wrE Obj.groomHotCount g own.length
    else s) s
  let gates := dedup ((ws.filter (fun w => w.addr == Obj.biasPos || w.addr == Obj.biasNeg)).map (·.first))
  gates.foldl (fun s g =>
    tryBias ⟨g, patchedScript (cfgB s.dict (Obj.groomBiasTemplate g)) (s.rdE Obj.biasPos g) (s.rdE Obj.biasNeg g), s.now⟩ s) s

/-- D10 has come ON, or the groom has left reset: empty windows and counts; no older proposal can be accepted (R130,
R146). -/
def emptyGroom (s : State) : State :=
  updGroom (fun gr => { gr with
    markers := [], samples := [], hotRuns := [], coolRuns := [], coObs := [], checks := [], clipped := [], proposals := [], drafts := [], estimated := false, flicked := [], sampled := (0, []), nextCycle := s.now, cycleStart := s.now }) s
/-- BLOCK_RESET of the groom (R146, R44). -/
def resetGroom (s : State) : State :=
  let s := emptyGroom s
  let s := (List.range 36).foldl (fun s g =>
    let own := (sget [] s.groom.ownBits g).filter (maskBit (dget s.dict (Obj.hotMask g) 0).toBytes)
    updGroom (fun gr => { gr with ownBits := sset [] g own gr.ownBits }) s) s
  let s := [Obj.groomNextProposal, Obj.groomCycles, Obj.groomSamples, Obj.groomSamplesSkipped, Obj.groomEpochsApplied,
    Obj.groomEpochsRefused, Obj.groomProposalsDropped].foldl (fun s a => clearObj a 1 s) s
  let s := [Obj.timeRms, Obj.timeMarkersUsed, Obj.alignPairs, Obj.groomSensorStatus, Obj.groomHotCount, Obj.alignPairsUnkept].foldl
    (fun s a => clearObj a 36 s) s
  (List.range 36).foldl (fun s g => clearObj (Obj.groomHotPending g) 1 s) s

end Sys2Proof.Machine
end

