-- ==== Sys2Proof/Machine/SieveOps.lean ====
section
/-!
DEFINITION. The sieve (R147 to R165): the arithmetic of a chain, its start, stop and reset, the flicker detector, and the
evaluations that write flicker windows.
-/
namespace Sys2Proof.Machine

/-! ### Settings of a chain -/

/-- Sample interval of a chain in µs (R147). -/
def State.chainInterval (s : State) (c : Nat) : Nat :=
  if s.chainN c (Obj.chainSource c) = 0 then s.rd Obj.gateRateBin else s.periodUs
/-- N of a chain, D of a chain. -/
def State.chainTaps (s : State) (c : Nat) : Nat := s.chainN c (Obj.chainFirTaps c)
def State.chainDecimate (s : State) (c : Nat) : Nat := max 1 (s.chainN c (Obj.chainDecimate c))
/-- CHAIN.DELAY (R155, R156). -/
def State.chainDelay (s : State) (c : Nat) : Nat :=
  if s.chainN c (Obj.chainMode c) = 0 then 50 * (s.chainTaps c - 1)
  else
    let d := s.chainDecimate c
    50 * (d - 1) + d * presetDelays.getD (s.chainN c (Obj.chainPreset c)) 0

/-- Coefficients b0, b1, b2, a1, a2 of the sections that run (R153, R156). -/
def State.chainSections (s : State) (c : Nat) : List (List Int) :=
  if s.chainN c (Obj.chainMode c) = 0 then
    (List.range (s.chainN c (Obj.chainSections c))).map (fun j =>
      (List.range 5).map (fun i => cfgI (s.chainSet c) 32 (Obj.chainBiquad c) (5 * j + i)))
  else presetRom.getD (s.chainN c (Obj.chainPreset c)) []

/-! ### Arithmetic (R150 to R153) -/

/-- A value limited to I32, and whether it was. -/
def satQ (x : Int) : Int × Bool := (satInt 32 x, satInt 32 x != x)
/-- Count a saturation of chain c. -/
def chainSat (c : Nat) (b : Bool) (s : State) : State :=
  if b then s |> inc 32 (Obj.chainSaturations c) |> detect sieveBlock Src.sieveSaturation else s

/-- The FIR output for the newest inputs (R151), or the mean of D inputs in PRESET mode (R156). -/
def State.firOut (s : State) (c : Nat) (line : List Int) : Int :=
  if s.chainN c (Obj.chainMode c) = 0 then
    let taps := List.range (s.chainTaps c)
    rshr (sumInt (taps.map (fun i => cfgI (s.chainSet c) 16 (Obj.chainFirCoeff c) i * line.getD i 0))) 14
  else
    let d := s.chainDecimate c
    roundUp (sumInt (line.take d)) d

/-- One section (R153): its output before saturation. -/
def sectionOut (co : List Int) (x : Int) (st : Int × Int × Int × Int) : Int :=
  rshr (co.getD 0 0 * x + co.getD 1 0 * st.1 + co.getD 2 0 * st.2.1 - co.getD 3 0 * st.2.2.1 - co.getD 4 0 * st.2.2.2) 30

/-- The value after every section, the sections' states, and the number of saturations. -/
def runSections : List (List Int) → List (Int × Int × Int × Int) → Int → Int × List (Int × Int × Int × Int) × Nat
  | [], _, x => (x, [], 0)
  | co :: cs, sts, x =>
    let st := sts.headD (0, 0, 0, 0)
    let (y, sat) := satQ (sectionOut co x st)
    let (z, rest, n) := runSections cs (sts.drop 1) y
    (z, (x, st.1, y, st.2.2.1) :: rest, n + boolNat sat)

/-! ### The flicker detector (R160 to R162) -/

/-- Forget what the detector of chain c has found. -/
def clearDetector (c : Nat) (s : State) : State :=
  s |> updChain c (fun ch => { ch with lastOut := none, peak := 0, crossings := [], crossedAt := s.now })
    |> wr (Obj.flickerState c) (if s.rd (Obj.flickerEnable c) = 0 then 0 else 1)

/-- The corrected crossing of a pair of outputs in 2⁻⁸ µs (R161). Times of samples are in 2⁻¹ µs. -/
def crossingTime (ta ya yb : Int) (interval decimate delay : Nat) : Int :=
  let den := 100 * (yb - ya)
  (ta * 128 * den + 25600 * ((decimate * interval : Nat) : Int) * (-ya) - 256 * ((interval * delay : Nat) : Int) * (yb - ya)) / den

/-- Total of the last n intervals, and whether each lies within tol × mean / 2¹⁶ of the mean. -/
def lockedOver (cr : List Int) (n tol : Nat) : Option Int :=
  if cr.length < n + 1 ∨ n = 0 then none
  else
    let total := cr.getD 0 0 - cr.getD n 0
    if (List.range n).all (fun i =>
        decide ((((cr.getD i 0 - cr.getD (i + 1) 0) * (n : Int) - total).natAbs : Int) * 65536 ≤ (tol : Int) * total))
    then some total else none

/-- LOCKED with the window of R162, or SEARCHING. -/
def estimateWindow (c : Nat) (s : State) : State :=
  let cr := (s.chain c).crossings
  let n := s.rd (Obj.flickerCycles c)
  match lockedOver cr n (s.rd (Obj.flickerTol c)) with
  | none => wr (Obj.flickerState c) 1 s
  | some total =>
    let p := (total / (n : Int)).toNat
    let t := (cr.headD 0).toNat
    let w := p * s.rd (Obj.flickerDuty c) / 256
    let start := (t % 256 + p / 4 + p - w / 2) % max 1 p
    s |> wr (Obj.flickerState c) 2 |> wr (Obj.flickerPeriodEst c) (p % 2 ^ 32) |> wr (Obj.flickerOriginEst c) (t / 256 % 2 ^ 64)
      |> wr (Obj.flickerWidthEst c) (w % 2 ^ 32) |> wr (Obj.flickerStartEst c) (start % 2 ^ 32)

/-- A crossing of chain c. -/
def noteCrossing (c : Nat) (t : Int) (peak : Nat) (s : State) : State :=
  s |> updChain c (fun ch => { ch with crossings := (t :: ch.crossings).take 65, peak := 0, crossedAt := s.now })
    |> wr (Obj.flickerAmplitude c) (peak % 2 ^ 32) |> estimateWindow c

/-- The detector sees an output y that a sample at t completed. -/
def detectFlicker (c : Nat) (t y : Int) (s : State) : State :=
  if s.rd (Obj.chainState c) = 2 && s.rd (Obj.flickerEnable c) != 0 then
    let ch := s.chain c
    let peak := max ch.peak y.natAbs
    let s := updChain c (fun ch => { ch with lastOut := some (y, t), peak := peak }) s
    match ch.lastOut with
    | some (ya, ta) =>
      if ya < 0 && 0 ≤ y && s.rd (Obj.flickerMinAmp c) ≤ peak then
        noteCrossing c (crossingTime ta ya y (s.chainInterval c) (s.chainDecimate c) (s.rd (Obj.chainDelay c))) peak s
      else s
    | none => s
  else s

/-! ### Inputs and outputs (R148, R154) -/

/-- An output of chain c, completed by a sample at t. -/
def chainOutput (c : Nat) (t : Int) (s : State) : State :=
  let ch := s.chain c
  let (x, sat) := satQ (s.firOut c ch.line)
  let s := chainSat c sat s
  let (y, sts, n) := runSections (s.chainSections c) ch.sections x
  let s := (List.range n).foldl (fun s _ => chainSat c true s) s
  let k := s.rd (Obj.chainOutputs c)
  s |> updChain c (fun ch => { ch with sections := sts, made := ch.made + 1 })
    |> wr (Obj.chainOutLast c) (ofSigned 32 y) |> wrE (Obj.chainOutHistory c) (k % 1024) (ofSigned 32 y)
    |> wr (Obj.chainOutputs c) ((k + 1) % 2 ^ 64) |> detectFlicker c t y

/-- A sample enters chain c: conversion to Q24.8 (R150), the delay line, and the output that it completes (R152). -/
def takeSample (c : Nat) (t : Int) (v : Option Int) (s : State) : State :=
  let s := if v.isNone then inc 32 (Obj.chainGaps c) s else s
  let (x, sat) := match v with
    | some v => satQ (v * 256)
    | none => ((s.chain c).prev, false)
  let s := s |> chainSat c sat |> inc 64 (Obj.chainInputs c)
    |> updChain c (fun ch => { ch with line := (x :: ch.line).take 128, prev := x, taken := ch.taken + 1 })
  if (s.chain c).taken % s.chainDecimate c = 0 then chainOutput c t s else s

/-- CHAIN_INPUT: the oldest sample that has reached chain c. -/
def chainInput (c : Nat) (s : State) : State :=
  match (s.chain c).inbox with
  | [] => s
  | (t, v) :: rest =>
    let s := updChain c (fun ch => { ch with inbox := rest }) s
    if t < 2 * ((s.chain c).startUs : Int) then s else takeSample c t v s

/-- CHAIN_SETTLED: CHAIN.SETTLE outputs have been produced since start. -/
def chainSettled (c : Nat) (s : State) : State :=
  if s.rd (Obj.chainState c) = 1 && s.rd (Obj.chainSettle c) ≤ (s.chain c).made then
    s |> wr (Obj.chainState c) 2 |> clearDetector c
  else s

/-! ### Start and stop (the state machine of R158) -/

/-- STOPPED to SETTLING at the boundary bUs. -/
def startChain (c bUs : Nat) (s : State) : State :=
  s |> updChain c (fun _ => { Chain.reset with startUs := bUs }) |> wr (Obj.chainDelay c) (s.chainDelay c)
    |> wr (Obj.chainState c) 1 |> wr (Obj.flickerState c) 0
/-- To STOPPED at the boundary bUs: samples from then on are ignored. Those before it that are still to come, or that wait, pass
the chain with the settings it ran with. -/
def stopChain (c bUs : Nat) (s : State) : State :=
  let own := s.dict.filter (fun p => p.1 / 2 ^ 32 == 0x2C10 + c || p.1 / 2 ^ 24 == Obj.gateRateBin)
  s |> wr (Obj.chainState c) 0 |> wr (Obj.flickerState c) 0
    |> updChain c (fun ch => { ch with
        inbox := ch.inbox.filter (fun x => x.1 < 2 * (bUs : Int)), stopUs := some bUs, cfg := some own })

/-- What a boundary at bUs does to chain c. -/
def chainBoundary (bUs c : Nat) (s : State) : State :=
  let run := s.rd (Obj.chainRun c) == 1
  let st := s.rd (Obj.chainState c)
  if run && st == 0 then (if s.isOn 10 then startChain c bUs s else s)
  else if !run && st != 0 then stopChain c bUs s
  else if st = 2 && (s.rd (Obj.flickerEnable c) == 0) != (s.rd (Obj.flickerState c) == 0) then clearDetector c s
  else s

/-- The chain state and the detector of every chain are lost (D10 leaves ON). -/
def sieveDark (s : State) : State :=
  (List.range 16).foldl (fun s c =>
    s |> updChain c (fun _ => Chain.reset) |> wr (Obj.chainState c) 0 |> wr (Obj.flickerState c) 0) s

/-- BLOCK_RESET of the sieve (R165, R44): each chain that runs restarts at the next boundary. -/
def resetSieve (s : State) : State :=
  let s := s |> sieveDark |> clearObj Obj.sieveEpochsApplied 1 |> clearObj Obj.sieveEpochsRefused 1
  (List.range 16).foldl (fun s c =>
    let s := [Obj.chainDelay c, Obj.chainInputs c, Obj.chainOutputs c, Obj.chainOutLast c, Obj.chainSaturations c, Obj.chainGaps c,
      Obj.flickerPeriodEst c, Obj.flickerOriginEst c, Obj.flickerStartEst c, Obj.flickerWidthEst c, Obj.flickerAmplitude c].foldl
      (fun s a => clearObj a 1 s) s
    clearObj (Obj.chainOutHistory c) 1024 s) s

/-! ### Evaluations (R163, R164) -/

/-- Whether the phase of the estimated peak differs from the centre of the window in force by more than Π / 64; the phase
is taken within the period in force (log entry 40). -/
def State.phaseFar (s : State) (c g w : Nat) : Bool :=
  let p := s.rd (Obj.flickerPeriodEst c)
  let pf := max 1 (s.rdE (Obj.flickerPeriod g) w)
  let peak : Int := ((s.rd (Obj.flickerOriginEst c) * 256 + s.rd (Obj.flickerStartEst c) + s.rd (Obj.flickerWidthEst c) / 2 : Nat) : Int)
  let centre : Int := ((s.rdE (Obj.flickerOrigin g) w * 256 + s.rdE (Obj.flickerStart g) w + s.rdE (Obj.flickerWidth g) w / 2 : Nat) : Int)
  let d := ((peak - centre) % (pf : Int)).toNat
  p < 64 * min d (pf - d)

/-- The writes that chain c asks for, in AUTO; and whether they turn the window off. -/
def State.flickerWrites (s : State) (c : Nat) : List Staged × Bool :=
  let g := s.rd (Obj.chainSourceGate c)
  let w := s.rd (Obj.flickerWindow c)
  let p := s.rd (Obj.flickerPeriodEst c)
  let pf := s.rdE (Obj.flickerPeriod g) w
  if s.rd (Obj.chainState c) ≠ 2 ∨ s.rd (Obj.flickerEnable c) ≠ 2 then ([], false)
  else if pf ≠ 0 && decide ((s.chain c).crossedAt + s.rd (Obj.flickerRelease c) * 10 ^ 9 * nsUnit ≤ s.now) then
    ([stagedNum (Obj.flickerPeriod g) w 0], true)
  else if s.rd (Obj.flickerState c) = 2 && (pf == 0 || p < 4096 * (max p pf - min p pf) || s.phaseFar c g w) then
    ([stagedNum (Obj.flickerPeriod g) w p, stagedNum (Obj.flickerOrigin g) w (s.rd (Obj.flickerOriginEst c)),
      stagedNum (Obj.flickerStart g) w (s.rd (Obj.flickerStartEst c)), stagedNum (Obj.flickerWidth g) w (s.rd (Obj.flickerWidthEst c)),
      ⟨Obj.flickerTiles g, 32 * w, (List.range 32).map (fun i =>
        .num (s.rdE (Obj.rateTiles g) (32 * s.rd (Obj.chainSourceTap c) + i))), none, 0, false⟩], false)
  else ([], false)

/-- Writes to addresses that no other bale has claimed. -/
def State.unclaimed (s : State) (o : Nat) (ws : List Staged) : List Staged := ws.filter (fun w => !s.claimedByOther o [w])

/-- Write the flicker windows as one epoch. -/
def sieveEpoch (s : State) : State :=
  let o := ownerCode .sieve
  let asks := (List.range 16).map (fun c => s.flickerWrites c)
  let ws := s.unclaimed o (asks.flatMap (·.1))
  let lost := asks.filter (fun a => a.2 && !(s.unclaimed o a.1).isEmpty)
  let s := lost.foldl (fun s _ => detect sieveBlock Src.sieveFlickerLost s) s
  if ws.isEmpty then s
  else
    match commitEpoch o Obj.sieveEpochsRefused ws s with
    | (some _, s) => s
    | (none, s) => detect sieveBlock Src.sieveEpochRefused s

/-- SIEVE_EVALUATION: at the first signalled boundary at or after the previous evaluation plus SIEVE.UPDATE_PERIOD. The first
period begins when D10 comes ON (log entry 103). -/
def sieveEvaluation (s : State) : State :=
  let bc := s.boundaryAfter (s.sieveAt + s.rd Obj.sieveUpdatePeriod * 10 ^ 9 * nsUnit)
  if !s.isOn 10 || s.now < bc || s.time.nextBoundary = 0 || s.boundary s.time.nextBoundary ≤ bc then s
  else
    let waits := s.sdp.waiting.any (fun w => w.owner == ownerCode .sieve)
    let s := { s with sieveAt := max bc (s.boundary (s.time.nextBoundary - 1)) }
    if waits then s else sieveEpoch s

end Sys2Proof.Machine
end

