-- ==== Sys2Proof/Machine/JobOps.lean ====
section
/-!
DEFINITION. Job slots and their runs: loading (R179, R180), starting and stopping at a boundary (R184, R185), re-maps and
re-admission (R193 to R199), and when a member of another device counts as serving (R170, R436).
-/
namespace Sys2Proof.Machine

/-! ### The job area (R179, R376) -/

abbrev jobAreaBase : Nat := 0x10C800000
abbrev jobAreaSize : Nat := 0x80000000
/-- Where n bytes of the job area lie: a place that the manual leaves to the device (log entry 5). -/
def jobPlace (slot output buffer leaf n : Nat) : Nat :=
  jobAreaBase + 64 * (Config.jobBuffer slot output buffer leaf % ((jobAreaSize - n) / 64 + 1))

/-- The first output numbers of `jobPlace` that stand for the image, the gathered map of a layer and its bound records. -/
abbrev imageBuffer : Nat := 0xFFFF
abbrev gatherBuffer : Nat := 0x10000
abbrev boundBuffer : Nat := 0x20000

/-- KiB of the job area that the slots other than j take. -/
def State.areaUsed (s : State) (j : Nat) : Nat :=
  sumNat ((List.range 64).map (fun m => if m = j then 0 else s.rd (Obj.jobAreaKib m)))

/-! ### Loading -/

/-- JOB.LOAD = 1 (R179, R180). -/
def jobLoad (j : Nat) (s : State) : Nat × State :=
  let st := s.rd (Obj.jobState j)
  if st = 1 then (Ab.busy, s)
  else if 4 ≤ st then (Ab.blockRunning, s)
  else
    (Ab.ok, s |> setJobState j 1 |> wr (Obj.jobAreaKib j) 0
      |> updSlot j (fun _ => { JobSlot.reset with latched := (s.rd (Obj.jobImageAddr j), s.rd (Obj.jobImageLen j)) }))

/-- JOB.LOAD = 0 (R180). -/
def jobUnload (j : Nat) (s : State) : Nat × State :=
  let st := s.rd (Obj.jobState j)
  if st = 1 then (Ab.busy, s)
  else if 4 ≤ st then (Ab.blockRunning, s)
  else if st = 0 then (Ab.ok, s)
  else (Ab.ok, s |> setJobState j 0 |> wr (Obj.jobAreaKib j) 0 |> updSlot j (fun _ => JobSlot.reset))

/-- Whether an image may be read from a range (R179). -/
def State.imagePlace (s : State) (a n : Nat) : Bool :=
  a % 64 == 0 && (a + n ≤ s.gddrTop || (inHostWindow a && a + n ≤ 0x4000000000))

/-- The detail of R182 for an image that fails a check, or none. -/
def State.loadBad (s : State) (j : Nat) (b : List Byte) (len : Nat) : Option Nat :=
  match loadCheck s.dict s.periodUs b len with
  | some e => some e
  | none =>
    let need := ceilDiv (imageOf b).areaBytes 1024 + s.areaUsed j
    if jobAreaSize / 1024 < need then some (reject rjNoRoom (need - jobAreaSize / 1024)) else none

def rejectLoad (j detail : Nat) (s : State) : State :=
  s |> setJobState j 3 |> wr (Obj.jobRejectDetail j) detail |> updSlot j (fun sl => { sl with image := none })

/-- The bound records of every layer that winnows, in the job area (R269). -/
def writeBounds (j : Nat) (img : JobImage) (s : State) : State :=
  (List.range img.layers.length).foldl (fun s n =>
    let l := img.layer n
    if lyType l = tyConv && lyMode l != 0 then
      memWrite (jobPlace j (boundBuffer + n) 0 0 (8 * lyOut l)) (boundRecords l img.weights) s
    else s) s

/-- The image is taken: it is copied into the job area, and the slot is LOADED. -/
def acceptLoad (j : Nat) (b : List Byte) (s : State) : State :=
  let d := (Config.shake256 b).toList
  let signer := ((imageSignature b).map (·.1)).getD 0xFF
  let s := s |> memWrite (jobPlace j imageBuffer 0 0 b.length) b |> writeBounds j (imageOf b) |> wr (Obj.jobId j) (leAt b 12 4) |> wr (Obj.jobSigner j) signer
    |> wr (Obj.jobAreaKib j) (ceilDiv (imageOf b).areaBytes 1024)
    |> updSlot j (fun sl => { sl with image := some (imageOf b) })
  let s := (List.range 32).foldl (fun s i => wrE (Obj.jobDigest j) i (d.getD i 0).toNat s) s
  setJobState j 2 s

/-- JOB_LOAD_DONE: the load ends (R179). An image that lies at a place R179 does not allow fails as a bad header. -/
def jobLoadDone (j : Nat) (s : State) : State :=
  if s.rd (Obj.jobState j) ≠ 1 then s
  else
    let (a, len) := (s.slot j).latched
    if !s.imagePlace a len then rejectLoad j (reject rjHeader (if within 128 268435456 len then 0 else 8)) s
    else
      let (b, s) := memReadZero a (if within 128 268435456 len then len else 0) s
      match s.loadBad j b len with
      | some e => rejectLoad j e s
      | none => acceptLoad j b s

/-! ### Remote members (R170, R436) -/

/-- Whether device n serves its record m for job slot j. -/
def State.serves (s : State) (j n m : Nat) : Bool :=
  match (s.peer n).serving m with
  | none => false
  | some h =>
    h.jobState == 5 && h.periodUs == s.periodUs && h.t0Sec == s.rd Obj.stepT0Sec
      && h.t0Ns == s.rd Obj.stepT0Ns
      && h.digest == (List.range 32).map (fun i => BitVec.ofNat 8 (s.rdE (Obj.jobDigest j) i))

/-- The remote member (n, m) fails: it and its leaves, also where its re-admission waits (R193, R194). -/
def failRemote (j n m tdUs : Nat) (s : State) : State :=
  let y := s.jobYard j
  let yd := s.yard y
  let code := memberCode (n, m)
  if yd.failedMembers.contains code && !((yd.waiting.map (·.members)).getD []).contains code then s
  else
    let s := updYard y (fun yd => { yd with
      failedMembers := dedup (yd.failedMembers ++ [code]), misses := serase (memberKey (n, m)) yd.misses,
      waiting := yd.waiting.map (fun w => { w with
        members := w.members.erase code, readmit := w.readmit.filter (fun l => !s.ofMember y n m l) }) }) s
    s |> dropLeaves j (yd.cut.filter (s.ofMember y n m)) |> scheduleRemap j tdUs 8 [] []

/-- The remote member (n, m) misses step k: YARD.MISS_LIMIT consecutive misses fail it at the compute limit (R193). -/
def noteMemberMiss (j n m k tdUs : Nat) (s : State) : State :=
  let y := s.jobYard j
  let c := sget 0 (s.yard y).misses (memberKey (n, m)) + 1
  let s := updYard y (fun yd => { yd with misses := sset 0 (memberKey (n, m)) c yd.misses }) s
  if cfgN (s.cfgOf k) (Obj.yardMissLimit y) ≤ c then failRemote j n m tdUs s else s

/-- At the compute limit of step k the leaves of job j that have not delivered it are missing; a local leaf and a remote
member count the miss (R21, R193). -/
def missStep (j k tdUs : Nat) (s : State) : State :=
  match s.step? k with
  | none => s
  | some r =>
    let y := s.jobYard j
    let late := (s.ownCut y k).filter r.awaits
    let away := (remoteMembers s.dict y).filter (fun m => late.any (s.ofMember y m.1 m.2))
    let s := late.foldl (fun s l => let s := markMissing k l s; if isLocal l then noteMiss j l k tdUs s else s) s
    away.foldl (fun s (m : Nat × Nat) => noteMemberMiss j m.1 m.2 k tdUs s) s

/-! ### Start and stop of a run (R184, R185, R198) -/

/-- A leaf begins to serve at step k, with its state at rest; blocks that are filed for step k or later stay queued (R184,
R198). -/
def initStall (k i : Nat) (s : State) : State :=
  let old := (s.stall i).queue.filter (fun b => b.step < k)
  let s := updStall i (fun st => { Stall.reset with
    queue := st.queue.filter (fun b => k ≤ b.step), first := k, throttled := st.throttled, replays := st.replays,
    windowReplays := st.windowReplays, windowCycles := st.windowCycles }) s
  let s := old.foldl (fun s b => updGate b.gate (fun g => { g with ringUsed := g.ringUsed.erase b.block }) s) s
  s |> zeroRange (stallBase i) 0x100000 |> addE 64 (Obj.stallFailedDiscards i) 0 (sumNat (old.map (·.count))) |> wr (Obj.stallLateFill i) 0
    |> clearObj (Obj.winnowForced i) 1 |> wr (Obj.winnowForcedCount i) 0

/-- Bytes of WEIGHTS that a leaf's kernel store holds behind the kernels (R250). -/
def JobImage.resident (i : JobImage) : Nat := min i.weights.length (524288 - i.kernels.length)

/-- Fill the kernel store of a local leaf of job j: the KERNELS section unchanged at its start, then WEIGHTS as far as the
store holds (R215, R250, R267). -/
def fillKernels (j i : Nat) (s : State) : State :=
  match (s.slot j).image with
  | none => s
  | some img =>
    s |> putBytes (kernelBase i) (img.kernels ++ img.weights.take img.resident)
      |> wr (Obj.threshWeightsResident i) img.resident

/-! ### Neuron words (R203) -/

/-- The place of a neuron's word in the neuron store: a free place, or the next one, where it has none yet. Which place a
neuron takes is the model's choice (log entry 88). -/
def Stall.neuronPlace (st : Stall) (p : Nat) : Nat :=
  match st.neurons.idxOf? (p + 1) with
  | some n => n
  | none => (st.neurons.idxOf? 0).getD st.neurons.length
abbrev neuronAddr (i n : Nat) : Nat := stallBase i + 4 * (n % 262144)
/-- The word of a neuron of stall i; a neuron without a place is at rest. -/
def State.neuron (s : State) (i p : Nat) : Nat :=
  if (s.stall i).neurons.contains (p + 1) then s.leMem (neuronAddr i ((s.stall i).neuronPlace p)) 4 else 0
def setNeuron (i p w : Nat) (s : State) : State :=
  let n := (s.stall i).neuronPlace p
  s |> updStall i (fun st => { st with neurons := if n < st.neurons.length then setAt st.neurons n (p + 1) else st.neurons ++ [p + 1] })
    |> putBytes (neuronAddr i n) (leBytes 4 w)
/-- Forget the neurons that p selects by packed place. -/
def dropNeurons (i : Nat) (p : Nat → Bool) (s : State) : State :=
  updStall i (fun st => { st with neurons := st.neurons.map (fun x => if x != 0 && p (x - 1) then 0 else x) }) s
/-- The neurons of a row of layer n start at rest with a tick (R198). -/
def restRow (i n tick row : Nat) (l : List Byte) (s : State) : State :=
  (List.range (lyW l)).foldl (fun s x => (List.range (lyOut l)).foldl (fun s c =>
    setNeuron i (placeOf n row x c) (tick % 16384 * 4) s) s) s
/-- The tick of B_k in a spike layer of job j (R204). -/
def State.boundaryTick (s : State) (j k : Nat) (l : List Byte) : Nat := (k - s.rd (Obj.jobEpochStep j)) * s.periodUs / 2 ^ spShift l
/-- Every row that a re-admitted leaf owns restarts at step k (R198, R199). R198 does not say with which tick: the model takes
that of B_k (log entry 107). -/
def restLeaf (k j i : Nat) (cut : List Nat) (s : State) : State :=
  match (s.slot j).image with
  | none => s
  | some img => (List.range img.layers.length).foldl (fun s n =>
      let l := img.layer n
      if isSpike l then
        (img.owned cut (s.jobGates j).length i n).foldl (fun s r => restRow i n (s.boundaryTick j k l) r l s) s
      else s) s

/-- Leaves of the yard of job j at the start of its run: those that are in service. -/
def State.startCut (s : State) (j : Nat) : List Nat :=
  (s.yardLeaves s.dict (s.jobYard j)).filter (fun l => !(isLocal l && bit (s.rd Obj.muckOutOfService) l))

/-- The bale that sets JOB.RUN to 1 has applied at B_k (R184). -/
def startJob (k j : Nat) (s : State) : State :=
  let y := s.jobYard j
  let cut := s.startCut j
  let out := (s.yardLeaves s.dict y).filter (fun l => !cut.contains l)
  let s := s |> setJobState j 5 |> wr (Obj.jobEpochStep j) k |> updSlot j (fun sl => { sl with leaves := [] })
    |> updYard y (fun _ => { Yard.reset with cuts := [(k, cut)] }) |> setYardState y 1 |> writeRegions j cut
  let s := (cut.filter isLocal).foldl (fun s i => s |> initStall k i |> fillKernels j i) s
  let s := if out.isEmpty then s else failLeaves j out (s.boundaryUs k) [] s
  (remoteMembers s.dict y).foldl (fun s (m : Nat × Nat) =>
    if s.serves j m.1 m.2 then s else failRemote j m.1 m.2 (s.boundaryUs k) s) s

/-- The run of job j is over: its last step is DONE (R185). -/
def endJob (j : Nat) (s : State) : State :=
  let y := s.jobYard j
  let s := ((s.yard y).cut.filter isLocal).foldl (fun s i =>
    if (s.stall i).queue.isEmpty && (s.stall i).late.isEmpty then s else discardStallEvents i s) s
  s |> setJobState j 2 |> updYard y (fun _ => Yard.reset) |> setYardState y 0

/-- Every STOPPING job whose last step is no longer alive returns to LOADED. -/
def endJobs (s : State) : State :=
  (List.range 64).foldl (fun s j =>
    if s.rd (Obj.jobState j) = 6 && !(s.steps.any (fun r => r.k ≤ s.rd (Obj.jobStopStep j))) then endJob j s else s) s

/-- The bale that sets JOB.RUN to 0 has applied at B_k (R185). -/
def stopJob (k j : Nat) (s : State) : State := s |> setJobState j 6 |> wr (Obj.jobStopStep j) (k - 1)

/-- What a boundary does to slot j once the bales have applied: a job that starts and stops there never runs. -/
def jobBoundary (k j : Nat) (s : State) : State :=
  let run := s.rd (Obj.jobRun j) == 1
  let st := s.rd (Obj.jobState j)
  if st = 4 && (s.slot j).startAt ≤ k then (if run then startJob k j s else s |> setJobState j 2 |> updSlot j (fun sl => { sl with leaves := [] }))
  else if st = 5 && !run then stopJob k j s
  else s

/-! ### Re-maps (R196 to R199) -/

/-- Rows of a group that a leaf owns under one cut and did not own under another. -/
def newRows (g : List Byte) (old new : List Nat) (gates leaf : Nat) : List Nat :=
  let was := ownedRows g old gates leaf
  (ownedRows g new gates leaf).filter (fun r => !was.contains r)

/-- Rows that restart on a local leaf, over all groups of job j. -/
def State.restarts (s : State) (j : Nat) (old new : List Nat) (leaf : Nat) : Nat :=
  match (s.slot j).image with
  | none => 0
  | some img =>
    sumNat ((List.range img.groups.length).map (fun g =>
      (newRows (img.group g) old new (img.ports g (s.jobGates j).length) leaf).length))

def updJobStep (k j : Nat) (f : JobStep → JobStep) (s : State) : State :=
  updStep k (fun r => { r with jobs := supd JobStep.reset j f r.jobs }) s

/-- The cut `new` governs job j from step k on: region maps, and the rows that restart on each local leaf (R196, R198). -/
def enterCut (k j : Nat) (new : List Nat) (s : State) : State :=
  let y := s.jobYard j
  let old := (s.yard y).cut
  let s := s |> updYard y (fun yd => { yd with cuts := (k, new) :: yd.cuts }) |> inc 32 (Obj.yardRemaps y) |> writeRegions j new
    |> updJobStep k j (fun x => { x with remapFirst := true })
  (new.filter isLocal).foldl (fun s i =>
    let n := s.restarts j old new i
    if n = 0 then s
    else
      s |> addE 32 (Obj.stallRowsRestarted i) 0 n |> detect (stallBlock i) Src.stallRowsRestarted
        |> updJobStep k j (fun x => { x with restarted := true })) s

/-- Whether a member of record y has failed. -/
def State.anyFailed (s : State) (y : Nat) : Bool :=
  !(s.yard y).failedMembers.isEmpty || (s.yardLeaves s.dict y).any (s.yard y).failed.contains

/-- A waiting re-map of job j applies at B_k: re-admitted leaves start at rest, and the new cut comes into force. -/
def applyRemap (k j : Nat) (w : Remap) (s : State) : State :=
  let y := s.jobYard j
  let new := s.nextCut y w.readmit w.members
  let s := updYard y (fun yd => { yd with
    failed := yd.failed.filter (fun l => !w.readmit.contains l), misses := yd.misses.filter (fun p => !w.readmit.contains p.1),
    failedMembers := yd.failedMembers.filter (fun m => !w.members.contains m), waiting := none }) s
  let s := (w.readmit.filter isLocal).foldl (fun s l =>
    s |> initStall k l |> fillKernels j l |> updStall l (fun st => { st with throttled := none })) s
  let s := enterCut k j new s
  let s := (w.readmit.filter (fun l => isLocal l && new.contains l)).foldl (fun s l => restLeaf k j l new s) s
  let s := s |> setYardState y (if new.isEmpty then 4 else if s.anyFailed y then 3 else 1)
  if (w.readmit.filter isLocal).isEmpty then s else sendHeartbeats (fun _ => true) j s

/-- Every re-map whose apply step has come. -/
def remapBoundary (k : Nat) (s : State) : State :=
  s.runningSlots.foldl (fun s j =>
    match (s.yard (s.jobYard j)).waiting with
    | some w => if w.step ≤ k then applyRemap k j w s else s
    | none => s) s

/-- The remote members below slot i of record y. -/
def State.slotMembers (s : State) (y i : Nat) : List (Nat × Nat) := remoteBelow s.dict 9 (s.rdE (Obj.yardMembers y) i)

/-- Whether the member in slot i of record y, in the yard of job j, has failed. -/
def State.memberFailed (s : State) (j y i : Nat) : Bool :=
  let yd := s.yard (s.jobYard j)
  let w := s.rdE (Obj.yardMembers y) i
  let ls := s.slotLeaves s.dict y i
  (!ls.isEmpty && ls.all (fun l => yd.failed.contains l)) || (memKind w == 3 && yd.failedMembers.contains (memberCode (memNode w, memNum w)))

/-- Whether a failed member may be re-admitted: local stalls IDLE with their domain ON, remote members serving (R199). -/
def State.memberReady (s : State) (j y i : Nat) : Bool :=
  (s.slotMembers y i).all (fun m => s.serves j m.1 m.2)
    && ((s.slotLeaves s.dict y i).filter isLocal).all (fun l => s.stallState l == 1 && s.isOn (stallDomain l))

/-- A write of slot i to YARD.READMIT of record y (R199). -/
def yardReadmit (y i : Nat) (s : State) : Nat × State :=
  match s.runningSlots.find? (fun j => s.jobYard j < 256 && (yardsBelow s.dict 9 (s.jobYard j)).contains y) with
  | none => (Ab.inconsistent, s)
  | some j =>
    if !(s.memberFailed j y i && s.memberReady j y i) then (Ab.inconsistent, s)
    else
      let ls := s.slotLeaves s.dict y i
      let ms := (s.slotMembers y i).map memberCode
      (Ab.ok, scheduleRemap j s.nowUs (if ls.all isLocal && ms.isEmpty then 2 else 8) ls ms s)

end Sys2Proof.Machine
end

