-- ==== Sys2Proof/Machine/LeafOps.lean ====
section
/-!
DEFINITION. What the spike engine and the thresher of a leaf share: the rows of its layers (R186, R219, R235), the steps
that its layers have finished, the halo rows between leaves (R187 to R192, R225, R226), and flagged rows (R232, R263).
-/
namespace Sys2Proof.Machine

/-- A local leaf at work: its stall, the slot and image of its job, the bound gates. -/
structure Leaf where
  i : Nat
  j : Nat
  img : JobImage
  gates : List Nat
  deriving DecidableEq, Repr

/-- The job that stall i works for, as long as it has not failed in its yard. -/
def State.leafOf (s : State) (i : Nat) : Option Leaf :=
  match s.leafJob i with
  | none => none
  | some j =>
    if (s.yard (s.jobYard j)).failed.contains i || !s.isOn (stallDomain i) then none
    else (s.slot j).image.map (fun img => ⟨i, j, img, s.jobGates j⟩)

/-- The cut that governs step k of the leaf's job. -/
def State.cutOf (s : State) (f : Leaf) (k : Nat) : List Nat := (s.yard (s.jobYard f.j)).cutAt k
/-- First step of the job's run. -/
def State.epochStep (s : State) (f : Leaf) : Nat := s.rd (Obj.jobEpochStep f.j)
/-- B_k in µs since the job epoch. -/
def State.relUs (s : State) (f : Leaf) (k : Nat) : Nat := (k - s.epochStep f) * s.periodUs

/-! ### Steps of a layer -/

/-- The step that layer n of a stall works on. -/
def Stall.layerStep (st : Stall) (n : Nat) : Nat := st.first + sget 0 st.counts n
def Stall.finished (st : Stall) (n k : Nat) : Bool := k < st.layerStep n
/-- The step whose events the stall takes in. -/
def Stall.eventStep (st : Stall) : Nat := st.first + st.eventsDone
/-- Whether every layer of a leaf has finished step k. -/
def State.leafFinished (s : State) (f : Leaf) (k : Nat) : Bool :=
  (List.range f.img.layers.length).all (fun n => (s.stall f.i).finished n k)

/-- Whether the halo rows of layer src that leaf f needs in step k are there. -/
def State.haloReady (s : State) (f : Leaf) (src k : Nat) : Bool :=
  (f.img.producers (s.cutOf f k) f.gates.length src f.i).all (fun p => (s.stall f.i).halosIn.contains (src, k, p))

/-- Whether layer src feeds its readers in step k: finished on the leaf, and its halo rows there (R222, R240). -/
def State.sourceReady (s : State) (f : Leaf) (src k : Nat) : Bool := (s.stall f.i).finished src k && s.haloReady f src k

/-- A slot that layer n of a leaf must fill in step k still holds its halo of step k − 2 (R191). -/
def State.slotBlocked (s : State) (f : Leaf) (n k : Nat) : Bool :=
  s.halos.any (fun h => h.layer == n && h.producer == f.i && h.step < k && h.step % 2 == k % 2)

/-- At a re-map, the rows of layer n that change owner restart when the layer passes on to step k (R198): the words of the old
owner go, those of the new owner are at rest with the tick of B_k (log entry 107), and SURF2 words of such rows are cleared in
halos too (R239). -/
def restartRows (f : Leaf) (n k : Nat) (s : State) : State :=
  let old := s.cutOf f (k - 1)
  let new := s.cutOf f k
  if k ≤ (s.stall f.i).first ∨ old = new then s
  else
    let m := f.gates.length
    let l := f.img.layer n
    let gone := fun (p : Nat) => placeLayer p == n && f.img.owner old m n (placeRow p) != f.img.owner new m n (placeRow p)
    let s := s |> dropNeurons f.i gone |> updStall f.i (fun st => { st with
      surface := st.surface.filter (fun p => !gone p.1 && (placeLayer p.1 != n || (f.img.computed new m f.i n).contains (placeRow p.1))) })
    if isSpike l then
      ((f.img.owned new m f.i n).filter (fun r => f.img.owner old m n r != some f.i)).foldl (fun s r =>
        restRow f.i n (s.boundaryTick f.j k l) r l s) s
    else s

/-! ### Cells -/

/-- Value of a cell of a map that the leaf holds. -/
def Stall.cell (st : Stall) (layer k row x c : Nat) : Int :=
  match st.maps.find? (fun m => m.layer == layer && m.step == k && m.row == row && m.x == x && m.c == c) with
  | some m => m.v
  | none => 0
/-- One row of a map in the layout of R234. -/
def Stall.rowBytesOf (st : Stall) (layer k row channels width : Nat) : List Byte :=
  let g := groupWidth channels
  padTo (rowBytes channels width) ((List.range (ceilDiv channels g * width * g)).map (fun o =>
    let cg := o / (width * g)
    BitVec.ofInt 8 (st.cell layer k row (o % (width * g) / g) (cg * g + o % g))))
/-- A 64-byte block in compressed form (R236). -/
def compressBlock (b : List Byte) : List Byte :=
  let nz := b.filter (fun x => x != 0)
  leBytes 8 (maskOf ((List.range b.length).filter (fun i => b.getD i 0 != 0))) ++ padTo (ceilDiv nz.length 8 * 8) nz
/-- A row in compressed form. -/
def compressRow (b : List Byte) : List Byte := (chunksOf 64 b.length b).flatMap compressBlock
/-- The spike record of R224. -/
def spikeRecord (p : Spike) : DWord :=
  BitVec.ofNat 64 (p.channel * 2 ^ 56 + p.port * 2 ^ 50 + p.x * 2 ^ 39 + p.y * 2 ^ 28 + p.timeUs % 2 ^ 28)
def JobImage.spikeRow (img : JobImage) (p : Spike) : Nat := p.port * lyH (img.layer p.layer) + p.y

/-! ### Writing halo rows (R189, R225, R226) -/

/-- The spikes of a row that a slot takes, and whether the row was truncated. -/
def State.rowSpikes (s : State) (f : Leaf) (n k row : Nat) : List Spike × Bool :=
  let all := (s.stall f.i).spikes.filter (fun p => p.layer == n && p.step == k && f.img.spikeRow p == row)
  let cap := spRowCap (f.img.layer n)
  if bit (lyFlags (f.img.layer n)) 0 then (all.take cap, cap < all.length) else ([], false)

/-- Whether layer n writes a feature map into the scratchpad (R227, R235). -/
def hasMap (l : List Byte) : Bool := if isSpike l then bit (lyFlags l) 1 else isDense l && lyType l != tyDetect

/-- The lowest place of the scratchpad at which n bytes are free. Where a map lies there is the model's choice (log entry 88). -/
def Stall.scratchRoom (st : Stall) (n : Nat) : Option Nat :=
  minBy (fun (a : Nat) => (a : Int)) ((0 :: st.placed.map (fun r => r.at' + r.size)).filter (fun a =>
    a + n ≤ 0x300000 && st.placed.all (fun r => a + n ≤ r.at' || r.at' + r.size ≤ a)))
/-- Rows of the map of layer n in step k as they lie in the scratchpad. -/
def storeRows (f : Leaf) (n k : Nat) (rows : List Nat) (s : State) : State :=
  let l := f.img.layer n
  if !hasMap l then s
  else rows.foldl (fun s row =>
    let st := s.stall f.i
    let b := st.rowBytesOf n k row (lyOut l) (lyW l)
    match st.placed.find? (fun r => r.layer == n && r.step == k && r.row == row) with
    | some r => putBytes (scratchBase f.i + r.at') b s
    | none =>
      match st.scratchRoom b.length with
      | some a => s |> updStall f.i (fun st => { st with placed := st.placed ++ [⟨n, k, row, a, lyOut l, lyW l⟩] })
          |> putBytes (scratchBase f.i + a) b
      | none => s) s

/-- KERNELS and WEIGHTS as leaf f reads them: from its kernel store, and the weights that the store does not hold from the
image in the job area (R215, R250). -/
def State.kernelsOf (s : State) (f : Leaf) : List Byte := s.bytesAt (kernelBase f.i) f.img.kernels.length
/-- Where byte o of WEIGHTS lies in the job area. -/
def Leaf.weightAddr (f : Leaf) (o : Nat) : Nat :=
  jobPlace f.j imageBuffer 0 0 f.img.raw.length + (((sectionsOf f.img.raw).find? (fun x => x.kind == 3)).map (·.offset)).getD 0 + o
def State.weightsOf (s : State) (f : Leaf) : List Byte :=
  let n := f.img.resident
  s.bytesAt (kernelBase f.i + f.img.kernels.length) n ++ s.bytesAt (f.weightAddr n) (f.img.weights.length - n)

/-- Where stacked row `row` of the gathered map of layer n lies in step k (R260). -/
def Leaf.gatherAddr (f : Leaf) (n k row : Nat) : Nat :=
  let l := f.img.layer n
  jobPlace f.j (gatherBuffer + n) (k % 2) 0 (f.img.mapBytes n f.gates.length) + row * rowBytes (lyOut l) (lyW l)
/-- The rows that a leaf owns of a layer with GATHER go into the gathered map of the step. -/
def gatherRows (f : Leaf) (n k : Nat) (rows : List Nat) (s : State) : State :=
  let l := f.img.layer n
  if isDense l && bit (lyFlags l) 1 && lyType l != tyDetect then
    rows.foldl (fun s r => memWrite (f.gatherAddr n k r) ((s.stall f.i).rowBytesOf n k r (lyOut l) (lyW l)) s) s
  else s

/-- The slot that leaf f fills with rows of layer n for consumer c. -/
def State.slotFor (s : State) (f : Leaf) (n k c : Nat) (rows : List Nat) : HaloSlot :=
  ⟨n, c, f.i, k, (s.stall f.i).maps.filter (fun m => m.layer == n && m.step == k && rows.contains m.row),
    if isSpike (f.img.layer n) then rows.flatMap (fun r => (s.rowSpikes f n k r).1) else [],
    rows.filter (fun r => (s.stall f.i).flagged.contains (n, k, r))⟩

/-- One row as a HALO frame carries it (R431). -/
def State.haloRowBytes (s : State) (f : Leaf) (n k row size : Nat) : List Byte :=
  let l := f.img.layer n
  if isSpike l && bit (lyFlags l) 0 then
    let ps := (s.rowSpikes f n k row).1
    padTo size (leBytes 2 ps.length ++ leBytes 6 0 ++ ps.flatMap (fun p => leBytes 8 (spikeRecord p).toNat))
  else padTo size ((s.stall f.i).rowBytesOf n k row (lyOut l) (lyW l))

/-- Send rows to a consumer on another device: one set for the rows above its stripe and one for those below. -/
def sendHalo (f : Leaf) (n k c : Nat) (rows : List Nat) (s : State) : State :=
  let g := f.img.readerGroup n
  let size := grpHaloBytes (f.img.group g)
  let first := (f.img.owned (s.cutOf f k) f.gates.length c ((f.img.rowReaders n).headD n)).headD 0
  let per := max 1 ((cfgN (s.cfgOf k) Obj.netFrameBytes - 48) / max 1 size)
  let y := s.jobYard f.j
  let send := fun (side : Nat) (rs : List Nat) (s : State) =>
    if rs.isEmpty then s
    else sendSet 2 (leafNode c) y ((((remoteMembers s.dict y).find? (fun m => m.1 == leafNode c)).map (·.2)).getD 0) k
      ((chunksOf per rs.length rs).map (fun part =>
        leBytes 2 g ++ leBytes 1 side ++ leBytes 1 f.i ++ leBytes 1 (c % 256) ++ leBytes 3 0 ++ leBytes 4 (part.headD 0)
          ++ leBytes 4 part.length ++ part.flatMap (fun r => s.haloRowBytes f n k r size))) s
  s |> send 0 (rows.filter (· < first)) |> send 1 (rows.filter (first ≤ ·))

/-- The producer's halo rows of step k for every consumer; a consumer that is missing in the step takes none (R191). -/
def writeHalos (f : Leaf) (n k : Nat) (s : State) : State :=
  let cut := s.cutOf f k
  let gone := ((s.step? k).map (·.missing)).getD []
  let cs := cut.filter (fun c => c != f.i && !gone.contains c && !(f.img.passed cut f.gates.length n f.i c).isEmpty)
  let rows := dedup (cs.flatMap (fun c => f.img.passed cut f.gates.length n f.i c))
  let cutRows := if isSpike (f.img.layer n) then rows.filter (fun r => (s.rowSpikes f n k r).2) else []
  let s := cutRows.foldl (fun s _ =>
    s |> inc 32 (Obj.spikeRowTruncated f.i) |> detect (stallBlock f.i) Src.stallRowTruncated) s
  let s := if cutRows.isEmpty then s else updStall f.i (fun st => { st with truncated := st.truncated ++ [(n, k)] }) s
  cs.foldl (fun s c =>
    let rs := f.img.passed cut f.gates.length n f.i c
    if isLocal c then { s with halos := s.halos ++ [s.slotFor f n k c rs] } else sendHalo f n k c rs s) s

/-- Layer n of a leaf has finished step k: halo rows, compressed output, and the next step. -/
def finishLayer (f : Leaf) (n k : Nat) (s : State) : State :=
  let s := writeHalos f n k s
  let l := f.img.layer n
  let s := if isDense l && lyType l != tyDetect && bit (lyFlags l) 0 then
      let rows := f.img.owned (s.cutOf f k) f.gates.length f.i n
      let b := ceilDiv (4 * rows.length) 8 * 8
        + sumNat (rows.map (fun r => (compressRow ((s.stall f.i).rowBytesOf n k r (lyOut l) (lyW l))).length))
      addE 64 (Obj.threshCompressedBytes f.i) 0 b s
    else s
  let s := gatherRows f n k (f.img.owned (s.cutOf f k) f.gates.length f.i n) s
  s |> updStall f.i (fun st => { st with counts := supd 0 n (· + 1) st.counts }) |> restartRows f n (k + 1)

/-! ### Using halo rows (R190 to R192) -/

/-- The reader of layer src on a leaf that works on the oldest step. -/
def State.haloReader (s : State) (f : Leaf) (src : Nat) : Option Nat :=
  minBy (fun n => ((s.stall f.i).layerStep n : Int)) (f.img.rowReaders src)

/-- The halo rows of a slot enter the consumer's store. -/
def takeSlot (f : Leaf) (rows : List Nat) (h : HaloSlot) (s : State) : State :=
  let s := updStall f.i (fun st => { st with
    maps := st.maps.filter (fun m => !(m.layer == h.layer && m.step == h.step && rows.contains m.row)) ++ h.cells,
    spikes := st.spikes ++ h.spikes, flagged := st.flagged ++ h.flagged.map (fun r => (h.layer, h.step, r)),
    halosIn := st.halosIn ++ [(h.layer, h.step, h.producer)] }) s
  storeRows f h.layer h.step rows s

/-- HALO_ARRIVAL: the slots of layer src that hold the step the consumer is computing are used and released; halos that
come too late are released unused. -/
def haloArrival (i src : Nat) (s : State) : State :=
  match s.leafOf i with
  | none => s
  | some f =>
    match s.haloReader f src with
    | none => s
    | some n =>
      let k := (s.stall i).layerStep n
      let here := s.halos.filter (fun h => h.layer == src && h.consumer == i && h.step ≤ k)
      let s := { s with halos := s.halos.filter (fun h => !(h.layer == src && h.consumer == i && h.step ≤ k)) }
      let waits := (s.stall i).finished src k
      here.foldl (fun s h =>
        if h.step == k && !(s.stall i).halosIn.contains (src, k, h.producer) then
          let s := takeSlot f (f.img.passed (s.cutOf f k) f.gates.length src h.producer i) h s
          if waits then inc 32 (Obj.stallHaloWaits i) s else s
        else s) s

/-- T of R192 in ns: the time that the leaf needs for a group and all later ones. -/
def State.tailNs (s : State) (f : Leaf) (g k : Nat) : Nat :=
  let r := f.img.group g
  (grpTail r + grpTailPer r * ownedGranules r (s.cutOf f k) (f.img.ports g f.gates.length) f.i) * 4

/-- A missing halo is zero-filled (R192). -/
def zeroFill (f : Leaf) (src k p : Nat) (s : State) : State :=
  let rows := f.img.passed (s.cutOf f k) f.gates.length src p f.i
  s |> takeSlot f rows ⟨src, f.i, p, k, [], [], rows⟩ |> inc 32 (Obj.stallHaloFilled f.i)
    |> detect (stallBlock f.i) Src.stallHaloZeroFill |> updJobStep k f.j (fun x => { x with haloFilled := true })

/-- HALO_DEADLINE: at B_{k+SL+1} − T the halos that leaf i still misses are zero-filled; those that lie in their slots are
used. -/
def haloDeadline (i src : Nat) (s : State) : State :=
  match s.leafOf i with
  | none => s
  | some f =>
    match s.haloReader f src with
    | none => s
    | some n =>
      let k := (s.stall i).layerStep n
      let lacks := (f.img.producers (s.cutOf f k) f.gates.length src i).filter (fun p =>
        !(s.stall i).halosIn.contains (src, k, p)
          && !s.halos.any (fun h => h.layer == src && h.consumer == i && h.producer == p && h.step == k))
      let due := s.boundaryUs (k + slOf (s.cfgOf k) + 1) * 1000 - s.tailNs f (f.img.groupOf n) k
      if lacks.isEmpty || !s.inRun f.j k then s
      else
        match s.dueAt (due * nsUnit) with
        | none => s
        | some s => lacks.foldl (fun s p => zeroFill f src k p s) (haloArrival i src s)

/-! ### Flagged rows (R232, R263) -/

/-- The rows of layer n that read a flagged row of one of its sources. -/
def State.flaggedOut (s : State) (f : Leaf) (n k : Nat) (srcs : List Nat) : List Nat :=
  let bad := (s.stall f.i).flagged
  if bad.isEmpty then []
  else (f.img.computed (s.cutOf f k) f.gates.length f.i n).filter (fun r =>
    srcs.any (fun src => (f.img.rowsRead n src r).any (fun q => bad.contains (src, k, q))))

def flagRows (f : Leaf) (n k : Nat) (srcs : List Nat) (s : State) : State :=
  let rs := s.flaggedOut f n k srcs
  if rs.isEmpty then s else updStall f.i (fun st => { st with flagged := st.flagged ++ rs.map (fun r => (n, k, r)) }) s

/-- The flagged rows that a leaf owns in layer n, in order. -/
def State.flaggedOwned (s : State) (f : Leaf) (n k : Nat) : List Nat :=
  (f.img.owned (s.cutOf f k) f.gates.length f.i n).filter (fun r => (s.stall f.i).flagged.contains (n, k, r))

/-- First row and length of the ranges A and B that report flagged rows among those that a leaf holds: one over the flagged
rows of the upper half of its stripe, one over those of the lower half. R232 and R263 give one range for each side and do not
say where the sides part (log entry 106). -/
def flagRanges (owned rows : List Nat) : (Nat × Nat) × (Nat × Nat) :=
  let upper := owned.take ((owned.length + 1) / 2)
  let span := fun (l : List Nat) => if l.isEmpty then (0, 0) else (l.headD 0, l.getLastD 0 + 1 - l.headD 0)
  (span (rows.filter upper.contains), span (rows.filter (fun r => !upper.contains r)))

end Sys2Proof.Machine
end

