-- ==== Sys2Proof/Machine/WatchOps.lean ====
section
/-!
DEFINITION. What winnowing's two users share: the mode that a layer runs in (R271, R279, R285, R286), the watch (R284,
R285), and the count of active cycles (R289, R292).
-/
namespace Sys2Proof.Machine

/-- Whether layer n of a stall runs exact in step k after a trip. -/
def Stall.forcedAt (st : Stall) (n k : Nat) : Bool :=
  st.forced.any (fun e => e.1 == n && e.2.1 ≤ k && (match e.2.2 with | none => true | some u => k < u))
/-- Winnow mode of layer n in step k: 0 EXACT, 1 SETTLE, 2 COARSE. A SPIKE_CONV layer in SETTLE acts as in EXACT. -/
def State.layerMode (s : State) (f : Leaf) (n k : Nat) : Nat :=
  let m := lyMode (f.img.layer n)
  if (s.stall f.i).forcedAt n k || (isSpike (f.img.layer n) && m == 1) then 0 else m

/-- Layer n trips on stall i in step k (R285). -/
def tripLayer (i n k src : Nat) (s : State) : State :=
  let s := detect (stallBlock i) src s
  if (s.stall i).forced.any (fun e => e.1 == n && e.2.2.isNone) then s
  else
    let old := s.rdB (Obj.winnowForced i)
    let b := padTo (max old.length (n / 8 + 1)) old
    s |> updStall i (fun st => { st with forced := st.forced ++ [(n, k + 1, none)] })
      |> wrB (Obj.winnowForced i) (setAt b (n / 8) (BitVec.ofNat 8 (setBit (b.getD (n / 8) 0).toNat (n % 8))))
      |> wr (Obj.winnowForcedCount i) (s.rd (Obj.winnowForcedCount i) + 1)

/-- A change of WINNOW.RELEASE has applied at B_k (R286). -/
def releaseForced (i k : Nat) (s : State) : State :=
  s |> updStall i (fun st => { st with forced := st.forced.map (fun e => (e.1, e.2.1, some (e.2.2.getD k))) })
    |> clearObj (Obj.winnowForced i) 1 |> wr (Obj.winnowForcedCount i) 0

/-- Count an output of layer n in step k for the watch; answers whether it is sampled (R284). -/
def watchTurn (i n k : Nat) (s : State) : Bool × State :=
  let c := sget 0 (s.stall i).watched n + 1
  (c % 2 ^ cfgN (s.cfgOf k) (Obj.winnowWatchShift i) == 0, updStall i (fun st => { st with watched := sset 0 n c st.watched }) s)

/-- A mismatch or a breach. -/
def watchMismatch (i n k : Nat) (s : State) : State :=
  s |> inc 32 (Obj.winnowMismatches i) |> tripLayer i n k Src.stallWatchMismatch

/-- A COARSE sample with its absolute error in output LSB, and the coarse bound. -/
def watchCoarse (i n k err bound : Nat) (s : State) : State :=
  let w := cfgN (s.cfgOf k) (Obj.winnowWatchWindow i)
  let mine := ((n, err) :: (s.stall i).coarse.filter (fun e => e.1 == n)).take w
  let s := s |> updStall i (fun st => { st with coarse := mine ++ st.coarse.filter (fun e => e.1 != n) })
    |> wr (Obj.winnowErrorMax i) (satTo 16 (max (s.rd (Obj.winnowErrorMax i)) err))
  let s := if bound < err then watchMismatch i n k s else s
  if mine.length = w ∧ cfgN (s.cfgOf k) (Obj.winnowWatchLimit i) * w < 16 * sumNat (mine.map (·.2)) then
    tripLayer i n k Src.stallWatchForced s
  else s

/-- Cycles of work on stall i, counted in a busy counter: a throttled stall takes two cycles for each (R289, R292). -/
def busyFor (obj i cycles : Nat) (s : State) : State :=
  let slow := (s.stall i).throttled.isSome
  let n := if slow then 2 * cycles else cycles
  let s := s |> addE 64 obj 0 n |> addE 64 (Obj.winnowActiveCycles i) 0 n
  if slow then addE 64 (Obj.winnowThrottledCycles i) 0 n s else s

end Sys2Proof.Machine
end

