-- ==== Sys2Proof/Machine/SpikeOps.lean ====
section
/-!
DEFINITION. The spike engine of a leaf: neuron words, leak and update (R203 to R212), gleaning (R213, R214), kernels and
the contribution buffer (R215 to R221, R283), the order of a step's work (R222, R223), and its spikes, maps and records
(R224 to R229).
-/
namespace Sys2Proof.Machine

/-! ### A spike layer at a step -/

/-- What an update needs of a spike layer: θ, φ, τ and the leak table, ticks, and the step. -/
structure SpikeCtx where
  f : Leaf
  n : Nat
  k : Nat
  period : Nat
  rel : Nat                 -- B_k in µs since the job epoch
  mode : Nat
  deriving DecidableEq, Repr

def SpikeCtx.layer (c : SpikeCtx) : List Byte := c.f.img.layer c.n
def SpikeCtx.shift (c : SpikeCtx) : Nat := spShift c.layer
def SpikeCtx.table (c : SpikeCtx) : List Byte := c.f.img.tables.getD (spTau c.layer) []
def SpikeCtx.tau (c : SpikeCtx) : Nat := leAt c.table 0 4
/-- L[i] (R207). -/
def SpikeCtx.leakAt (c : SpikeCtx) (i : Nat) : Nat := leAt c.table (8 + 2 * i) 2
/-- The reference tick E (R206). -/
def SpikeCtx.refTick (c : SpikeCtx) : Int := (((c.rel + c.period) / 2 ^ c.shift : Nat) : Int) - 1
/-- The tick of B_k. -/
def SpikeCtx.firstTick (c : SpikeCtx) : Int := ((c.rel / 2 ^ c.shift : Nat) : Int)
/-- The tick of a time in µs since the job epoch (R204). -/
def SpikeCtx.tickOf (c : SpikeCtx) (us : Int) : Int := asr us c.shift
/-- The step of a full tick, from the job's first step (R206), and the step worked on. -/
def SpikeCtx.stepOf (c : SpikeCtx) (t : Int) : Int := t * ((2 ^ c.shift : Nat) : Int) / (c.period : Int)
def SpikeCtx.cur (c : SpikeCtx) : Int := ((c.rel / c.period : Nat) : Int)

def State.spikeCtx (s : State) (f : Leaf) (n k : Nat) : SpikeCtx := ⟨f, n, k, s.periodUs, s.relUs f k, s.layerMode f n k⟩

/-! ### Neuron words and leak (R203, R206, R208) -/

def membraneOf (w : Nat) : Int := toSigned 16 (w / 65536)
def tickField (w : Nat) : Nat := w / 4 % 16384
def neuronWord (m : Int) (tick : Int) (spiked driven : Bool) : Nat :=
  ofSigned 16 m * 65536 + ofSigned 14 tick * 4 + boolNat spiked * 2 + boolNat driven
/-- (E − s) mod 2¹⁴. -/
def SpikeCtx.ageField (c : SpikeCtx) (w : Nat) : Nat := ((c.refTick - (tickField w : Int)) % 16384).toNat
/-- The full tick of a stored tick. -/
def SpikeCtx.fullTick (c : SpikeCtx) (w : Nat) : Int := c.refTick - (c.ageField w : Int)
/-- A membrane leaked across `a` > 0 ticks; the product is rounded toward zero. -/
def SpikeCtx.leak (c : SpikeCtx) (m : Int) (a : Nat) : Int :=
  if 8 * c.tau ≤ a then 0 else Int.tdiv (m * (c.leakAt (32 * a / c.tau) : Int)) 65536

/-! ### The update (R209 to R212, R283) -/

/-- The outcome of one neuron update. -/
structure Updated where
  word : Nat
  spike : Option Int        -- tick of the spike that it emits
  stale : Bool
  saturated : Bool
  overdriven : Bool
  settled : Bool            -- took the midpoint (R283)
  wrong : Bool              -- a settled decision that the exact value contradicts
  deriving DecidableEq, Repr

/-- The contribution that a neuron with membrane m takes (R273, R283), whether it was settled, and whether the exact value
contradicts the decision. -/
def SpikeCtx.decide (c : SpikeCtx) (m : Int) (x : Contrib) : Int × Bool × Bool :=
  let θ := spTheta c.layer
  let margin : Int := lyMargin c.layer
  let below := m + x.hi < θ - margin
  let above := θ + margin < m + x.lo
  if c.mode = 2 && (below || above) then (x.mid, true, (m + x.exact < θ) != below) else (x.exact, false, false)

/-- Floor, threshold and flags once the contribution is added (R211, R212). -/
def SpikeCtx.fire (c : SpikeCtx) (m t : Int) (spiked driven : Bool) : Int × Option Int × Bool × Bool × Bool :=
  let θ := spTheta c.layer
  if c.stepOf t < c.cur ∨ m < θ then (m, none, spiked, driven, false)
  else
    let m' := if spiked then m else m - θ
    let sp := if spiked then none else some t
    if θ ≤ m' then (θ - 1, sp, true, true, true) else (m', sp, true, driven, false)

/-- One update of a neuron word by a summed contribution at a tick. -/
def SpikeCtx.update (c : SpikeCtx) (w : Nat) (x : Contrib) (tick : Int) : Updated :=
  let old := c.fullTick w
  let newer := old < tick
  if !newer && 8 * c.tau ≤ (old - tick).toNat then ⟨w, none, true, false, false, false, false⟩
  else
    let clear := newer && c.stepOf old < c.stepOf tick
    let spiked := bit w 1 && !clear
    let driven := bit w 0 && !clear
    let m := if newer then c.leak (membraneOf w) (tick - old).toNat else membraneOf w
    let (v, settled, wrong) :=
      if newer || old = tick then c.decide m x else (c.leak x.exact (old - tick).toNat, false, false)
    let t := if newer then tick else old
    let sum := satInt 16 (m + v)
    let (m', sp, spiked, driven, od) := c.fire (max (spFloor c.layer) sum) t spiked driven
    ⟨neuronWord m' t spiked driven, sp, false, sum != m + v, od, settled, wrong⟩

/-! ### Spikes and records (R212, R224, R229) -/

/-- Outputs of an image that name a layer, by entry type. -/
def JobImage.outputsOf (img : JobImage) (type n : Nat) : List (List Byte) :=
  img.outputs.filter (fun o => outType o == type && outLayer o == n)
/-- The key of a layer's event records in `Stall.records`. -/
abbrev eventKey (n : Nat) : Nat := 65536 + n

/-- Write a record; each leaf-scope buffer that is full drops it. -/
def keepRecord (f : Leaf) (key n k type : Nat) (r : DWord) (s : State) : State :=
  let held := ((s.stall f.i).records.filter (fun x => x.1 == key && x.2.1 == k)).length
  let full := (f.img.outputsOf type n).filter (fun o => outScope o == 0 && spCapacity (f.img.layer n) ≤ held)
  let s := updStall f.i (fun st => { st with records := st.records ++ [(key, k, r)] }) s
  full.foldl (fun s _ => s |> inc 64 (Obj.spikeRecordsDropped f.i) |> detect (stallBlock f.i) Src.stallRecordsDropped) s

/-- A neuron fires at a tick. -/
def emitSpike (c : SpikeCtx) (place : Nat) (tick : Int) (s : State) : State :=
  let h := max 1 (lyH c.layer)
  let p : Spike := ⟨c.n, c.k, placeRow place / h, placeRow place % h, placeX place, placeC place, (tick * ((2 ^ c.shift : Nat) : Int)).toNat⟩
  let s := s |> inc 64 (Obj.spikeSpikes c.f.i) |> updStall c.f.i (fun st => { st with spikes := st.spikes ++ [p] })
  if bit (lyFlags c.layer) 2 && !(c.f.img.outputsOf 5 c.n).isEmpty then keepRecord c.f c.n c.n c.k 5 (spikeRecord p) s else s

/-- Count an overdrive (R212), and those of the step; layers may work on steps some way apart. -/
def countOverdrive (i k : Nat) (s : State) : State :=
  let old := (s.stall i).overdrives.filter (fun p => k < p.1 + 16)
  let n := sget 0 old k + 1
  s |> inc 64 (Obj.spikeOverdrive i) |> updStall i (fun st => { st with overdrives := sput k n old })
    |> detectIf (n == cfgN (s.cfgOf k) (Obj.spikeOverdriveLimit i)) (stallBlock i) Src.stallOverdriveLimit

/-- Apply one entry of the contribution buffer. -/
def applyEntry (c : SpikeCtx) (tick : Int) (graded : Bool) (e : Nat × Contrib) (s : State) : State :=
  let i := c.f.i
  let u := c.update (s.neuron i e.1) e.2 tick
  let s := setNeuron i e.1 u.word s
  let s := if u.stale then inc 64 (Obj.spikeStaleInputs i) s else s
  let s := if u.saturated then inc 64 (Obj.spikeSaturations i) s else s
  let s := match u.spike with | some t => emitSpike c e.1 t s | none => s
  let s := if u.overdriven then countOverdrive i c.k s else s
  if graded && c.mode = 2 then
    let s := inc 64 (if u.settled then Obj.winnowCheapOutputs i else Obj.winnowExactOutputs i) s
    let (take, s) := watchTurn i c.n c.k s
    if take && u.settled then
      let s := inc 64 (Obj.winnowWatchSamples i) s
      if u.wrong then watchMismatch i c.n c.k s else s
    else s
  else s

/-! ### The contribution buffer (R220, R221) -/

/-- Contributions to neurons that take the exact path in a COARSE flush. -/
def exactSlots (c : SpikeCtx) (b : ContribBuf) (s : State) : Nat :=
  sumNat (b.entries.map (fun e =>
    if (c.update (s.neuron c.f.i e.1) e.2 b.tick).settled then 0 else e.2.n))

/-- Cycles of a flush. -/
def flushCycles (c : SpikeCtx) (b : ContribBuf) (s : State) : Nat :=
  let n := ceilDiv b.entries.length 16
  if b.graded && c.mode = 2 then 8 + max (ceilDiv b.slots 128 + ceilDiv (exactSlots c b s) 128) n
  else 8 + max (ceilDiv b.slots 64) n

/-- Flush what the buffer holds: every entry is applied once. -/
def flushContrib (f : Leaf) (s : State) : State :=
  match (s.stall f.i).buf with
  | none => s
  | some b =>
    let s := updStall f.i (fun st => { st with buf := none }) s
    if b.entries.isEmpty then s
    else
      let c := s.spikeCtx f b.layer b.step
      let s := s |> busyFor (Obj.spikeBusyCycles f.i) f.i (flushCycles c b s) |> inc 64 (Obj.spikeFlushes f.i)
        |> addE 64 (Obj.spikeSynUpdates f.i) 0 (sumNat (b.entries.map (fun e => e.2.n)))
        |> addE 64 (Obj.spikeNeuronUpdates f.i) 0 b.entries.length
      b.entries.foldl (fun s e => applyEntry c b.tick b.graded e s) s

/-- An input of a spike layer: port, column, row, channel, tick, and the value of a graded input. -/
structure Input where
  port : Nat
  x : Nat
  y : Nat
  c : Nat
  tick : Int
  v : Option Int
  deriving DecidableEq, Repr

/-- The contribution of a weight (R218, R283). -/
def SpikeCtx.contribution (c : SpikeCtx) (w : Int) (v : Option Int) : Contrib :=
  let k : Int := ((2 ^ spWeightShift c.layer : Nat) : Int)
  match v with
  | none => ⟨w * k, w * k, w * k, w * k, 1⟩
  | some v =>
    let h := asr v 4
    ⟨asr (w * v * k) 7, asr ((w * 16 * h + 15 * min w 0) * k) 7, asr ((w * 16 * h + 15 * max w 0) * k) 7,
      asr (w * (32 * h + 15) * k) 8, 1⟩

def Contrib.add (a b : Contrib) : Contrib := ⟨a.exact + b.exact, a.lo + b.lo, a.hi + b.hi, a.mid + b.mid, a.n + b.n⟩
def Contrib.zero : Contrib := ⟨0, 0, 0, 0, 0⟩

/-- The outputs (row, column) and taps (kx, ky) that an input reaches (R218). -/
def SpikeCtx.targets (c : SpikeCtx) (x : Input) : List (Nat × Nat × Nat × Nat) :=
  let l := c.layer
  let k := c.f.img.kernel (spKernel l)
  let st := max 1 (spStride l)
  (List.range k.kh).flatMap (fun (ky : Nat) => (List.range k.kw).filterMap (fun (kx : Nat) =>
    let ny : Int := (x.y : Int) - (ky : Int) + (((k.kh - 1) / 2 : Nat) : Int)
    let nx : Int := (x.x : Int) - (kx : Int) + (((k.kw - 1) / 2 : Nat) : Int)
    if 0 ≤ ny ∧ 0 ≤ nx ∧ ny % (st : Int) = 0 ∧ nx % (st : Int) = 0 ∧ ny / (st : Int) < lyH l ∧ nx / (st : Int) < lyW l then
      some (x.port * lyH l + (ny / (st : Int)).toNat, (nx / (st : Int)).toNat, kx, ky)
    else none))

/-- Add one contribution, flushing first where the buffer cannot take it. -/
def addContrib (c : SpikeCtx) (place : Nat) (x : Contrib) (tick : Int) (graded : Bool) (s : State) : State :=
  let full := match (s.stall c.f.i).buf with
    | some b => 4096 ≤ b.entries.length && (sfind b.entries place).isNone
    | none => false
  let s := if full then flushContrib c.f s else s
  let b := (s.stall c.f.i).buf.getD ⟨c.n, c.k, tick, 0, graded, []⟩
  let b := { b with entries := sput place ((sget Contrib.zero b.entries place).add x) b.entries }
  updStall c.f.i (fun st => { st with buf := some b }) s

/-- One input enters the buffer (R218 to R220); targets in rows that the leaf does not own are skipped. -/
def addInput (c : SpikeCtx) (x : Input) (s : State) : State :=
  let l := c.layer
  let kn := c.f.img.kernel (spKernel l)
  let cut := s.cutOf c.f c.k
  let ks := s.kernelsOf c.f
  let s := match (s.stall c.f.i).buf with
    | some b => if b.layer == c.n && b.tick == x.tick && b.step == c.k then s else flushContrib c.f s
    | none => s
  let ts := (c.targets x).filter (fun t => c.f.img.owner cut c.f.gates.length c.n t.1 == some c.f.i)
  ts.foldl (fun s t =>
    let s := (List.range (lyOut l)).foldl (fun s co =>
      addContrib c (placeOf c.n t.1 t.2.1 co)
        (c.contribution (kn.weight ks t.2.2.2 t.2.2.1 x.c co) x.v) x.tick x.v.isSome s) s
    updStall c.f.i (fun st => { st with buf := st.buf.map (fun b => { b with slots := b.slots + kn.groups * kn.width }) }) s) s

/-! ### Maps (R227) -/

/-- Value of a spike in the layer's map. -/
def SpikeCtx.mapValue (c : SpikeCtx) (p : Spike) : Int :=
  if bit (lyFlags c.layer) 3 then (1 + 126 * (p.timeUs - c.rel) / c.period : Nat) else (spMapValue c.layer : Int)
/-- Write the map of a finished layer. -/
def writeMap (c : SpikeCtx) (s : State) : State :=
  if bit (lyFlags c.layer) 1 then
    s |> updStall c.f.i (fun st => { st with maps := st.maps ++
        (st.spikes.filter (fun p => p.layer == c.n && p.step == c.k)).map (fun p =>
          ⟨c.n, c.k, c.f.img.spikeRow p, p.x, p.channel, c.mapValue p⟩) })
      |> storeRows c.f c.n c.k (c.f.img.owned (s.cutOf c.f c.k) c.f.gates.length c.f.i c.n)
  else s

/-- A spike layer's input for step k is exhausted. -/
def finishSpike (c : SpikeCtx) (srcs : List Nat) (s : State) : State :=
  s |> flushContrib c.f |> writeMap c |> flagRows c.f c.n c.k srcs |> finishLayer c.f c.n c.k

/-! ### Events (R13, R23, R24, R222) -/

/-- Fields of a canonical event (R93). -/
def evGate (e : DWord) : Nat := field e.toNat 63 58
def evPol (e : DWord) : Nat := field e.toNat 57 57
def evX (e : DWord) : Nat := field e.toNat 56 46
def evY (e : DWord) : Nat := field e.toNat 45 35
def evTime (e : DWord) : Nat := field e.toNat 31 0

/-- Time of an event in µs since the job epoch: on time it lies in the step that begins at `rel`, late it lies before. -/
def eventUs (rel : Nat) (late : Bool) (e : DWord) : Int :=
  if late then (rel : Int) - ((((rel : Int) - (evTime e : Int)) % (2 ^ 32 : Nat)))
  else (rel : Int) + (((evTime e : Int) - (rel : Int)) % (2 ^ 32 : Nat))

/-- The SPIKE_EVENT layers of an image, and its SHEAF layers. -/
def JobImage.eventLayers (img : JobImage) : List Nat :=
  (List.range img.layers.length).filter (fun n => lyType (img.layer n) == tySpikeEvent)
def JobImage.sheafLayers (img : JobImage) : List Nat :=
  (List.range img.layers.length).filter (fun n => lyType (img.layer n) == tySheaf)

/-- One event into one SPIKE_EVENT layer: its record where an output asks for it, then its contributions. -/
def feedEvent (c : SpikeCtx) (late : Bool) (e : DWord) (s : State) : State :=
  match c.f.gates.idxOf? (evGate e) with
  | none => s
  | some port =>
    let us := eventUs c.rel late e
    let g0 := c.f.img.group 0
    let own := rowOwner g0 (s.cutOf c.f c.k) c.f.gates.length (port * grpRows g0 + evY e) == some c.f.i
    let s := if own && !(c.f.img.outputsOf 7 c.n).isEmpty then keepRecord c.f (eventKey c.n) c.n c.k 7 e s else s
    addInput c ⟨port, evX e, evY e, evPol e, c.tickOf us, none⟩ s

def feedEvents (f : Leaf) (k : Nat) (late : Bool) (es : List DWord) (s : State) : State :=
  f.img.eventLayers.foldl (fun s n => es.foldl (fun s e => feedEvent (s.spikeCtx f n k) late e s) s) s

/-! ### Sheaves (R238, R239) -/

/-- Add one to a cell of a sheaf that is being binned; it stops at 127. -/
def binCell (i n k row x c : Nat) (s : State) : State :=
  let here := fun (m : MapCell) => m.layer == n && m.step == k && m.row == row && m.x == x && m.c == c
  match (s.stall i).sheaf.find? here with
  | none => updStall i (fun st => { st with sheaf := st.sheaf ++ [⟨n, k, row, x, c, 1⟩] }) s
  | some m =>
    if m.v < 127 then updStall i (fun st => { st with sheaf := st.sheaf.map (fun m => if here m then { m with v := m.v + 1 } else m) }) s
    else s |> inc 64 (Obj.threshSheafSaturations i) |> detect (stallBlock i) Src.stallSheafSaturation

/-- The newest event time of a cell and polarity: bit 31 valid, time modulo 2³¹. -/
def newerTime (old t : Nat) : Nat :=
  let t := t % 2 ^ 31
  if bit old 31 && 2 ^ 30 ≤ (t + 2 ^ 31 - old % 2 ^ 31) % 2 ^ 31 then old else 2 ^ 31 + t

/-- One on-time event into one SHEAF layer, where the leaf owns the event's sensor row or holds it in its halo (R240). -/
def binEvent (f : Leaf) (n k : Nat) (e : DWord) (s : State) : State :=
  match f.gates.idxOf? (evGate e) with
  | none => s
  | some port =>
    let l := f.img.layer n
    let d := max 1 (shDown l)
    let row := port * lyH l + evY e / d
    let g := f.img.group (f.img.groupOf n)
    let sensorRow := port * grpRows g + evY e
    if rowOwner g (s.cutOf f k) f.gates.length sensorRow != some f.i && !(haloRows g (s.cutOf f k) f.gates.length f.i).contains sensorRow
    then s
    else
      let us := eventUs (s.relUs f k) false e
      let s := busyFor (Obj.threshBusyCycles f.i) f.i 1 s
      if shFormat l = 1 then
        updStall f.i (fun st => { st with surface := supd 0 (placeOf n row (evX e / d) (evPol e)) (fun w => newerTime w us.toNat) st.surface }) s
      else
        let c := if shFormat l = 2 then 2 * ((us.toNat - s.relUs f k) * shBins l / s.periodUs) + evPol e else evPol e
        binCell f.i n k row (evX e / d) c s

/-- SHEAF_SEAL: the sheaf of the layer's step is complete (R240). -/
def sealCells (f : Leaf) (n k : Nat) (s : State) : State :=
  let l := f.img.layer n
  if shFormat l = 1 then
    let last := s.relUs f (k + 1) - 1
    let val := fun (w : Nat) => 127 - (((last + 2 ^ 31 - w % 2 ^ 31) % 2 ^ 31) / max 1 (shQuantum l) : Int)
    let mine := (s.stall f.i).surface.filter (fun p => placeLayer p.1 == n && bit p.2 31)
    let live := mine.filter (fun p => 1 ≤ val p.2)
    updStall f.i (fun st => { st with
      maps := st.maps ++ live.map (fun p => ⟨n, k, placeRow p.1, placeX p.1, placeC p.1, val p.2⟩),
      surface := st.surface.filter (fun p => placeLayer p.1 != n || live.contains p) }) s
  else
    updStall f.i (fun st => { st with
      maps := st.maps ++ st.sheaf.filter (fun m => m.layer == n && m.step == k),
      sheaf := st.sheaf.filter (fun m => !(m.layer == n && m.step == k)) }) s

def sheafSeal (i n : Nat) (s : State) : State :=
  match s.leafOf i with
  | none => s
  | some f =>
    let k := (s.stall i).layerStep n
    let l := f.img.layer n
    if lyType l ≠ tySheaf ∨ f.img.layers.length ≤ n ∨ (s.stall i).eventStep ≤ k ∨ s.slotBlocked f n k then s
    else
      let cells := (f.img.owned (s.cutOf f k) f.gates.length i n).length * lyW l
      s |> sealCells f n k |> storeRows f n k (f.img.computed (s.cutOf f k) f.gates.length f.i n) |> busyFor (Obj.threshBusyCycles i) i (16 + ceilDiv (cells * groupWidth (lyOut l)) 64)
        |> finishLayer f n k

/-! ### Blocks -/

/-- The events of a ring block; those of poisoned bytes are skipped and counted (R370). -/
def readBlock (i : Nat) (b : BlockRec) (s : State) : List DWord × State :=
  (List.range (ceilDiv b.count 8)).foldl (fun (r : List DWord × State) c =>
    let n := min 8 (b.count - 8 * c)
    match memRead (r.2.rd (Obj.gateRingBase b.gate) + b.block * 4096 + 64 * c) (8 * n) r.2 with
    | (some bs, s) => (r.1 ++ (List.range n).map (fun e => BitVec.ofNat 64 (leAt bs (8 * e) 8)), s)
    | (none, s) => (r.1, addE 64 Obj.memPoisonEvents i n s)) ([], s)

/-- An event is shed (R24). -/
def shedEvent (i j k : Nat) (s : State) : State :=
  s |> inc 64 Obj.stepLateShed |> inc 64 (Obj.stallLateShed i) |> detect (stallBlock i) Src.stallLateShed
    |> updJobStep k j (fun x => { x with shed := x.shed + 1 })

/-- An event carried into step k reaches the late-carry buffer, in GDDR6 (R24, R376). -/
def takeLate (f : Leaf) (k : Nat) (e : DWord) (s : State) : State :=
  let i := f.i
  let age := ((s.relUs f k : Int) - (evTime e : Int)) % (2 ^ 32 : Nat)
  if age > ((slOf (s.cfgOf k) * s.periodUs : Nat) : Int) then shedEvent i f.j k s
  else
    let s := match (s.stall i).late with
      | x :: rest =>
        if 524288 ≤ (x :: rest).length then s |> updStall i (fun st => { st with late := rest }) |> shedEvent i f.j x.step else s
      | [] => s
    s |> memWrite (lateAt i (s.stall i).lateNext) (leBytes 8 e.toNat)
      |> updStall i (fun st => { st with late := st.late ++ [⟨e, k⟩], lateNext := (st.lateNext + 1) % 524288 })
      |> inc 64 Obj.stepLateCarried
      |> inc 64 (Obj.stallLateCarried i) |> wr (Obj.stallLateFill i) ((s.stall i).late.length + 1)
      |> updJobStep k f.j (fun x => { x with carried := x.carried + 1 })

/-- Leave out the first n entries that p selects. -/
def dropWhere {α : Type} (p : α → Bool) : Nat → List α → List α
  | _, [] => []
  | n, x :: t => if n = 0 then x :: t else if p x then dropWhere p (n - 1) t else x :: dropWhere p n t

/-- Apply the 512 events of the late-carry buffer of step k that were filed first, or all where there are fewer (R222). -/
def applyLate (f : Leaf) (k : Nat) (s : State) : State :=
  let mine := ((s.stall f.i).late.filter (fun x => x.step == k)).take 512
  if mine.isEmpty then s
  else
    let s := updStall f.i (fun st => { st with late := dropWhere (fun x => x.step == k) 512 st.late }) s
    let s := wr (Obj.stallLateFill f.i) (s.stall f.i).late.length s
    let s := if f.img.eventLayers.isEmpty then s else addE 64 (Obj.spikeLateApplied f.i) 0 mine.length s
    feedEvents f k true (mine.map (·.ev)) s

/-- Whether nothing of step k is left to take in: its ingress has closed, and no block of it is queued or staged. -/
def State.inputOver (s : State) (f : Leaf) (k : Nat) : Bool :=
  !s.ingressOpen k && (s.stall f.i).queue.all (fun b => k < b.step) && (s.stall f.i).late.all (fun x => k < x.step)
    && f.gates.all (fun g => (s.gate g).staging.all (fun b => b.stall != f.i || k < b.step))

/-- The SPIKE_EVENT layers have finished step k. -/
def finishEvents (f : Leaf) (k : Nat) (s : State) : State :=
  if s.inputOver f k && !f.img.eventLayers.any (fun n => s.slotBlocked f n k) then
    let s := f.img.eventLayers.foldl (fun s n => finishSpike (s.spikeCtx f n k) [] s) s
    updStall f.i (fun st => { st with eventsDone := st.eventsDone + 1 }) s
  else s

/-- Take one on-time block of step k from the queue of a stall. -/
def consumeBlock (f : Leaf) (k : Nat) (b : BlockRec) (s : State) : State :=
  let s := updStall f.i (fun st => { st with queue := st.queue.erase b }) s
  let (es, s) := readBlock f.i b s
  let s := f.img.sheafLayers.foldl (fun s n => es.foldl (fun s e => binEvent f n k e s) s) s
  feedEvents f k false es s
/-- Take one late block into the late-carry buffer (R106, R24). -/
def takeLateBlock (f : Leaf) (b : BlockRec) (s : State) : State :=
  let s := updStall f.i (fun st => { st with queue := st.queue.erase b }) s
  let (es, s) := readBlock f.i b s
  es.foldl (fun s e => takeLate f b.step e s) s
/-- Release a block unread: it was filed for a step before those that the leaf serves (R25, R194). -/
def releaseUnread (i : Nat) (b : BlockRec) (s : State) : State :=
  s |> updStall i (fun st => { st with queue := st.queue.erase b })
    |> updGate b.gate (fun g => { g with ringUsed := g.ringUsed.erase b.block })
    |> addE 64 (Obj.stallFailedDiscards i) 0 b.count

/-! ### SPIKE_CONV layers (R222, R225, R228) -/

/-- The inputs of a SPIKE_CONV layer for its step. -/
def State.convInputs (s : State) (c : SpikeCtx) : List Input :=
  let st := s.stall c.f.i
  let src := lySource c.layer
  let sl := c.f.img.layer src
  let h := max 1 (lyH sl)
  if isDense sl then
    let need := (c.f.img.owned (s.cutOf c.f c.k) c.f.gates.length c.f.i c.n).flatMap (fun r => c.f.img.rowsRead c.n src r)
    (st.maps.filter (fun m => m.layer == src && m.step == c.k && m.v != 0 && need.contains m.row)).map (fun m =>
      ⟨m.row / h, m.x, m.row % h, m.c, c.refTick, some m.v⟩)
  else if bit (lyFlags sl) 0 then
    (st.spikes.filter (fun p => p.layer == src && p.step == c.k)).map (fun p =>
      ⟨p.port, p.x, p.y, p.channel, c.tickOf (p.timeUs : Int), none⟩)
  else []

/-- Whether a dense source has finished with its group (R222). -/
def State.groupReady (s : State) (f : Leaf) (n src k : Nat) : Bool :=
  !isDense (f.img.layer src) || (List.range n).all (fun m =>
    !(isDense (f.img.layer m) && f.img.groupOf m == f.img.groupOf src) || (s.stall f.i).finished m k)

/-- Whether SPIKE_CONV layer n of a leaf can run its step. -/
def State.spikeReady (s : State) (f : Leaf) (n : Nat) : Bool :=
  let l := f.img.layer n
  let k := (s.stall f.i).layerStep n
  lyType l == tySpikeConv && n < f.img.layers.length && s.inRun f.j k
    && (List.range n).all (fun m => !isSpike (f.img.layer m) || (s.stall f.i).finished m k)
    && s.sourceReady f (lySource l) k && s.groupReady f n (lySource l) k && !s.slotBlocked f n k
/-- Whether a SPIKE_CONV layer of the leaf can run a step before k: it has priority (R223). -/
def State.olderWork (s : State) (f : Leaf) (k : Nat) : Bool :=
  (List.range f.img.layers.length).any (fun n => (s.stall f.i).layerStep n < k && s.spikeReady f n)

/-- SPIKE_LAYER_START. -/
def spikeLayerStart (i n : Nat) (s : State) : State :=
  match s.leafOf i with
  | none => s
  | some f =>
    let k := (s.stall i).layerStep n
    if !s.spikeReady f n || s.olderWork f k then s
    else
      let c := s.spikeCtx f n k
      let s := flushContrib f s
      (s.convInputs c).foldl (fun s x => addInput c x s) s |> finishSpike c [lySource c.layer]

/-- INGRESS_BLOCK_CONSUME: a late block goes into the late-carry buffer. Work on the events of a step begins once the ingress of
the step before has closed and its sheaves are sealed, and while no older step has work (R223): the late-carry buffer first,
then the on-time blocks in queue order (R222). -/
def ingressBlockConsume (i : Nat) (s : State) : State :=
  match s.leafOf i with
  | none => s
  | some f =>
    let st := s.stall i
    let k := st.eventStep
    match st.queue.find? (fun b => decide (b.step < k)), st.queue.find? (·.late) with
    | some b, _ => releaseUnread i b s |> retryStaging
    | none, some b => takeLateBlock f b s |> retryStaging
    | none, none =>
      let ready := s.inRun f.j k && (k ≤ st.first || !s.ingressOpen (k - 1))
        && f.img.sheafLayers.all (fun n => k ≤ st.layerStep n) && !s.olderWork f k
      if !ready then s
      else
        let s :=
          if st.late.any (fun x => x.step == k) then applyLate f k s
          else
            match st.queue.find? (fun b => b.step == k) with
            | some b => consumeBlock f k b s
            | none => s
        finishEvents f k s |> retryStaging

/-! ### Gleaning (R213, R214) -/

/-- GLEAN_VISIT of one neuron of a running spike layer. The age at which a visit sets a neuron to rest is taken, as that of the
leak, up to the tick of B_k (log entry 95). -/
def gleanNeuron (c : SpikeCtx) (place : Nat) (s : State) : State :=
  let i := c.f.i
  let w := s.neuron i place
  let age := c.ageField w
  let s := wr (Obj.spikeGleanMaxAge i) (max (s.rd (Obj.spikeGleanMaxAge i)) age) s
  let put := fun (w : Nat) (s : State) =>
    s |> setNeuron i place w |> inc 64 (Obj.spikeGleaned i)
  if 15360 ≤ age then s |> detect (stallBlock i) Src.stallGleanOverrun |> put (neuronWord 0 c.refTick false false)
  else
    let since := c.firstTick - c.fullTick w
    if (8 * c.tau : Nat) ≤ since then put (neuronWord 0 c.firstTick false false) s
    else if 8192 ≤ age then put (neuronWord (c.leak (membraneOf w) since.toNat) c.firstTick false false) s
    else s

def gleanVisit (i n port y x ch : Nat) (s : State) : State :=
  match s.leafOf i with
  | none => s
  | some f =>
    let l := f.img.layer n
    let k := (s.stall i).layerStep n
    let row := port * lyH l + y
    if isSpike l && n < f.img.layers.length && port < f.gates.length && y < lyH l && x < lyW l && ch < lyOut l && s.inRun f.j k
        && f.img.owner (s.cutOf f k) f.gates.length n row == some i
    then gleanNeuron (s.spikeCtx f n k) (placeOf n row x ch) s
    else s

end Sys2Proof.Machine
end

