-- ==== Sys2Proof/Machine/ConvOps.lean ====
section
/-!
DEFINITION. Convolution on a leaf: patches and expansion rows (R243 to R247, R252), sums and requantisation (R249, R251),
the bounds and decisions of winnowing (R268 to R281), and the cycles of a layer (R248, R253, R282).
-/
namespace Sys2Proof.Machine

/-- A CONV layer at a step on a leaf: its winnow mode, the stall's store, and the rows that the leaf owns. -/
structure Conv where
  f : Leaf
  n : Nat
  k : Nat
  mode : Nat
  st : Stall
  rows : List Nat
  w : List Byte             -- WEIGHTS as the leaf reads them (R250)
  deriving DecidableEq, Repr

/-- An output pixel: stacked row and column. -/
abbrev Pixel := Nat × Nat

def Conv.l (c : Conv) : List Byte := c.f.img.layer c.n
def Conv.margin (c : Conv) : Int := lyMargin c.l

/-! ### Patches (R243, R245) -/

/-- Input at column x and row y of a port; none outside the map. -/
def Conv.inAt (c : Conv) (port : Nat) (y x : Int) (ch : Nat) : Option Int :=
  let src := lySource c.l
  let sl := c.f.img.layer src
  if 0 ≤ y ∧ y < (lyH sl : Int) ∧ 0 ≤ x ∧ x < (lyW sl : Int) then
    some (c.st.cell src c.k (port * lyH sl + y.toNat) x.toNat ch)
  else none

/-- Where tap t of `taps` lies for output o. -/
def tapAt (o stride t taps dil : Nat) : Int :=
  ((o * stride : Nat) : Int) + ((t : Int) - (((taps - 1) / 2 : Nat) : Int)) * (dil : Int)

/-- Element e of the patch of pixel p in group q. -/
def Conv.elem (c : Conv) (p : Pixel) (q e : Nat) : Option Int :=
  let l := c.l
  let cg := max 1 (convCg l)
  let tap := e / cg
  let h := max 1 (lyH l)
  let kw := max 1 (dnKw l)
  c.inAt (p.1 / h) (tapAt (p.1 % h) (dnSy l) (tap / kw) (dnKh l) (dnDy l)) (tapAt p.2 (dnSx l) (tap % kw) (dnKw l) (dnDx l))
    (q * cg + e % cg)

/-- Σ w · g(v) over the patch of an output (R249). -/
def Conv.acc (c : Conv) (g : Int → Int) (p : Pixel) (ch : Nat) : Int :=
  let co := max 1 (convCout c.l)
  sumInt ((List.range (convKg c.l)).map (fun e =>
    convWeight c.l c.w (ch / co) e (ch % co) * g ((c.elem p (ch / co) e).getD 0)))

/-- P_c and N_c as the load found them (R269). -/
def Conv.weightSums (c : Conv) (ch : Nat) : Int × Int := convSums c.l c.f.img.weights ch

/-! ### Requantisation (R251) and bounds (R270) -/

/-- rq(z). -/
def requant (z : Int) (m sh : Nat) : Int := rshr (z * (m : Int)) sh

/-- The activation clamp, and whether it counts as a saturation. -/
def activate (l : List Byte) (v : Int) : Int × Bool :=
  if dnAct l = 0 then (clampInt (-128) 127 v, v < -128 || 127 < v)
  else if dnAct l = 1 then (clampInt 0 127 v, 127 < v)
  else (clampInt 0 (dnCap l) v, false)

/-- The exact value of an output before its activation, the interval and midpoint of the cheap pass, and e_c. -/
structure Bounds where
  v : Int
  lo : Int
  hi : Int
  mid : Int
  coarse : Nat
  deriving DecidableEq, Repr

def Conv.bounds (c : Conv) (p : Pixel) (ch : Nat) : Bounds :=
  let (bias, m, sh) := requantOf c.l c.w ch
  let (pos, neg) := c.weightSums ch
  let z := 16 * c.acc (fun v => asr v 4) p ch + bias
  let rq := fun z => requant z m sh
  ⟨rq (c.acc (fun v => v) p ch + bias), rq (z + 15 * neg), rq (z + 15 * pos), rq (z + asr (15 * (pos + neg)) 1),
    ceilDiv (ceilDiv (15 * (pos - neg)).toNat 2 * m) (2 ^ sh) + 1⟩

/-! ### Decisions (R273 to R276, R279, R280) -/

/-- What becomes of an output: its value, whether a clamp counts, how it was found (0 exact pass, 1 settled, 2 midpoint),
and whether the exact value contradicts the decision (R284). -/
structure Fate where
  value : Int
  counts : Bool
  how : Nat
  wrong : Bool
  deriving DecidableEq, Repr

/-- The only reader of a fused layer. -/
def Conv.reader (c : Conv) : List Byte := c.f.img.layer ((c.f.img.readers c.n).headD 0)

/-- The pixels inside the map of the pooling window of output (oy, ox) in a port. -/
def Conv.window (c : Conv) (port oy ox : Nat) : List Pixel :=
  let m := c.reader
  let l := c.l
  (List.range (dnKh m)).flatMap (fun (i : Nat) => (List.range (dnKw m)).filterMap (fun (j : Nat) =>
    let y := tapAt oy (dnSy m) i (dnKh m) 1
    let x := tapAt ox (dnSx m) j (dnKw m) 1
    if 0 ≤ y ∧ y < (lyH l : Int) ∧ 0 ≤ x ∧ x < (lyW l : Int) then some (port * lyH l + y.toNat, x.toNat) else none))

/-- The windows of the consuming POOL_MAX that contain a pixel. -/
def Conv.windowsOf (c : Conv) (p : Pixel) : List (List Pixel) :=
  let m := c.reader
  let h := max 1 (lyH c.l)
  ((List.range (lyH m)).flatMap (fun oy => (List.range (lyW m)).map (fun ox => c.window (p.1 / h) oy ox))).filter
    (fun w => w.contains p)

/-- L_W of each window that contains the pixel, where all of them lie in the block. -/
def Conv.leaders (c : Conv) (block : List Pixel) (p : Pixel) (ch : Nat) : Option (List Int) :=
  let ws := c.windowsOf p
  if ws.isEmpty || ws.any (fun w => w.any (fun q => !block.contains q)) then none
  else some (ws.map (fun w =>
    (w.map (fun q => (c.bounds q ch).lo)).foldl max ((c.bounds p ch).lo)))

/-- An output that gets the exact pass. -/
def Conv.exactFate (c : Conv) (b : Bounds) : Fate :=
  let (v, n) := activate c.l b.v
  ⟨v, n, 0, false⟩
/-- An output that is settled below β and writes its clamped v_hi. -/
def Conv.lowFate (c : Conv) (b : Bounds) (β : Int) : Fate :=
  let (v, n) := activate c.l b.hi
  ⟨v, n, 1, β ≤ b.v⟩

/-- The decision of the activation: a settled result, or whether each of its boundaries is settled towards the value. -/
def Conv.actDecision (c : Conv) (b : Bounds) : Option Fate × Bool :=
  let l := c.l
  let m := c.margin
  if dnAct l = 0 then (none, true)
  else if b.hi < 1 - m then (some ⟨0, false, 1, 1 ≤ b.v⟩, false)
  else if dnAct l = 1 then (none, 1 + m < b.lo)
  else
    let cap : Int := dnCap l
    if cap + m < b.lo then (some ⟨cap, false, 1, b.v < cap⟩, false) else (none, 1 + m < b.lo && b.hi < cap - m)

/-- What becomes of an output whose pixel lies in the block. -/
def Conv.fate (c : Conv) (block : List Pixel) (p : Pixel) (ch : Nat) : Fate :=
  let b := c.bounds p ch
  let ex := c.exactFate b
  let (settled, sure) := c.actDecision b
  let mid := fun (ok : Bool) =>
    match settled with
    | some x => x
    | none => if c.mode = 2 && sure && ok then let (v, n) := activate c.l b.mid; ⟨v, n, 2, false⟩ else ex
  if c.mode = 0 then ex
  else if lyFused c.l = 1 then
    match c.leaders block p ch with
    | none => ex
    | some ls =>
      if ls.all (fun x => b.hi < x - c.margin) then c.lowFate b (ls.foldl min (ls.headD 0)) else mid false
  else if lyFused c.l = 2 then
    let θ := deThreshold c.reader
    if b.hi < θ - c.margin then c.lowFate b θ else mid (θ + c.margin < b.lo)
  else mid true

/-! ### Expansion rows and passes (R246, R248, R252) -/

def Conv.runs (c : Conv) : Nat := if convDiagonal c.l then 1 else dnGroups c.l
def Conv.chunks (c : Conv) : Nat :=
  if convDiagonal c.l then ceilDiv (dnGroups c.l) (max 1 (convPerTile c.l)) else ceilDiv (convKg c.l) 64
def Conv.tiles (c : Conv) : Nat := if convDiagonal c.l then 1 else ceilDiv (convCout c.l) 64
/-- The groups that set t of the diagonal mapping serves. -/
def Conv.setGroups (c : Conv) (t : Nat) : List Nat :=
  let m := convPerTile c.l
  (List.range m).filterMap (fun j => if t * m + j < dnGroups c.l then some (t * m + j) else none)
/-- Expansion row kc of a pixel in run r. -/
def Conv.expRow (c : Conv) (r kc : Nat) (p : Pixel) : List (Option Int) :=
  if convDiagonal c.l then (c.setGroups kc).flatMap (fun q => (List.range (convKg c.l)).map (c.elem p q))
  else (List.range (min 64 (convKg c.l - 64 * kc))).map (fun e => c.elem p r (64 * kc + e))
def rowLive (x : List (Option Int)) : Bool := x.any (fun v => v.getD 0 != 0)
def rowPadding (x : List (Option Int)) : Bool := x.all (fun v => v.isNone)
/-- The channels that tile oc of run r and chunk kc feeds. -/
def Conv.tileChannels (c : Conv) (r kc oc : Nat) : List Nat :=
  let co := convCout c.l
  if convDiagonal c.l then (c.setGroups kc).flatMap (fun q => (List.range co).map (fun d => q * co + d))
  else (List.range (min 64 (co - 64 * oc))).map (fun d => r * co + 64 * oc + d)
/-- L: 64 cycles for a resident tile, 160 for a streamed one (R250, R253). -/
def Conv.loadCycles (c : Conv) (r kc oc : Nat) : Nat :=
  let t := if convDiagonal c.l then kc else r * (c.chunks * c.tiles) + kc * c.tiles + oc
  if dnWeights c.l + 4096 * (t + 1) ≤ c.f.img.resident then 64 else 160

/-- The pixels of the leaf's owned rows, in blocks. -/
def Conv.blocks (c : Conv) : List (List Pixel) :=
  let ps := c.rows.flatMap (fun r => (List.range (lyW c.l)).map (fun x => (r, x)))
  chunksOf (max 1 (1024 / max 1 c.tiles)) ps.length ps

/-- A sum over runs, blocks, chunks and tiles. -/
def Conv.overPasses (c : Conv) (g : Nat → List Pixel → Nat → Nat → Nat) : Nat :=
  sumNat ((List.range c.runs).flatMap (fun r => c.blocks.flatMap (fun b => (List.range c.chunks).flatMap (fun kc =>
    (List.range c.tiles).map (fun oc => g r b kc oc)))))
/-- Rows of a pass that are not skipped. -/
def Conv.streamed (c : Conv) (r : Nat) (b : List Pixel) (kc : Nat) : Nat := (b.filter (fun p => rowLive (c.expRow r kc p))).length
def passCycles (v l : Nat) : Nat := if v = 0 then 0 else 16 + max v l
def boolCount (v : Nat) : Nat := if v = 0 then 0 else 1

/-- Skipped rows: padding rows and zero rows. -/
def Conv.skipped (c : Conv) : Nat × Nat :=
  let rows := (List.range c.runs).flatMap (fun r => c.blocks.flatMap (fun b => b.flatMap (fun p =>
    (List.range c.chunks).map (fun kc => c.expRow r kc p))))
  let dead := rows.filter (fun x => !rowLive x)
  ((dead.filter rowPadding).length, (dead.filter (fun x => !rowPadding x)).length)

/-- E: the expander's cycles over the pixels that p selects in each block. -/
def Conv.expander (c : Conv) (p : Nat → List Pixel → Nat) : Nat :=
  sumNat ((List.range c.runs).flatMap (fun r => c.blocks.map (fun b => ceilDiv (p r b * c.chunks) 2)))

/-- The work of a layer: cycles, passes, and rows streamed at full rate (R253). -/
def Conv.exactWork (c : Conv) : Nat × Nat × Nat :=
  let first := ceilDiv (c.blocks.headD []).length 2
  (32 + max (c.expander (fun _ b => b.length))
      (first + c.overPasses (fun r b kc oc => passCycles (c.streamed r b kc) (c.loadCycles r kc oc))),
    c.overPasses (fun r b kc _ => boolCount (c.streamed r b kc)), c.overPasses (fun r b kc _ => c.streamed r b kc))

/-- The pixels of a block that need the exact pass in a tile: those with an undecided output, and the sampled ones. -/
def Conv.needs (c : Conv) (sampled : List Pixel) (r : Nat) (b : List Pixel) (kc oc : Nat) : List Pixel :=
  b.filter (fun p => sampled.contains p || (c.tileChannels r kc oc).any (fun ch => (c.fate b p ch).how == 0))

/-- The work of a winnowed layer (R282). -/
def Conv.winnowWork (c : Conv) (sampled : List Pixel) : Nat × Nat × Nat :=
  let first := ceilDiv (c.blocks.headD []).length 2
  let vx := fun (r : Nat) (b : List Pixel) (kc oc : Nat) => c.streamed r (c.needs sampled r b kc oc) kc
  let any := fun (r : Nat) (b : List Pixel) =>
    (b.filter (fun p => (List.range c.chunks).any (fun kc => (List.range c.tiles).any (fun oc =>
      (c.needs sampled r b kc oc).contains p)))).length
  let cheap := c.overPasses (fun r b kc oc => passCycles (ceilDiv (c.streamed r b kc) 2) (c.loadCycles r kc oc))
  let exact := c.overPasses (fun r b kc oc => passCycles (ceilDiv (vx r b kc oc) 2) (c.loadCycles r kc oc))
  (32 + max (c.expander (fun _ b => b.length) + c.expander any) (first + cheap + exact + 16 * (c.runs * c.blocks.length)),
    c.overPasses (fun r b kc _ => boolCount (c.streamed r b kc)) + c.overPasses (fun r b kc oc => boolCount (vx r b kc oc)), 0)

end Sys2Proof.Machine
end

