-- ==== Sys2Proof/Machine/ThreshOps.lean ====
section
/-!
DEFINITION. The thresher's layers at work: convolution with its watch (R248, R284, R285), pooling and addition (R254,
R255), detection and the K-best lists (R256 to R259), crop-and-resize (R260 to R262), and the start of a dense layer
(R240).
-/
namespace Sys2Proof.Machine

/-- Add cells to a leaf's maps; zero cells are not listed. -/
def putCells (i : Nat) (cells : List MapCell) (s : State) : State :=
  updStall i (fun st => { st with maps := st.maps ++ cells.filter (fun m => m.v != 0) }) s

/-- The pixels of a list of rows of a layer. -/
def pixelsOf (l : List Byte) (rows : List Nat) : List Pixel := rows.flatMap (fun r => (List.range (lyW l)).map (fun x => (r, x)))

/-- Stacked rows of layer n that a leaf computes, and those it owns, in step k. -/
def State.computedRows (s : State) (f : Leaf) (n k : Nat) : List Nat := f.img.computed (s.cutOf f k) f.gates.length f.i n
def State.ownedLayer (s : State) (f : Leaf) (n k : Nat) : List Nat := f.img.owned (s.cutOf f k) f.gates.length f.i n

/-! ### Convolution -/

/-- The pixels that the watch samples, in the leaf's order of work (R284). -/
def sampledPixels (i n k : Nat) : List Pixel → State → List Pixel × State
  | [], s => ([], s)
  | p :: t, s =>
    let (take, s) := watchTurn i n k s
    let (r, s) := sampledPixels i n k t s
    (if take then p :: r else r, s)

/-- Compare the outputs of a sampled pixel that skipped the exact pass. -/
def watchPixel (c : Conv) (block : List Pixel) (p : Pixel) (s : State) : State :=
  (List.range (lyOut c.l)).foldl (fun s ch =>
    let x := c.fate block p ch
    if x.how = 0 then s
    else
      let b := c.bounds p ch
      let s := inc 64 (Obj.winnowWatchSamples c.f.i) s
      let s := if x.wrong then watchMismatch c.f.i c.n c.k s else s
      if x.how = 2 then watchCoarse c.f.i c.n c.k (x.value - (activate c.l b.v).1).natAbs b.coarse s else s) s

/-- Count what a winnowed layer settled, and run its watch. -/
def winnowCounts (c : Conv) (sampled : List Pixel) (s : State) : State :=
  let fates := c.blocks.flatMap (fun b => b.flatMap (fun p => (List.range (lyOut c.l)).map (fun ch => c.fate b p ch)))
  let exact := (fates.filter (fun x => x.how == 0)).length
  let s := s |> addE 64 (Obj.winnowExactOutputs c.f.i) 0 exact |> addE 64 (Obj.winnowCheapOutputs c.f.i) 0 (fates.length - exact)
  c.blocks.foldl (fun s b => (b.filter sampled.contains).foldl (fun s p => watchPixel c b p s) s) s

/-- The block that a pixel is decided in: its own, or none where it lies in a halo row. -/
def Conv.blockOf (c : Conv) (p : Pixel) : List Pixel := (c.blocks.find? (fun b => b.contains p)).getD []

/-- The streamed tiles of a CONV layer: an uncorrectable block among them counts in its channel and as an uncorrectable read of
the stall (R370). -/
def streamTiles (f : Leaf) (n : Nat) (s : State) : State :=
  let l := f.img.layer n
  let lo := max (dnWeights l) f.img.resident
  let hi := dnWeights l + 4096 * convTiles l
  let bad := if lo < hi then s.poisoned (f.weightAddr lo) (hi - lo) else []
  if bad.isEmpty then s
  else bad.foldl (fun s b => countUncorrectable (b * 64) s) s |> detect (stallBlock f.i) Src.stallStoreUncorrectable

/-- A CONV layer runs. -/
def runConv (f : Leaf) (n k : Nat) (s : State) : State :=
  let i := f.i
  let c : Conv := ⟨f, n, k, s.layerMode f n k, s.stall i, s.ownedLayer f n k, s.weightsOf f⟩
  let cells := (pixelsOf c.l (s.computedRows f n k)).flatMap (fun p => (List.range (lyOut c.l)).map (fun ch =>
    (⟨n, k, p.1, p.2, ch, (c.fate (c.blockOf p) p ch).value⟩ : MapCell)))
  let sats := c.blocks.flatMap (fun b => b.flatMap (fun p => (List.range (lyOut c.l)).filter (fun ch => (c.fate b p ch).counts)))
  let (sampled, s) := if c.mode = 0 then ([], s) else sampledPixels i n k c.blocks.flatten s
  let (cycles, passes, vectors) := if c.mode = 0 then c.exactWork else c.winnowWork sampled
  let s := s |> putCells i cells |> addE 64 (Obj.threshRequantSaturations i) 0 sats.length
    |> addE 64 (Obj.threshPadRowsSkipped i) 0 c.skipped.1 |> addE 64 (Obj.threshZeroRowsSkipped i) 0 c.skipped.2
    |> addE 64 (Obj.threshPasses i) 0 passes |> addE 64 (Obj.threshVectors i) 0 vectors
    |> busyFor (Obj.threshBusyCycles i) i cycles |> streamTiles f n
  if c.mode = 0 then s else winnowCounts c sampled s

/-! ### Pooling and addition -/

/-- The values of channel ch in the pooling window of a pixel (R254). -/
def poolInputs (f : Leaf) (n k : Nat) (st : Stall) (p : Pixel) (ch : Nat) : List Int :=
  let l := f.img.layer n
  let src := lySource l
  let sl := f.img.layer src
  let h := max 1 (lyH l)
  (List.range (dnKh l)).flatMap (fun (i : Nat) => (List.range (dnKw l)).filterMap (fun (j : Nat) =>
    let y := tapAt (p.1 % h) (dnSy l) i (dnKh l) 1
    let x := tapAt p.2 (dnSx l) j (dnKw l) 1
    if 0 ≤ y ∧ y < (lyH sl : Int) ∧ 0 ≤ x ∧ x < (lyW sl : Int) then
      some (st.cell src k (p.1 / h * lyH sl + y.toNat) x.toNat ch)
    else none))

def poolValue (l : List Byte) (vs : List Int) : Int :=
  let v := if lyType l = tyPoolMax then vs.foldl max (vs.headD 0) else roundAway (sumInt vs) (max 1 vs.length)
  (activate l v).1

def runPool (f : Leaf) (n k : Nat) (s : State) : State :=
  let l := f.img.layer n
  let st := s.stall f.i
  let cells := (pixelsOf l (s.computedRows f n k)).flatMap (fun p => (List.range (lyOut l)).map (fun ch =>
    (⟨n, k, p.1, p.2, ch, poolValue l (poolInputs f n k st p ch)⟩ : MapCell)))
  let px := (s.ownedLayer f n k).length * lyW l
  s |> putCells f.i cells |> busyFor (Obj.threshBusyCycles f.i) f.i (16 + px * dnKh l * dnKw l * ceilDiv (dnIn l) 64)

/-- The sum of R255 at a pixel. -/
def addValue (f : Leaf) (n k : Nat) (st : Stall) (p : Pixel) (ch : Nat) : Int × Bool :=
  let l := f.img.layer n
  let a := st.cell (lySource l) k p.1 p.2 ch
  let b := st.cell (dnSecond l) k p.1 p.2 ch
  activate l (rshr (a * (adMulA l : Int) + b * (adMulB l : Int)) (adShift l))

def runAdd (f : Leaf) (n k : Nat) (s : State) : State :=
  let l := f.img.layer n
  let st := s.stall f.i
  let owned := s.ownedLayer f n k
  let at' := fun (rows : List Nat) => (pixelsOf l rows).flatMap (fun p => (List.range (lyOut l)).map (fun ch => (p, ch, addValue f n k st p ch)))
  let sats := (at' owned).filter (fun x => x.2.2.2)
  s |> putCells f.i ((at' (s.computedRows f n k)).map (fun x => ⟨n, k, x.1.1, x.1.2, x.2.1, x.2.2.1⟩))
    |> addE 64 (Obj.threshRequantSaturations f.i) 0 sats.length
    |> busyFor (Obj.threshBusyCycles f.i) f.i (16 + 2 * (owned.length * lyW l) * ceilDiv (dnIn l) 64)

/-! ### Detection -/

/-- The neighbours of cell (x, y) inside a map of w × h: offsets, and whether they precede it. -/
def neighbours (w h x y : Nat) : List (Nat × Nat × Bool) :=
  [(-1, -1), (-1, 0), (-1, 1), (0, -1), (0, 1), (1, -1), (1, 0), (1, 1)].filterMap (fun (d : Int × Int) =>
    let ny := (y : Int) + d.1
    let nx := (x : Int) + d.2
    if 0 ≤ ny ∧ ny < (h : Int) ∧ 0 ≤ nx ∧ nx < (w : Int) then some (nx.toNat, ny.toNat, d.1 < 0 || (d.1 == 0 && d.2 < 0)) else none)

/-- Whether a cell is a candidate for a class (R256). -/
def isCandidate (f : Leaf) (n k : Nat) (st : Stall) (row x ch : Nat) : Bool :=
  let l := f.img.layer n
  let h := max 1 (lyH l)
  let src := lySource l
  let v := st.cell src k row x ch
  deThreshold l ≤ v && (neighbours (lyW l) h x (row % h)).all (fun q =>
    let u := st.cell src k (row / h * h + q.2.1) q.1 ch
    if q.2.2 then u < v else u ≤ v)

/-- A coordinate as the box record holds it. -/
def i32 (v : Int) : Int := toSigned 32 (ofSigned 32 v)

/-- The box of a candidate (R257). -/
def boxAt (f : Leaf) (n k node : Nat) (st : Stall) (row x ch : Nat) : Box :=
  let l := f.img.layer n
  let h := max 1 (lyH l)
  let dist := fun d => (max 0 (st.cell (dnSecond l) k row x d)) * ((2 ^ (deShift l + 12) : Nat) : Int)
  let cx : Int := ((x * 2 + 1) * 2 ^ 15 : Nat)
  let cy : Int := ((row % h * 2 + 1) * 2 ^ 15 : Nat)
  let x0 := cx - dist 0
  let y0 := cy - dist 1
  let x1 := cx + dist 2
  let y1 := cy + dist 3
  let sc : Int := deScale l
  ⟨i32 x0, i32 y0, i32 x1, i32 y1, i32 (asr (x0 + x1) 1 * sc), i32 (y1 * sc), f.gates.getD (row / h) 0, ch,
    st.cell (lySource l) k row x ch, st.flagged.contains (n, k, row), node, row % h, x⟩

/-- The 32-byte box record. -/
def boxBytes (b : Box) : List Byte :=
  let i := fun (v : Int) => leBytes 4 (ofSigned 32 v)
  i b.x0 ++ i b.y0 ++ i b.x1 ++ i b.y1 ++ i b.footX ++ i b.footY ++ leBytes 1 b.gate ++ leBytes 1 b.cls
    ++ leBytes 1 (ofSigned 8 b.score) ++ leBytes 1 (boolNat b.flagged) ++ leBytes 2 b.node ++ leBytes 2 0

def runDetect (f : Leaf) (n k : Nat) (s : State) : State :=
  let l := f.img.layer n
  let st := s.stall f.i
  let owned := s.ownedLayer f n k
  let boxes := (pixelsOf l owned).flatMap (fun p => (List.range (dnIn l)).filterMap (fun ch =>
    if isCandidate f n k st p.1 p.2 ch then some (boxAt f n k (s.rd Obj.nodeNumber) st p.1 p.2 ch) else none))
  s |> updStall f.i (fun st => { st with boxes := st.boxes ++ [(n, k, boxes)] })
    |> addE 64 (Obj.threshCandidates f.i) 0 boxes.length
    |> busyFor (Obj.threshBusyCycles f.i) f.i (16 + 9 * (owned.length * lyW l) * ceilDiv (dnIn l) 64 + 4 * boxes.length)

/-- The order of a list: falling score; ties by rising node, gate, y, x and class (R258). -/
def boxBefore (a b : Box) : Bool :=
  b.score < a.score || (a.score == b.score &&
    (a.node < b.node || (a.node == b.node &&
      (a.gate < b.gate || (a.gate == b.gate &&
        (a.cy < b.cy || (a.cy == b.cy && (a.cx < b.cx || (a.cx == b.cx && a.cls ≤ b.cls)))))))))

/-- The candidates that a leaf contributes to the list of layer n in step k: those of a local leaf, or none where a leaf
of the cut still owes them. Lists of other devices come in `Net.boxesGot`. -/
def State.leafBoxes (s : State) (r : StepRec) (n : Nat) (leaf : Nat) : Option (List Box) :=
  if r.missing.contains leaf then some []
  else if isLocal leaf then
    match (s.stall leaf).boxes.find? (fun b => b.1 == n && b.2.1 == r.k) with
    | some b => some b.2.2
    | none => none
  else if r.delivered.contains leaf then some []
  else none

/-- DETECT_LIST_MERGE: the oldest step of the layer whose list is complete and not merged. A device that serves a yard
merges the lists of its own leaves; the lead merges those of the serving devices. -/
def mergeLists (j n : Nat) (s : State) : State :=
  match (s.slot j).image with
  | none => s
  | some img =>
    let l := img.layer n
    let parts := fun (r : StepRec) => (s.ownCut (s.jobYard j) r.k).map (fun leaf => s.leafBoxes r n leaf)
    let members := remoteMembers s.dict (s.jobYard j)
    let due := s.steps.find? (fun r => s.inRun j r.k && !s.lists.any (fun x => x.1 == j && x.2.1 == n && x.2.2.1 == r.k)
      && (parts r).all (·.isSome))
    match due with
    | none => s
    | some r =>
      if lyType l ≠ tyDetect ∨ img.layers.length ≤ n then s
      else
        let far := (s.net.boxesGot.filter (fun b => members.contains (b.1, b.2.1) && b.2.2.1 == r.k && b.2.2.2.1 == n)).flatMap (fun b => b.2.2.2.2)
        let all := (parts r).flatMap (fun x => x.getD []) ++ far
        { s with lists := s.lists ++ [(j, n, r.k, (sortBy boxBefore all).take (deK l))] }

/-! ### Crop-and-resize (R260 to R262) -/

/-- A value of the gathered map of layer src, in the layout of R234; an uncorrectable block reads zero (R370). -/
def State.gathered (s : State) (f : Leaf) (src k row x ch : Nat) : Int :=
  let l := f.img.layer src
  let g := groupWidth (lyOut l)
  let a := f.gatherAddr src k row + (ch / g * lyW l + x) * g + ch % g
  if (s.poisoned a 1).isEmpty then toSigned 8 (s.byteAt a).toNat else 0
/-- The rows of leaves that are missing in the step read zero in the gathered map (R260). -/
def zeroGathered (f : Leaf) (src k : Nat) (s : State) : State :=
  let l := f.img.layer src
  let gone := ((s.step? k).map (·.missing)).getD []
  let cut := s.cutOf f k
  ((List.range (f.img.stackedRows src f.gates.length)).filter (fun r =>
    match f.img.owner cut f.gates.length src r with
    | some o => gone.contains o
    | none => true)).foldl (fun s r => memWrite (f.gatherAddr src k r) (List.replicate (rowBytes (lyOut l) (lyW l)) 0) s) s

/-- One sample of a box (R262). -/
def cropValue (s : State) (f : Leaf) (n k : Nat) (b : Box) (i j ch : Nat) : Int :=
  let l := f.img.layer n
  let src := lySource l
  let sl := f.img.layer src
  let port := (f.gates.idxOf? b.gate).getD 0
  let at' := fun (a0 a1 : Int) (t m : Nat) => a0 + ((a1 - a0) * ((2 * t + 1 : Nat) : Int)) / ((2 * m : Nat) : Int) - 2 ^ 15
  let sy := at' b.y0 b.y1 i (crH l)
  let sx := at' b.x0 b.x1 j (crW l)
  if sx < 0 ∨ sy < 0 ∨ (((lyW sl : Int) - 1) * 2 ^ 16) < sx ∨ (((lyH sl : Int) - 1) * 2 ^ 16) < sy then crOutside l
  else
    let x := (sx / 2 ^ 16).toNat
    let y := (sy / 2 ^ 16).toNat
    let fx := sx % 2 ^ 16
    let fy := sy % 2 ^ 16
    let v := fun (dy dx : Nat) => s.gathered f src k (port * lyH sl + min (y + dy) (lyH sl - 1)) (min (x + dx) (lyW sl - 1)) ch
    (v 0 0 * (2 ^ 16 - fx) * (2 ^ 16 - fy) + v 0 1 * fx * (2 ^ 16 - fy) + v 1 0 * (2 ^ 16 - fx) * fy + v 1 1 * fx * fy + 2 ^ 31) / 2 ^ 32

/-- The merged list of a DETECT layer in a step. -/
def State.listOf (s : State) (j n k : Nat) : Option (List Box) :=
  (s.lists.find? (fun x => x.1 == j && x.2.1 == n && x.2.2.1 == k)).map (·.2.2.2)

/-- The rows of the gathered map that row i of a box reads. -/
def cropRows (l sl : List Byte) (port : Nat) (b : Box) (i : Nat) : List Nat :=
  let sy := b.y0 + ((b.y1 - b.y0) * ((2 * i + 1 : Nat) : Int)) / ((2 * crH l : Nat) : Int) - 2 ^ 15
  if sy < 0 ∨ (((lyH sl : Int) - 1) * 2 ^ 16) < sy then []
  else
    let y := (sy / 2 ^ 16).toNat
    [port * lyH sl + y, port * lyH sl + min (y + 1) (lyH sl - 1)]

/-- Whether any local leaf holds the row of layer src as flagged. -/
def State.gatheredFlag (s : State) (f : Leaf) (src k row : Nat) : Bool :=
  ((s.cutOf f k).filter isLocal).any (fun o => (s.stall o).flagged.contains (src, k, row))

def runCrop (f : Leaf) (n k : Nat) (list : List Box) (s : State) : State :=
  let l := f.img.layer n
  let oh := max 1 (crH l)
  let cap := crCapacity l
  let rows := s.ownedLayer f n k
  let s := zeroGathered f (lySource l) k s
  let cells := (pixelsOf l rows).flatMap (fun p =>
    match (list.take cap)[p.1 / oh]? with
    | none => []
    | some b => (List.range (lyOut l)).map (fun ch => (⟨n, k, p.1, p.2, ch, cropValue s f n k b (p.1 % oh) p.2 ch⟩ : MapCell)))
  let bad := rows.filter (fun r =>
    match (list.take cap)[r / oh]? with
    | none => false
    | some b => (cropRows l (f.img.layer (lySource l)) ((f.gates.idxOf? b.gate).getD 0) b (r % oh)).any (fun q => s.gatheredFlag f (lySource l) k q))
  let mine := ((List.range (min cap list.length)).filter (fun b => rows.contains (b * oh))).length
  let excess := list.length - cap
  let s := s |> putCells f.i cells |> updStall f.i (fun st => { st with flagged := st.flagged ++ bad.map (fun r => (n, k, r)) })
    |> busyFor (Obj.threshBusyCycles f.i) f.i (16 + 4 * mine * oh * crW l * ceilDiv (dnIn l) 64)
  if excess = 0 then s else s |> addE 32 (Obj.threshBoxesDropped f.i) 0 excess |> detect (stallBlock f.i) Src.stallBoxesDropped

/-! ### The start of a dense layer (R240) -/

/-- Whether the gathered map of layer src is complete in step k (R260). -/
def State.gatherReady (s : State) (f : Leaf) (src k : Nat) : Bool :=
  let gone := ((s.step? k).map (·.missing)).getD []
  ((s.cutOf f k).filter isLocal).all (fun o => gone.contains o || (s.stall o).finished src k)

/-- Whether what layer n reads is there. -/
def State.denseReady (s : State) (f : Leaf) (n k : Nat) : Bool :=
  let l := f.img.layer n
  if lyType l = tyCrop then s.gatherReady f (lySource l) k && (s.listOf f.j (crBoxes l) k).isSome
  else (rowSources l).all (fun src => s.sourceReady f src k)

/-- The work of a dense layer. -/
def runDense (f : Leaf) (n k : Nat) (s : State) : State :=
  let l := f.img.layer n
  let s := if lyType l = tyCrop then s else flagRows f n k (rowSources l) s
  if lyType l = tyConv then runConv f n k s
  else if isPool l then runPool f n k s
  else if lyType l = tyAdd then runAdd f n k s
  else if lyType l = tyDetect then runDetect f n k s
  else runCrop f n k ((s.listOf f.j (crBoxes l) k).getD []) s

/-- DENSE_LAYER_START. -/
def denseLayerStart (i n : Nat) (s : State) : State :=
  match s.leafOf i with
  | none => s
  | some f =>
    let l := f.img.layer n
    let k := (s.stall i).layerStep n
    if f.img.layers.length ≤ n ∨ !isDense l ∨ lyType l = tySheaf ∨ !(s.inRun f.j k && s.denseReady f n k) ∨ s.slotBlocked f n k then s
    else
      s |> runDense f n k |> storeRows f n k (s.computedRows f n k) |> finishLayer f n k

end Sys2Proof.Machine
end

