-- ==== Sys2Proof/Machine/RailOps.lean ====
section
/-!
DEFINITION. The PMBus master and its rails (R461 to R467), and the supply loop of VDD_CORE with its replays and throttles
(R288 to R294).
-/
namespace Sys2Proof.Machine

/-! ### The transaction queue (R464) -/

def updPower (f : Power → Power) (s : State) : State := { s with power := f s.power }

/-- Priority of a transaction, the first served lowest. -/
def PmbKind.rank : PmbKind → Nat
  | .emergency => 0
  | .opOn => 1
  | .opOff => 1
  | .statusWord => 2
  | .vout => 3
  | .readVout => 3
/-- The head of the queue is the transaction in flight; a new one waits behind it. -/
def pushPmb (r : PmbReq) (s : State) : State := updPower (fun p => { p with pmbus := p.pmbus ++ [r] }) s
/-- The transaction in flight has ended; the next is the oldest of the best rank. -/
def nextPmb (s : State) : State :=
  updPower (fun p =>
    let rest := p.pmbus.drop 1
    match minBy (fun (r : PmbReq) => (r.kind.rank : Int)) rest with
    | none => { p with pmbus := [] }
    | some r => { p with pmbus := r :: rest.erase r }) s

/-! ### Voltages (R462, R467) -/

/-- The limits of a slot in mV. -/
def State.railLimits (s : State) (r : Nat) : Nat × Nat := (s.pair 16 Obj.railVminMv r, s.pair 16 Obj.railVmaxMv r)
/-- A target as the linear word of a slot. -/
def State.voutWord (s : State) (r mv : Nat) : Nat :=
  let e := (-(s.rdI 8 Obj.railVoutExp r)).toNat
  (roundUp ((mv * 2 ^ e : Nat) : Int) 1000).toNat % 65536
/-- A read word in mV; halves are rounded up as for a target (log entry 41). -/
def State.voutMv (s : State) (r w : Nat) : Nat :=
  let e := (-(s.rdI 8 Obj.railVoutExp r)).toNat
  (roundUp ((w * 1000 : Nat) : Int) (2 ^ e)).toNat

/-- Request a voltage of a slot: the request is clamped, and replaces one of the slot that still waits (R293, R467). A slot
whose limits fail their check takes no further request. -/
def requestVout (kind : PmbKind) (r mv : Nat) (s : State) : State :=
  let ok := pairOk 16 (s.rdE Obj.railVminMv r) && pairOk 16 (s.rdE Obj.railVmaxMv r)
  let s := s |> checkPair 16 Obj.railVminMv r |> checkPair 16 Obj.railVmaxMv r
  let s := if ok then s
    else s |> detect powerBlock Src.powerLimitPair |> updPower (fun p => { p with
      railCut := setBit p.railCut r
      pmbus := p.pmbus.take 1 ++ (p.pmbus.drop 1).filter (fun q => !(q.slot == r && (q.kind == .vout || q.kind == .emergency))) })
  if bit s.power.railCut r then s
  else
    let (lo, hi) := s.railLimits r
    let v := max lo (min hi mv)
    let s := detectIf (v != mv) powerBlock Src.powerVoutLimit s
    let waiting := fun (q : PmbReq) => q.slot == r && (q.kind == .vout || q.kind == .emergency)
    s |> updPower (fun p => { p with pmbus := p.pmbus.take 1 ++ (p.pmbus.drop 1).filter (fun q => !waiting q),
                                     targets := sset 0 r v p.targets })
      |> pushPmb ⟨kind, r, v⟩

/-! ### Managed rails (R465) -/

/-- Whether the rail of a slot is on or about to be: the newest OPERATION that waits for it, or what it was last told. -/
def State.railMeant (s : State) (r : Nat) : Bool :=
  match (s.power.pmbus.filter (fun q => q.slot == r && (q.kind == .opOn || q.kind == .opOff))).getLast? with
  | some q => q.kind == .opOn
  | none => s.rdE Obj.railOn r == 1
def railUp (r : Nat) (s : State) : State := if s.railMeant r then s else pushPmb ⟨.opOn, r, 0⟩ s
def railDown (r : Nat) (s : State) : State := if s.railMeant r then pushPmb ⟨.opOff, r, 0⟩ s else s

/-! ### The supply loop (R290 to R294) -/

def updSupply (f : Supply → Supply) (s : State) : State := { s with supply := f s.supply }
/-- The states of SUPPLY.STATE. -/
abbrev supDisabled : Nat := 0
abbrev supMeasuring : Nat := 1
abbrev supChanging : Nat := 2
abbrev supSettling : Nat := 3

/-- How far a wrapping count of 64 bits has moved on from a mark. -/
def since64 (now mark : Nat) : Nat := (now + 2 ^ 64 - mark) % 2 ^ 64

/-- A measuring window opens. -/
def openWindow (s : State) : State :=
  let s := s |> wr Obj.supplyState supMeasuring |> updSupply (fun u => { u with openedAt := s.now })
  (List.range 32).foldl (fun s i =>
    updStall i (fun st => { st with windowReplays := s.rd (Obj.winnowReplays i), windowCycles := s.rd (Obj.winnowActiveCycles i) }) s) s

/-- Replays and active cycles of a stall in the window. -/
def State.windowOf (s : State) (i : Nat) : Nat × Nat :=
  (since64 (s.rd (Obj.winnowReplays i)) (s.stall i).windowReplays, since64 (s.rd (Obj.winnowActiveCycles i)) (s.stall i).windowCycles)
/-- Whether a stall contributes a rate (R291, R294). -/
def State.rateCounts (s : State) (i : Nat) : Bool :=
  s.isOn (stallDomain i) && !bit (s.rd Obj.muckOutOfService) i && !(s.muckUnit i).running && 1048576 ≤ (s.windowOf i).2
/-- Whether stall a has a worse rate than stall b. -/
def State.worse (s : State) (a b : Nat) : Bool := (s.windowOf b).1 * (s.windowOf a).2 < (s.windowOf a).1 * (s.windowOf b).2
/-- The stall with the worst rate; the lowest number among equals. -/
def State.worstStall (s : State) : Option Nat :=
  ((List.range 32).filter (fun i => s.rateCounts i)).foldl (fun w i =>
    match w with
    | none => some i
    | some b => if s.worse i b then some i else some b) none
/-- The rate as reported; its rounding is free. -/
def State.rateOf (s : State) (i : Nat) : Nat :=
  let (n, c) := s.windowOf i
  if c = 0 then 0 else openQuot (n * 1000000000) c % 2 ^ 32

/-- A clamped request as the loop's target: within 0.62 V to 0.85 V and the limits of slot 0 (R290). -/
def State.supplyClamp (s : State) (mv : Nat) : Nat :=
  let (lo, hi) := s.railLimits 0
  max lo (min hi (max 620 (min 850 mv)))
/-- The loop decides a new target. -/
def supplyTarget (kind : PmbKind) (mv : Nat) (s : State) : State :=
  let v := s.supplyClamp mv
  s |> wr Obj.supplyTargetMv v |> wr Obj.supplyState supChanging |> updSupply (fun u => { u with changedAt := s.now })
    |> requestVout kind 0 (max 620 (min 850 mv))

/-- The limits of slot 0 are checked as the loop uses them (R37). -/
def checkLimits (s : State) : State := s |> checkPair 16 Obj.railVminMv 0 |> checkPair 16 Obj.railVmaxMv 0

/-- What the loop does at the end of a window, given the worst stall. -/
def supplyDecide (w : Option Nat) (s : State) : State :=
  let s := checkLimits s
  let t := s.rd Obj.supplyTargetMv
  let above := fun (i : Nat) => s.rd Obj.supplyBandHi * (s.windowOf i).2 < (s.windowOf i).1 * 1000000000
  let below := fun (i : Nat) => (s.windowOf i).1 * 1000000000 < s.rd Obj.supplyBandLo * (s.windowOf i).2
  match w with
  | none => openWindow s
  | some i =>
    if above i && s.supplyClamp (t + 10) != t then s |> inc 32 Obj.supplyRaises |> supplyTarget .vout (t + 10)
    else if below i && s.supply.holdoffUntil ≤ s.now && s.supplyClamp (t - 10) != t then
      s |> inc 32 Obj.supplyLowers |> supplyTarget .vout (t - 10)
    else openWindow s

/-- SUPPLY_WINDOW_END (R291). -/
def supplyWindowEnd (s : State) : State :=
  if s.rd Obj.supplyState ≠ supMeasuring then s
  else
    match s.dueAt (s.supply.openedAt + s.rd Obj.supplyPeriod * 1000000 * nsUnit) with
    | none => s
    | some s =>
      let w := s.worstStall
      let s := (List.range 32).foldl (fun s i => wr (Obj.winnowReplayRate i) (s.rateOf i) s) s
      let s := s |> wr Obj.supplyWorstStall (w.getD 0xFF) |> wr Obj.supplyWorstRate ((w.map s.rateOf).getD 0)
      supplyDecide w s

/-- SUPPLY_CONFIRM_TIMEOUT (R293). -/
def supplyConfirmTimeout (s : State) : State :=
  if s.rd Obj.supplyState ≠ supChanging then s
  else
    match s.dueAt (s.supply.changedAt + 2000000 * nsUnit) with
    | none => s
    | some s => s |> wr Obj.supplyState supSettling |> updSupply (fun u => { u with confirmedAt := s.now })
        |> detect powerBlock Src.powerSupplyPmbus

/-- SUPPLY_SETTLED (R291). -/
def supplySettled (s : State) : State :=
  if s.rd Obj.supplyState ≠ supSettling then s
  else
    match s.dueAt (s.supply.confirmedAt + s.rd Obj.supplySettleUs * 1000 * nsUnit) with
    | none => s
    | some s => openWindow s

/-- The rail confirms the request (R292, R293). -/
def supplyConfirmed (mv : Nat) (s : State) : State :=
  let s := wr Obj.supplyVoutMv mv s
  let s := (List.range 32).foldl (fun s i =>
    updStall i (fun st => { st with throttled := st.throttled.map (fun t => if t = 0 then max 1 s.now else t) }) s) s
  if s.rd Obj.supplyState = supChanging then
    s |> wr Obj.supplyState supSettling |> updSupply (fun u => { u with confirmedAt := s.now })
  else s

/-- HOLDOFF_END (R292). -/
def holdoffEnd (s : State) : State :=
  if s.supply.holdoffUntil = 0 then s
  else
    match s.dueAt s.supply.holdoffUntil with
    | none => s
    | some s => updSupply (fun u => { u with holdoffUntil := 0 }) s

/-- THROTTLE_END (R292). -/
def throttleEnd (i : Nat) (s : State) : State :=
  match (s.stall i).throttled with
  | none => s
  | some t =>
    if t = 0 then s
    else
      match s.dueAt (t + 1000000 * nsUnit) with
      | none => s
      | some s => updStall i (fun st => { st with throttled := none }) s

/-- Hold the loop to SUPPLY.ENABLE, SUPPLY.FIXED_MV and the presence of a stall (R290, R294, and the loop's table). -/
def supplyCheck (s : State) : State :=
  if s.rd Obj.supplyEnable = 1 then
    if s.rd Obj.supplyState = supDisabled && (List.range 32).any (fun i => s.isOn (stallDomain i)) then openWindow s else s
  else
    let s := checkLimits s
    let mv := s.rd Obj.supplyFixedMv
    if s.rd Obj.supplyState = supDisabled && s.rd Obj.supplyTargetMv == s.supplyClamp mv then s
    else s |> supplyTarget .vout mv |> wr Obj.supplyState supDisabled

/-! ### Replays (R288, R289, R292) -/

/-- TIMING_ERROR_REPLAY on stall i, the `n`-th repetition of the operation in succession. -/
def timingErrorReplay (i n : Nat) (s : State) : State :=
  if i < 32 && s.isOn (stallDomain i) && !(s.muckUnit i).running then
    let s := s |> inc 64 (Obj.winnowReplays i) |> addE 64 (Obj.winnowActiveCycles i) 0 3
    let s := if (s.stall i).throttled.isSome then addE 64 (Obj.winnowThrottledCycles i) 0 3 s else s
    let at' := s.rd (Obj.winnowActiveCycles i)
    let s := updStall i (fun st => { st with replays := (at' :: st.replays).take 9 }) s
    if n = 16 then s |> inc 32 (Obj.winnowStuck i) |> detect (stallBlock i) Src.stallReplayStuck else s
  else s

/-- Whether a stall has had more than 8 replays within 8,192 consecutive active cycles. -/
def State.inEmergency (s : State) (i : Nat) : Bool :=
  match (s.stall i).replays with
  | a :: rest => rest.length == 8 && since64 a (rest.getLastD a) < 8192
  | [] => false

/-- REPLAY_EMERGENCY on stall i. The loop acts in every state but DISABLED. -/
def replayEmergency (i : Nat) (s : State) : State :=
  if i < 32 && s.isOn (stallDomain i) && s.inEmergency i then
    let s := s |> inc 32 (Obj.winnowEmergencies i) |> updStall i (fun st => { st with replays := [] })
      |> detect (stallBlock i) Src.stallReplayEmergency
    if s.rd Obj.supplyState = supDisabled then s
    else
      let s := checkLimits s
      let t := s.rd Obj.supplyTargetMv
      let s := detectIf (s.supplyClamp (t + 50) == t) powerBlock Src.powerSupplyCeiling s
      s |> inc 32 Obj.supplyEmergencies |> supplyTarget .emergency (t + 50)
        |> updSupply (fun u => { u with holdoffUntil := s.now + s.rd Obj.supplyHoldoffMs * 1000000 * nsUnit })
        |> updStall i (fun st => { st with throttled := some 0 })
  else s

/-- WINNOW.CLEAR: the counts return to 0, and the marks that the loop keeps move with them. -/
def clearWinnow (i : Nat) (s : State) : State :=
  let c := s.rd (Obj.winnowActiveCycles i)
  let (n, w) := s.windowOf i
  let s := updStall i (fun st => { st with windowReplays := since64 0 n, windowCycles := since64 0 w,
                                           replays := st.replays.map (fun p => since64 p c) }) s
  [Obj.winnowCheapOutputs i, Obj.winnowExactOutputs i, Obj.winnowWatchSamples i, Obj.winnowMismatches i, Obj.winnowErrorMax i,
    Obj.winnowReplays i, Obj.winnowActiveCycles i, Obj.winnowReplayRate i, Obj.winnowEmergencies i, Obj.winnowThrottledCycles i,
    Obj.winnowStuck i].foldl (fun s a => wr a 0 s) s

/-! ### Transactions on the bus (R461, R464) -/

/-- End the transaction in flight when it is `kind` to slot r: `ok` says what an acknowledged one does. -/
def pmbDo (kinds : List PmbKind) (r nacks : Nat) (ok : PmbReq → State → State) (s : State) : State :=
  match s.power.pmbus with
  | q :: _ =>
    if kinds.contains q.kind && q.slot == r then
      let s := s |> nextPmb |> inc 32 Obj.railTransactions |> addE 32 Obj.railNacks 0 (min nacks 3)
      if 3 ≤ nacks then detect powerBlock Src.powerPmbusNack s else ok q s
    else s
  | [] => s

def operationOn (r : Nat) (a : PmbAnswer) (s : State) : State :=
  pmbDo [.opOn] r a.nacks (fun _ s => s |> wrE Obj.railOn r 1 |> emit (.pmbus 0x01 r 0x80)) s
def operationOff (r : Nat) (a : PmbAnswer) (s : State) : State :=
  pmbDo [.opOff] r a.nacks (fun _ s => s |> wrE Obj.railOn r 0 |> emit (.pmbus 0x01 r 0)) s
/-- VOUT_COMMAND; the loop and a committed target then read the voltage back (R293, R464). -/
def voutCommand (r : Nat) (a : PmbAnswer) (s : State) : State :=
  pmbDo [.emergency, .vout] r a.nacks (fun q s =>
    let s := s |> emit (.pmbus 0x21 r (s.voutWord r q.mv)) |> pushPmb ⟨.readVout, r, q.mv⟩
    s) s
/-- Whether a voltage of the slot still waits to be sent. -/
def State.voutWaits (s : State) (r : Nat) : Bool :=
  s.power.pmbus.any (fun q => q.slot == r && (q.kind == .vout || q.kind == .emergency))
/-- READ_VOUT. The loop's request is confirmed within 10 mV of the target in force, while no newer one waits (R293). -/
def readVout (r word : Nat) (a : PmbAnswer) (s : State) : State :=
  pmbDo [.readVout] r a.nacks (fun _ s =>
    let mv := s.voutMv r (word % 65536)
    let (shown, s) := if mv < 65536 then (mv, s) else (s.free % 65536, drawn s)
    let s := s |> wrE Obj.railReadMv r shown |> emit (.pmbus 0x8B r (word % 65536))
    if r = 0 && mv ≤ s.rd Obj.supplyTargetMv + 10 && s.rd Obj.supplyTargetMv ≤ mv + 10 && !s.voutWaits 0 then supplyConfirmed shown s
    else s) s
/-- STATUS_WORD. -/
def statusWord (r word : Nat) (a : PmbAnswer) (s : State) : State :=
  pmbDo [.statusWord] r a.nacks (fun _ s => s |> wrE Obj.railStatus r (word % 65536) |> emit (.pmbus 0x79 r (word % 65536))) s
/-- The transaction in flight is stretched beyond 25 ms. -/
def pmbusStretchTimeout (s : State) : State :=
  if s.power.pmbus.isEmpty then s else s |> nextPmb |> inc 32 Obj.railTransactions |> detect powerBlock Src.powerPmbusTimeout

/-- The slots that hold a regulator. -/
def State.enabledSlots (s : State) : List Nat :=
  (List.range 4).filter (fun r => s.rdE Obj.railRole r != 0 && s.rdE Obj.railAddress r != 0)
/-- PMB_ALERT_N is low (R466). -/
def pmbAlert (s : State) : State :=
  let soon : Bool := match s.power.alertAt with | some t => s.now < t + 10000000 * nsUnit | none => false
  if soon then s
  else
    s.enabledSlots.foldl (fun s r => pushPmb ⟨.statusWord, r, 0⟩ s) s |> updPower (fun p => { p with alertAt := some s.now })
      |> detect powerBlock Src.powerPmbAlert

/-- PGOOD of a slot rises or falls (R465, R466). -/
def pgoodRise (r : Nat) (s : State) : State := if r < 4 then updPower (fun p => { p with pgood := setBit p.pgood r }) s else s
def pgoodFall (r : Nat) (s : State) : State :=
  if r < 4 then
    let s := updPower (fun p => { p with pgood := clrBit p.pgood r }) s
    if r = 0 then detect powerBlock Src.powerPgoodLostCore s
    else detectIf (s.rdE Obj.railOn r == 1 || s.rdE Obj.railRole r == 5) powerBlock Src.powerPgoodLost s
  else s

/-- RAIL.VOUT_MV of the slots `rs` has changed (R464). -/
def railTargets (rs : List Nat) (s : State) : State :=
  (rs.filter (fun r => 1 ≤ r && r ≤ 3)).foldl (fun s r => if s.rdE Obj.railVoutMv r = 0 || s.rdE Obj.railAddress r = 0 then s else requestVout .vout r (s.rdE Obj.railVoutMv r) s) s

end Sys2Proof.Machine
end

