-- ==== Sys2Proof/Machine/FloorOps.lean ====
section
/-!
DEFINITION. Detections on the floor: the list of a step (R299), classes, projection and correction (R300 to R303), coverage
(R304, R305), and declared overlaps (R306 to R309).
-/
namespace Sys2Proof.Machine

/-- The step being fused, as far as the floor is concerned: its settings, the job fused where it runs, its records. -/
structure Floor where
  k : Nat
  d : Store
  job : Option Nat
  lost : List Nat
  missing : List Nat
  node : Nat
  deriving DecidableEq, Repr

/-- The paddock job of a step, where it runs in the step (R297). -/
def State.fusedJob (s : State) (r : StepRec) : Option Nat :=
  let j := cfgN r.cfg Obj.paddockJob
  if j < 64 && s.inRun j r.k then some j else none
def State.floorOf (s : State) (r : StepRec) : Floor :=
  ⟨r.k, r.cfg, s.fusedJob r, r.lost, r.missing, s.rd Obj.nodeNumber⟩

/-! ### Entries and coverage (R301, R304, R305) -/

def Floor.key (x : Floor) (e : Nat) : Nat := cfgE x.d Obj.projKey e
def Floor.valid (x : Floor) (e : Nat) : Bool := bit (x.key e) 31
def Floor.entryNode (x : Floor) (e : Nat) : Nat := field (x.key e) 27 16
def Floor.entryGate (x : Floor) (e : Nat) : Nat := x.key e % 256
def Floor.isLocal (x : Floor) (e : Nat) : Bool := x.valid e && x.entryNode e == x.node

/-- Gates of job j with a missing gate-tied stripe in a step (R195). -/
def State.stripeGates (s : State) (j k : Nat) (missing : List Nat) : List Nat :=
  match (s.slot j).image with
  | none => []
  | some img =>
    let gates := s.jobGates j
    let cut := (s.yard (s.jobYard j)).cutAt k
    let tied := img.groups.filter (fun g => bit (grpFlags g) 0)
    let gone := fun (g : List Byte) (i : Nat) => (List.range (grpRows g)).any (fun y =>
      match rowOwner g cut gates.length (i * grpRows g + y) with
      | none => true
      | some o => missing.contains o)
    ((List.range gates.length).zip gates).filterMap (fun p => if tied.any (fun g => gone g p.1) then some p.2 else none)

/-- Gates of the device that are covered in the step. -/
def State.coveredGates (s : State) (x : Floor) : List Nat :=
  match x.job with
  | none => []
  | some j =>
    let bad := s.stripeGates j x.k x.missing
    (s.jobGates j).filter (fun g => !x.lost.contains g && !bad.contains g)

/-- Covered gates of another device, as its members of the job's yard reported them for the step; none of a member with a leaf
that is missing. -/
def State.remoteCover (s : State) (x : Floor) (n : Nat) : List Nat :=
  match x.job with
  | none => []
  | some j =>
    let y := s.jobYard j
    ((remoteMembers s.dict y).filter (fun m => m.1 == n)).flatMap (fun m =>
      if x.missing.any (s.ofMember y n m.2) then []
      else
        match (s.peer n).covered.find? (fun c => c.1 == m.2 && c.2.1 == x.k) with
        | some c => bitsOf 36 c.2.2
        | none => [])

/-- The covered entries of the step. -/
def State.coveredEntries (s : State) (x : Floor) : List Nat :=
  let own := s.coveredGates x
  (List.range 256).filter (fun e =>
    x.valid e && x.job.isSome
      && (if x.entryNode e == x.node then own.contains (x.entryGate e) else (s.remoteCover x (x.entryNode e)).contains (x.entryGate e)))

/-- A rectangle: x min, y min, x max, y max. -/
abbrev Rect := Int × Int × Int × Int
def rectAt (d : Store) (addr i : Nat) : Rect :=
  let v := fun n => cfgI d 32 addr (4 * i + n)
  (v 0, v 1, v 2, v 3)
/-- Whether a position, both scaled by m, lies in a rectangle. -/
def inRect (r : Rect) (m x y : Int) : Bool := r.1 * m ≤ x && x ≤ r.2.2.1 * m && r.2.1 * m ≤ y && y ≤ r.2.2.2 * m

/-- The rectangles of the covered and of the uncovered cameras; an entry that is not valid has no camera. -/
structure Cover where
  entries : List Nat
  seen : List Rect
  blind : List Rect
  deriving DecidableEq, Repr
def State.cover (s : State) (x : Floor) : Cover :=
  let es := s.coveredEntries x
  let rect := fun e => rectAt x.d Obj.projBox e
  ⟨es, es.map rect, ((List.range 256).filter (fun e => x.valid e && !es.contains e)).map rect⟩
/-- Whether a position, in 1/m mm, is uncovered (R305). -/
def Cover.uncovered (c : Cover) (m x y : Int) : Bool := c.blind.any (fun r => inRect r m x y)

/-! ### Projection (R300 to R303) -/

/-- The valid entry of a camera. -/
def Floor.entryOf (x : Floor) (node gate : Nat) : Option Nat :=
  (List.range 256).find? (fun e => x.valid e && x.entryNode e == node && x.entryGate e == gate)

/-- The foot point through the homography of entry e, in mm: none beyond the horizon. -/
def Floor.project (x : Floor) (e : Nat) (u v : Int) : Option (Int × Int) :=
  let h := fun i => cfgI x.d 32 Obj.projH (9 * e + i)
  let nx := h 0 * u + h 1 * v + h 2 * 2 ^ 16
  let ny := h 3 * u + h 4 * v + h 5 * 2 ^ 16
  let d := h 6 * u + h 7 * v + h 8 * 2 ^ 16
  if d ≤ 0 then none else some (roundAway nx d.toNat, roundAway ny d.toNat)

/-- One box: a detection, or the element of PADDOCK.DETECTIONS_DROPPED that counts it. -/
def Floor.detection (x : Floor) (b : Box) : Except Nat Detection :=
  let cls := if b.cls < 256 then cfgE x.d Obj.paddockClassMap b.cls else 0xFF
  if cls = 0xFF then .error 0
  else
    match x.entryOf b.node b.gate with
    | none => .error 1
    | some e =>
      match x.project e b.footX b.footY with
      | none => .error 2
      | some (px, py) =>
        if 2 ^ 30 < px.natAbs ∨ 2 ^ 30 < py.natAbs then .error 3
        else
          let a := fun addr => cfgI x.d 32 addr e
          let (fx, fy) := corrected (a Obj.alignDx) (a Obj.alignDy) (a Obj.alignDtheta) px py
          .ok ⟨fx, fy, px, py, b.footX, b.footY, 0, 0, 0, cls, b.score, e, 0xFF, if b.flagged then 4 else 0, b.cls % 256, 0xFFFF⟩

/-- The boxes of a step: the lists of the job's DETECT layers with TO_PADDOCK, in layer order (R299). -/
def State.stepBoxes (s : State) (x : Floor) : List Box :=
  match x.job with
  | none => []
  | some j =>
    match (s.slot j).image with
    | none => []
    | some img =>
      (List.range img.layers.length).flatMap (fun n =>
        if lyType (img.layer n) == tyDetect && dePaddock (img.layer n) then (s.listOf j n x.k).getD [] else [])

/-- The detections of a list of boxes; what is discarded is counted. -/
def takeBoxes (x : Floor) : List Box → State → List Detection × State
  | [], s => ([], s)
  | b :: t, s =>
    match x.detection b with
    | .ok d => let (r, s) := takeBoxes x t s; (d :: r, s)
    | .error i => takeBoxes x t (addE 32 Obj.paddockDetectionsDropped i 1 s)

/-! ### Overlaps (R306 to R309) -/

/-- A candidate pair: squared distance, index from entry A, index from entry B. -/
abbrev PairCand := Int × Nat × Nat
def pairBefore (a b : PairCand) : Bool :=
  a.1 < b.1 || (a.1 == b.1 && (a.2.1 < b.2.1 || (a.2.1 == b.2.1 && a.2.2 ≤ b.2.2)))
/-- Take pairs in order; none shares a detection with one already taken. -/
def takePairs : List PairCand → List (Nat × Nat) → List (Nat × Nat)
  | [], got => got
  | p :: t, got =>
    if got.any (fun q => q.1 == p.2.1 || q.2 == p.2.2 || q.1 == p.2.2 || q.2 == p.2.1) then takePairs t got
    else takePairs t (got ++ [(p.2.1, p.2.2)])

/-- Bits of a detection's flags. -/
abbrev dfMerged : Nat := 0
abbrev dfContradicted : Nat := 1
abbrev dfFlagged : Nat := 2
abbrev dfBirth : Nat := 3
abbrev dfUnsolved : Nat := 4
abbrev dfRefused : Nat := 5

/-- The merged detection of a from entry A and b from entry B. -/
def mergeTwo (ea eb : Nat) (a b : Detection) : Detection :=
  ⟨asr (a.x + b.x) 1, asr (a.y + b.y) 1, a.rawX, a.rawY, a.footX, a.footY, b.x, b.y, 0, a.cls, max a.score b.score, ea, eb,
    setBit (a.flags ||| b.flags) dfMerged, a.channel, 0xFFFF⟩

/-- The outcome of one overlap on the list; removed detections are none. -/
structure OverlapResult where
  dets : List (Option Detection)
  merged : Nat
  contra : Nat
  deriving DecidableEq, Repr

def Floor.overlap (x : Floor) (o : Nat) (dets : List (Option Detection)) : OverlapResult :=
  let w := cfgE x.d Obj.overlapEntries o
  let ea := w % 256
  let eb := w / 256 % 256
  let r := rectAt x.d Obj.overlapRect o
  let mm : Int := cfgE x.d Obj.overlapMergeMm o
  let inside := fun (e : Nat) (q : Option Detection) => match q with
    | some d => d.entryA == e && d.entryB == 0xFF && inRect r 1 d.x d.y
    | none => false
  let as := (List.range dets.length).filter (fun i => inside ea (dets.getD i none))
  let bs := (List.range dets.length).filter (fun i => inside eb (dets.getD i none))
  let cands := as.flatMap (fun i => bs.filterMap (fun j =>
    match dets.getD i none, dets.getD j none with
    | some a, some b =>
      let d2 := (a.x - b.x) * (a.x - b.x) + (a.y - b.y) * (a.y - b.y)
      if a.cls = b.cls ∧ d2 ≤ mm * mm then some (d2, i, j) else none
    | _, _ => none))
  let pairs := takePairs (sortBy pairBefore cands) []
  let paired := pairs.flatMap (fun p => [p.1, p.2])
  let contra := (as ++ bs).filter (fun i => !paired.contains i)
  let dets := contra.foldl (fun l i => setAt l i ((l.getD i none).map (fun d => { d with flags := setBit d.flags dfContradicted }))) dets
  let dets := pairs.foldl (fun l p =>
    match l.getD p.1 none, l.getD p.2 none with
    | some a, some b => setAt (setAt l (max p.1 p.2) none) (min p.1 p.2) (some (mergeTwo ea eb a b))
    | _, _ => l) dets
  ⟨dets, pairs.length, contra.length⟩

/-- The counter of an overlap moves; at its limit the pair is reported (R308). -/
def contraCount (x : Floor) (o : Nat) (r : OverlapResult) (s : State) : State :=
  let n := s.rdE Obj.overlapCount o
  let n := if 0 < r.contra then n + 1 else if 0 < r.merged then n - 1 else n
  let w := cfgE x.d Obj.overlapEntries o
  if cfgE x.d Obj.overlapLimit o ≤ n then
    let s := s |> wrE Obj.overlapCount o 0 |> inc 32 Obj.paddockContraEvents
    if x.isLocal (w % 256) && x.isLocal (w / 256 % 256) then
      -- the groom sets ALIGN_CHECK and looks at the pair in its next cycle (R140)
      if s.isOn 10 then
        s |> updGroom (fun g => { g with checks := g.checks ++ [(x.entryGate (w % 256), x.entryGate (w / 256 % 256))] })
          |> detect groomBlock Src.groomAlignCheck
      else s
    else detect padBlock Src.padContradiction s
  else wrE Obj.overlapCount o n s

/-- Every overlap whose two entries are covered, in order. -/
def mergeOverlaps (x : Floor) (c : Cover) (dets : List Detection) (s : State) : List Detection × State :=
  let (l, s) := (List.range 64).foldl (fun (p : List (Option Detection) × State) o =>
    let w := cfgE x.d Obj.overlapEntries o
    if w = 0xFFFF ∨ !c.entries.contains (w % 256) ∨ !c.entries.contains (w / 256 % 256) then p
    else
      let r := x.overlap o p.1
      (r.dets, contraCount x o r p.2)) (dets.map some, s)
  (l.filterMap id, s)

end Sys2Proof.Machine
end

