-- ==== Sys2Proof/Machine/AuctionOps.lean ====
section
/-!
DEFINITION. The assignment: costs and gating (R310, R311), clusters and tiles (R312), and the forward auction with its
budget (R313 to R317).
-/
namespace Sys2Proof.Machine

/-! ### Costs (R310, R311) -/

/-- An ungated pair: track record, detection index, cost. -/
structure Edge where
  t : Nat
  d : Nat
  cost : Nat
  deriving DecidableEq, Repr

/-- The distance in mm, to the nearest integer, between a predicted position in 1/256 mm and a detection. -/
def distMm (xp yp : Int) (d : Detection) : Nat :=
  let dx := d.x * 256 - xp
  let dy := d.y * 256 - yp
  (isqrt (dx * dx + dy * dy).toNat + 128) / 256

/-- The cost of a pair, where it is not gated. -/
def edgeCost (cfg : Store) (t : Track) (d : Detection) : Option Nat :=
  let n := distMm t.predX t.predY d
  if t.cls = d.cls ∧ n ≤ cfgE cfg Obj.classGateMm t.cls then some (min n 0xFFFE) else none

/-- The cell size of the floor grid. -/
def gridCell (cfg : Store) : Nat := max 1 (((List.range 4).map (fun c => cfgE cfg Obj.classGateMm c)).foldl max 0)
/-- Whether a track and a detection lie in the same or in neighbouring cells of the floor grid. -/
def sameCells (cell : Nat) (t : Track) (d : Detection) : Bool :=
  let c : Int := (cell : Nat)
  ((asr t.predX 8) / c - d.x / c).natAbs ≤ 1 && ((asr t.predY 8) / c - d.y / c).natAbs ≤ 1

/-- The pairs examined, and those that are not gated. -/
def gatePairs (cfg : Store) (tracks : List (Nat × Track)) (dets : List Detection) : Nat × List Edge :=
  let cell := gridCell cfg
  let near := tracks.flatMap (fun t => ((List.range dets.length).zip dets).filterMap (fun p =>
    if sameCells cell t.2 p.2 || (edgeCost cfg t.2 p.2).isSome then some (t, p) else none))
  (near.length, near.filterMap (fun q => (edgeCost cfg q.1.2 q.2.2).map (fun n => ⟨q.1.1, q.2.1, n⟩)))

/-! ### Clusters and tiles (R311, R312) -/

/-- Tracks and detections reached from a set of tracks. -/
def grow (es : List Edge) : Nat → List Nat → List Nat
  | 0, ts => ts
  | fuel + 1, ts =>
    let ds := (es.filter (fun e => ts.contains e.t)).map (·.d)
    let more := (es.filter (fun e => ds.contains e.d && !ts.contains e.t)).map (·.t)
    if more.isEmpty then ts else grow es fuel (ts ++ dedup more)

/-- The clusters as lists of tracks in ascending record index. -/
def clusters (es : List Edge) : List Nat → List Nat → List (List Nat)
  | [], _ => []
  | t :: rest, seen =>
    if seen.contains t ∨ !es.any (fun e => e.t == t) then clusters es rest seen
    else
      let c := grow es (es.length + 1) [t]
      sortBy (fun a b => a ≤ b) c :: clusters es rest (seen ++ c)

/-- A tile: tracks in ascending record index, detections in list order, pairs. -/
structure Tile where
  ts : List Nat
  ds : List Nat
  es : List Edge
  deriving DecidableEq, Repr

/-- Cut a cluster into tiles of at most 512 tracks and 512 detections: open tile, detections of earlier tiles. -/
def cutTiles (es : List Edge) : List Nat → List Nat → List Nat → List Nat → List (List Nat × List Nat)
  | [], ts, ds, _ => if ts.isEmpty then [] else [(ts, ds)]
  | t :: rest, ts, ds, before =>
    let mine := dedup (((es.filter (fun e => e.t == t)).map (·.d)).filter (fun d => !before.contains d))
    let fresh := mine.filter (fun d => !ds.contains d)
    if !ts.isEmpty && (512 ≤ ts.length || 512 < ds.length + fresh.length) then
      (ts, ds) :: cutTiles es rest [t] (mine.filter (fun d => !ds.contains d)) (before ++ ds)
    else cutTiles es rest (ts ++ [t]) (ds ++ fresh) before

/-- The tiles of a cluster. -/
def tilesOf (es : List Edge) (c : List Nat) : List Tile :=
  (cutTiles es c [] [] []).map (fun p =>
    ⟨p.1, sortBy (fun a b => a ≤ b) p.2, es.filter (fun e => p.1.contains e.t && p.2.contains e.d)⟩)

/-! ### The auction (R314, R315) -/

/-- The square problem of a tile, by its ungated columns per row with scaled costs. -/
structure Square where
  n : Nat
  rows : List (List (Nat × Int))
  top : Nat
  deriving DecidableEq, Repr

def Tile.square (t : Tile) (u : Nat) : Square :=
  let r := t.ts.length
  let c := t.ds.length
  let k : Int := ((r + c + 1 : Nat) : Int)
  let track := fun (i : Nat) =>
    (((List.range c).filterMap (fun j =>
        (t.es.find? (fun e => e.t == t.ts.getD i 0 && e.d == t.ds.getD j 0)).map (fun e => (j, (e.cost : Int) * k))))
      ++ [(c + i, (u : Int) * k)])
  let dummy := fun (j : Nat) => (j, (u : Int) * k) :: (List.range r).map (fun i => (c + i, 0))
  ⟨r + c, (List.range r).map track ++ (List.range c).map dummy, (t.es.map (·.cost)).foldl max u⟩

/-- A bid of a row: the column it names, and its new price. -/
def bidOf (entries : List (Nat × Int)) (prices : List Int) (eps : Int) : Nat × Int :=
  let step := fun (a : Option (Nat × Int) × Option Int) (e : Nat × Int) =>
    let w := e.2 + prices.getD e.1 0
    match a.1 with
    | none => (some (e.1, w), none)
    | some (j, best) =>
      if w < best then (some (e.1, w), some best)
      else (some (j, best), match a.2 with | none => some w | some x => some (min x w))
  match entries.foldl step (none, none) with
  | (some (j, best), second) =>
    let raise := match second with | none => eps | some x => x - best + eps
    (j, prices.getD j 0 + raise)
  | (none, _) => (0, 0)

structure Auction where
  prices : List Int
  owner : List (Option Nat)
  queue : List Nat
  eps : Int
  last : Option (List (Option Nat))   -- owners at the end of the last completed phase
  cycles : Nat
  deriving DecidableEq, Repr

/-- The winning bid of each column in a round: row, column, new price. A tie goes to the lower row. -/
def winners (bids : List (Nat × Nat × Int)) : List (Nat × Nat × Int) :=
  bids.filter (fun b => bids.all (fun q => q.2.1 != b.2.1 || q.2.2 < b.2.2 || (q.2.2 == b.2.2 && b.1 ≤ q.1)))

/-- Cycles of the next round. -/
def roundCycles (q : Square) (a : Auction) : Nat :=
  4 + ceilDiv (((a.queue.take 8).map (fun i => (q.rows.getD i []).length)).foldl max 0) 64

/-- One round: up to eight rows bid, losers return to the head of the queue, owners who lose their column to its tail. -/
def auctionRound (q : Square) (a : Auction) : Auction :=
  let now := a.queue.take 8
  let bids := now.map (fun i => (i, bidOf (q.rows.getD i []) a.prices a.eps))
  let won := winners bids
  let losers := now.filter (fun i => !won.any (fun b => b.1 == i))
  let out := won.filterMap (fun b => a.owner.getD b.2.1 none)
  ⟨won.foldl (fun p b => setAt p b.2.1 b.2.2) a.prices, won.foldl (fun o b => setAt o b.2.1 (some b.1)) a.owner,
    sortBy (fun x y => x ≤ y) losers ++ a.queue.drop 8 ++ sortBy (fun x y => x ≤ y) out, a.eps, a.last, a.cycles + roundCycles q a⟩

/-- The next phase begins: every row unassigned, prices kept. -/
def nextPhase (q : Square) (a : Auction) : Auction :=
  { a with owner := List.replicate q.n none, queue := List.range q.n, eps := max 1 (a.eps / 8), last := some a.owner }

/-- Run rounds while the budget lasts; `fuel` bounds their number. The answer tells whether the budget ran out. -/
def auctionRun (q : Square) (budget : Nat) : Nat → Auction → Auction × Bool
  | 0, a => (a, true)
  | fuel + 1, a =>
    if a.queue.isEmpty then
      if a.eps = 1 then ({ a with last := some a.owner }, false) else auctionRun q budget fuel (nextPhase q a)
    else if budget < a.cycles + roundCycles q a then (a, true)
    else auctionRun q budget fuel (auctionRound q a)

def auctionStart (q : Square) : Auction :=
  ⟨List.replicate q.n 0, List.replicate q.n none, List.range q.n, max 1 (((q.n + 1) * q.top : Nat) / 8 : Nat), none, 0⟩

/-- The result of one tile: pairs (track, detection), cycles, whether the budget ran out, and whether some phase was
completed. -/
structure Solved where
  pairs : List (Nat × Nat)
  cycles : Nat
  capped : Bool
  whole : Bool
  deriving DecidableEq, Repr

def Tile.solve (t : Tile) (u budget : Nat) : Solved :=
  if t.es.isEmpty then ⟨[], 0, false, true⟩ else
  let q := t.square u
  let (a, capped) := auctionRun q budget (budget / 4 + 80) (auctionStart q)
  let owner := a.last.getD a.owner
  let pairs := (List.range t.ds.length).filterMap (fun j =>
    match owner.getD j none with
    | some i => if i < t.ts.length then some (t.ts.getD i 0, t.ds.getD j 0) else none
    | none => none)
  ⟨pairs, a.cycles, capped, a.last.isSome⟩

/-! ### All tiles of a step (R317) -/

structure Assignment where
  pairs : List (Nat × Nat)
  idleTracks : List Nat     -- tracks without a pair whose tile went unsolved
  idleDets : List Nat
  cycles : Nat
  capped : Bool
  splits : Nat
  examined : Nat
  deriving DecidableEq, Repr

/-- Take the tiles in order while the budget lasts. The unpaired members of a tile that has no completed phase stay
unsolved like those of the later tiles (log entry 50). -/
def solveTiles (u budget : Nat) : List Tile → Assignment → Assignment
  | [], a => a
  | t :: rest, a =>
    if a.capped then
      solveTiles u budget rest { a with idleTracks := a.idleTracks ++ t.ts, idleDets := a.idleDets ++ t.ds }
    else
      let r := t.solve u (budget - a.cycles)
      let a := { a with pairs := a.pairs ++ r.pairs, cycles := a.cycles + r.cycles, capped := r.capped }
      let open' := r.capped && !r.whole
      solveTiles u budget rest (if open' then
          { a with idleTracks := a.idleTracks ++ t.ts.filter (fun i => !r.pairs.any (fun p => p.1 == i)),
                   idleDets := a.idleDets ++ t.ds.filter (fun j => !r.pairs.any (fun p => p.2 == j)) }
        else a)

/-- The assignment of a step. -/
def assign (cfg : Store) (tracks : List (Nat × Track)) (dets : List Detection) : Assignment :=
  let (examined, es) := gatePairs cfg tracks dets
  let cs := clusters es (tracks.map (·.1)) []
  let tiles := cs.map (tilesOf es)
  let splits := sumNat (tiles.map (fun l => l.length - 1))
  let order := sortBy (fun (a b : Tile) => a.ts.headD 0 ≤ b.ts.headD 0) tiles.flatten
  solveTiles (cfgN cfg Obj.paddockUnassignedCost) (cfgN cfg Obj.paddockSolveBudget) order ⟨[], [], [], 0, false, splits, examined⟩

end Sys2Proof.Machine
end

