-- ==== Sys2Proof/Machine/DeliverOps.lean ====
section
/-!
DEFINITION. What a yard delivers: a leaf's delivery of a step (R21), the outputs of a step in their buffers (R229 to R232,
R264, R265), the entries of a step (R195, R200, R333), and the delivery of a serving device to its lead (R431, R434).
-/
namespace Sys2Proof.Machine

/-! ### What a step holds for a job -/

def State.jobStep (r : StepRec) (j : Nat) : JobStep := sget JobStep.reset r.jobs j
/-- The cut of job j in step k, on a serving device with the leaves of other devices that its lead has put into it. -/
def State.jobCut (s : State) (j k : Nat) : List Nat := (s.yard (s.jobYard j)).cutAt k
/-- Whether a step of a job is partial: a leaf of its cut is missing, or no leaf is left (R195, R197). -/
def State.partialStep (s : State) (r : StepRec) (j : Nat) : Bool :=
  let cut := s.ownCut (s.jobYard j) r.k
  cut.isEmpty || cut.any (fun l => r.missing.contains l)
/-- The member bitmap (R195). -/
def State.memberBitmap (s : State) (r : StepRec) (j : Nat) : Nat :=
  let y := s.jobYard j
  maskOf ((List.range 64).filter (fun i =>
    let ls := s.slotLeaves s.dict y i
    !ls.isEmpty && ls.all (fun l => r.delivered.contains l)))
/-- STEP_HEADER flags PARTIAL, HALO_FILLED and REMAP of a job's step. -/
def State.headerFlags (s : State) (r : StepRec) (j : Nat) : Nat :=
  let x := State.jobStep r j
  boolNat (s.partialStep r j) + 2 * boolNat x.haloFilled + 4 * boolNat x.remapFirst

/-- A leaf of a job as it stood in step k, whether or not it has failed since. -/
def State.leafIn (s : State) (j i : Nat) : Option Leaf := (s.slot j).image.map (fun img => ⟨i, j, img, s.jobGates j⟩)

/-! ### Record outputs (R229 to R231) -/

/-- The RECORDS sets of a remote leaf for layer n in step k: what its sender dropped, and the records. -/
def State.remoteRecords (s : State) (n k leaf : Nat) : List (Nat × List DWord) :=
  (s.net.recordsGot.filter (fun x => x.node == leafNode leaf && x.step == k && x.layer == n && x.stall == leaf % 256)).map
    (fun x => (x.dropped, x.records))

/-- Records that a leaf gives to an output of type 5 or 7 on layer n, and how many of them were dropped on the way: its own
ones, or those a serving device sent. An incomplete set counts the records of its parts as dropped (R434). -/
def State.leafRecords (s : State) (img : JobImage) (type n k leaf : Nat) : Nat × List DWord :=
  if isLocal leaf then
    (0, ((s.stall leaf).records.filter (fun x => x.1 == (if type = 7 then eventKey n else n) && x.2.1 == k)).map (·.2.2))
  else
    let got := s.remoteRecords n k leaf
    let both := !(img.outputsOf 5 n).isEmpty && !(img.outputsOf 7 n).isEmpty
    match (if both && type = 7 then got[1]? else got.head?) with
    | some x => x
    | none =>
      let part := s.net.sets.filter (fun x => x.kind == 4 && x.src == leafNode leaf && x.step == k
        && x.tag == leBytes 2 n ++ leBytes 1 (leaf % 256))
      (sumNat (part.flatMap (fun x => x.got.map (fun p => leAt p.2 4 4))), [])

/-- The bytes of records. -/
def recordBytes (rs : List DWord) : List Byte := rs.flatMap (fun r => leBytes 8 r.toNat)

/-- Whether rows that feed layer n were truncated in the step on some leaf (R226). -/
def State.inputTruncated (s : State) (img : JobImage) (n k : Nat) (cut : List Nat) : Bool :=
  lyType (img.layer n) == tySpikeConv
    && (cut.filter isLocal).any (fun i => (s.stall i).truncated.contains (lySource (img.layer n), k))

/-- Flagged rows of layer n that a leaf owns. -/
def State.leafFlagged (s : State) (j n k leaf : Nat) : List Nat :=
  if isLocal leaf then match s.leafIn j leaf with | some f => s.flaggedOwned f n k | none => [] else []

/-- The 48-byte body of a FEATURE_REF or EVENT_BATCH_REF entry. -/
def recordEntry (k addr records dropped cap n leaf flags : Nat) (ra : (Nat × Nat) × (Nat × Nat)) : List Byte :=
  leBytes 8 k ++ leBytes 8 addr ++ leBytes 4 records ++ leBytes 4 (satTo 32 dropped) ++ leBytes 4 cap ++ leBytes 2 n
    ++ leBytes 1 leaf ++ leBytes 1 flags ++ leBytes 4 ra.1.1 ++ leBytes 2 ra.1.2 ++ leBytes 2 ra.2.2 ++ leBytes 4 ra.2.1
    ++ leBytes 4 0

/-- Write the records of one leaf-scope buffer; the entry body. -/
def leafRecordOut (j o type n k idx leaf : Nat) (img : JobImage) (cut : List Nat) (s : State) : List Byte × State :=
  let l := img.layer n
  let (gone, all) := s.leafRecords img type n k leaf
  let lost := all.length - spCapacity l + gone
  let cap := spCapacity l
  let kept := all.take cap
  let addr := jobPlace j o (k % max 1 (spSteps l)) idx (8 * cap)
  let rows := s.leafFlagged j n k leaf
  let flags := boolNat (0 < lost) + 2 * boolNat (!rows.isEmpty) + 4 * boolNat (s.inputTruncated img n k cut)
  (recordEntry k addr kept.length lost cap n (leaf % 256) flags (flagRanges (img.owned cut (s.jobGates j).length leaf n) rows), memWrite addr (recordBytes kept) s)

/-- The records of a yard-scope buffer: leaves in order, later ones lose first (R230). -/
def yardRecords (img : JobImage) (type n k cap : Nat) : List Nat → Nat → State → List DWord × Nat × State
  | [], _, s => ([], 0, s)
  | leaf :: rest, used, s =>
    let (gone, all) := s.leafRecords img type n k leaf
    let kept := all.take (cap - used)
    let lost := all.length - kept.length
    let s := if 0 < lost && isLocal leaf then
        s |> addE 64 (Obj.spikeRecordsDropped leaf) 0 lost |> detect (stallBlock leaf) Src.stallRecordsDropped
      else s
    let (r, d, s) := yardRecords img type n k cap rest (used + kept.length) s
    (kept ++ r, gone + lost + d, s)

def yardRecordOut (j o type n k : Nat) (img : JobImage) (cut gone : List Nat) (s : State) : List Byte × State :=
  let l := img.layer n
  let cap := spCapacity l
  let (rs, lost, s) := yardRecords img type n k cap (cut.filter (fun x => !gone.contains x)) 0 s
  let addr := jobPlace j o (k % max 1 (spSteps l)) 0 (8 * cap)
  let bad := cut.any (fun x => !(s.leafFlagged j n k x).isEmpty)
  let flags := boolNat (0 < lost) + 2 * boolNat bad + 4 * boolNat (s.inputTruncated img n k cut)
  (recordEntry k addr rs.length lost cap n 0xFF flags ((0, 0), (0, 0)), memWrite addr (recordBytes rs) s)

/-! ### Tensor outputs (R264, R265) -/

/-- The row of layer n that its owner holds; zeros where the owner is missing or on another device. -/
def State.tensorRow (s : State) (j n k row : Nat) (img : JobImage) (cut gone : List Nat) : List Byte :=
  let l := img.layer n
  match img.owner cut (s.jobGates j).length n row with
  | some o =>
    if isLocal o && !gone.contains o then (s.stall o).rowBytesOf n k row (lyOut l) (lyW l)
    else List.replicate (rowBytes (lyOut l) (lyW l)) 0
  | none => List.replicate (rowBytes (lyOut l) (lyW l)) 0

/-- A compressed map whose rows follow one another: directory and rows (R237). -/
def packRows (rows : List (List Byte)) : List Byte :=
  let cs := rows.map compressRow
  let dir := ceilDiv (4 * rows.length) 8 * 8
  let offs := (List.range rows.length).map (fun i => dir + sumNat ((cs.take i).map (·.length)))
  padTo dir (offs.flatMap (leBytes 4)) ++ cs.flatten
/-- A compressed map whose rows have fixed places: what is written, by offset, and the bytes written (R264, R265). -/
def fixedRows (rows : List (List Byte)) : List (Nat × List Byte) × Nat :=
  let dir := ceilDiv (4 * rows.length) 8 * 8
  let room := (rows.headD []).length / 64 * 72
  let offs := (List.range rows.length).map (fun i => dir + i * room)
  let parts := (offs.zip rows).map (fun p => (p.1, compressRow p.2))
  ((0, padTo dir (offs.flatMap (leBytes 4))) :: parts, dir + sumNat (parts.map (fun p => p.2.length)))

/-- The 48-byte body of a TENSOR_REF entry. -/
def tensorEntry (k addr bytes channels width rows n leaf flags first : Nat) (ra : (Nat × Nat) × (Nat × Nat)) : List Byte :=
  leBytes 8 k ++ leBytes 8 addr ++ leBytes 4 bytes ++ leBytes 2 channels ++ leBytes 2 width ++ leBytes 4 rows ++ leBytes 2 n
    ++ leBytes 1 leaf ++ leBytes 1 flags ++ leBytes 4 ra.1.1 ++ leBytes 2 ra.1.2 ++ leBytes 2 ra.2.2 ++ leBytes 4 ra.2.1
    ++ leBytes 4 first

/-- A box list as an output. -/
def boxOut (j o n k idx leaf : Nat) (img : JobImage) (boxes : List Box) (bad : Bool) (ra : (Nat × Nat) × (Nat × Nat)) (s : State) :
    List Byte × State :=
  let l := img.layer n
  let bs := boxes.take (deK l)
  let addr := jobPlace j o (k % max 1 (dnSteps l)) idx (32 * deK l)
  (tensorEntry k addr (32 * bs.length) 0 32 bs.length n leaf (4 + 2 * boolNat bad) 0 ra, memWrite addr (bs.flatMap boxBytes) s)

/-- The map rows that a leaf owns, as a leaf-scope output. -/
def leafTensorOut (j o n k idx leaf : Nat) (img : JobImage) (cut : List Nat) (s : State) : List Byte × State :=
  let l := img.layer n
  let rows := img.owned cut (s.jobGates j).length leaf n
  let bad := s.leafFlagged j n k leaf
  if lyType l = tyDetect then
    boxOut j o n k idx leaf img (sortBy boxBefore ((((s.stall leaf).boxes.find? (fun b => b.1 == n && b.2.1 == k)).map (·.2.2)).getD [])) (!bad.isEmpty) (flagRanges rows bad) s
  else
    let data := rows.map (fun r => (s.stall leaf).rowBytesOf n k r (lyOut l) (lyW l))
    let packed := bit (lyFlags l) 0
    let b := if packed then packRows data else data.flatten
    let addr := jobPlace j o (k % max 1 (dnSteps l)) idx (img.mapBytes n (s.jobGates j).length)
    (tensorEntry k addr b.length (lyOut l) (lyW l) rows.length n leaf (boolNat packed + 2 * boolNat (!bad.isEmpty)) (rows.headD 0)
      (flagRanges rows bad), memWrite addr b s)

/-- The whole stacked map, or the merged list, as a yard-scope output. -/
def yardTensorOut (j o n k : Nat) (img : JobImage) (cut gone : List Nat) (s : State) : List Byte × State :=
  let l := img.layer n
  let bad := cut.any (fun x => !(s.leafFlagged j n k x).isEmpty)
  if lyType l = tyDetect then boxOut j o n k 0 0xFF img ((s.listOf j n k).getD []) bad ((0, 0), (0, 0)) s
  else
    let m := (s.jobGates j).length
    let rows := (List.range (img.stackedRows n m)).map (fun r => s.tensorRow j n k r img cut gone)
    let packed := bit (lyFlags l) 0
    let addr := jobPlace j o (k % max 1 (dnSteps l)) 0 (img.mapBytes n m)
    let (parts, size) := if packed then fixedRows rows else ([(0, rows.flatten)], sumNat (rows.map (·.length)))
    (tensorEntry k addr size (lyOut l) (lyW l) rows.length n 0xFF (boolNat packed + 2 * boolNat bad) 0 ((0, 0), (0, 0)),
      parts.foldl (fun s p => memWrite (addr + p.1) p.2 s) s)

/-! ### The entries of a step (R200) -/

/-- The entries of output record o: type and body of each. Entry i of a leaf-scope output is for leaf i of the yard (R167,
R231); a leaf that is missing, or that the cut of the step leaves out, gets an IDLE entry, and one beyond the declared count
none (R177). A leaf on another device has no map here: its TENSOR_REF is IDLE (log entry 51). -/
def outputEntries (r : StepRec) (j o : Nat) (img : JobImage) (s : State) : List (Nat × List Byte) × State :=
  let rec' := img.outputs.getD o []
  let type := outType rec'
  let n := outLayer rec'
  let cut := s.jobCut j r.k
  let own := s.ownCut (s.jobYard j) r.k
  if outScope rec' = 1 then
    let (b, s) := if own.isEmpty then (none, s)
      else
        let (b, s) := if type = 6 then yardTensorOut j o n r.k img cut r.missing s else yardRecordOut j o type n r.k img own r.missing s
        (some b, s)
    ((List.range (outEntries rec')).map (fun i => if i = 0 then (match b with | some b => (type, b) | none => (0, [])) else (0, [])), s)
  else
    let leaves := s.yardLeaves s.dict (s.jobYard j)
    let (es, s) := ((List.range leaves.length).zip leaves).foldl (fun (p : List (Nat × List Byte) × State) (q : Nat × Nat) =>
      if !own.contains q.2 || r.missing.contains q.2 || (type == 6 && !isLocal q.2) then (p.1 ++ [(0, [])], p.2)
      else
        let (b, s) := if type = 6 then leafTensorOut j o n r.k q.1 q.2 img cut p.2
          else leafRecordOut j o type n r.k q.1 q.2 img cut p.2
        (p.1 ++ [(type, b)], s)) ([], s)
    ((List.range (outEntries rec')).map (fun i => es.getD i (0, [])), s)

/-- Every declared output entry of a step, in order. -/
def allOutputs (r : StepRec) (j : Nat) (img : JobImage) (s : State) : List (Nat × List Byte) × State :=
  (List.range img.outputs.length).foldl (fun (p : List (Nat × List Byte) × State) o =>
    let (es, s) := outputEntries r j o img p.2
    (p.1 ++ es, s)) ([], s)

/-- The body of a STEP_HEADER (R333). -/
def stepHeader (k flags writer slot entries bitmap uncovered node yard : Nat) : List Byte :=
  leBytes 8 k ++ leBytes 2 flags ++ leBytes 1 writer ++ leBytes 1 slot ++ leBytes 4 entries ++ leBytes 8 bitmap
    ++ leBytes 8 uncovered ++ leBytes 2 node ++ leBytes 1 yard

/-- Bound gates of a job that are not covered in the step by the facts of R304. -/
def State.jobUncovered (s : State) (r : StepRec) (j : Nat) : Nat :=
  let bad := s.stripeGates j r.k r.missing
  maskOf ((s.jobGates j).filter (fun g => r.lost.contains g || bad.contains g))

/-- The body of the JOB_STATUS entry. -/
def State.jobStatus (s : State) (r : StepRec) (j : Nat) (img : JobImage) : List Byte :=
  let x := State.jobStep r j
  let cut := s.jobCut j r.k
  let leaves := s.yardLeaves s.dict (s.jobYard j)
  let short := img.outputs.any (fun o => outScope o == 0 && outEntries o < leaves.length)
  let flags := s.headerFlags r j + 8 * boolNat (0 < x.shed) + 16 * boolNat x.restarted + 32 * boolNat short
  let flagged := sumNat ((cut.filter isLocal).map (fun i => sumNat (img.groups.map (fun g =>
    (s.leafFlagged j (grpFirst g + grpCount g - 1) r.k i).length))))
  leBytes 8 r.k ++ leBytes 1 j ++ leBytes 1 (s.jobYard j) ++ leBytes 1 flags ++ leBytes 1 (s.rd (Obj.jobState j))
    ++ leBytes 4 (maskOf ((cut.filter isLocal).filter r.missing.contains)) ++ leBytes 8 (s.memberBitmap r j)
    ++ leBytes 4 flagged ++ leBytes 4 0 ++ leBytes 8 (maskOf (s.stripeGates j r.k r.missing))
    ++ leBytes 4 (satTo 32 x.carried) ++ leBytes 4 (satTo 32 x.shed)

/-- Merge every DETECT list of job j that is due. -/
def mergeAll (j : Nat) (s : State) : State :=
  match (s.slot j).image with
  | none => s
  | some img => (List.range img.layers.length).foldl (fun s n =>
      if lyType (img.layer n) = tyDetect then mergeLists j n s else s) s

/-- The yard of job j writes step k (R195, R200). -/
def yardWrite (r : StepRec) (j : Nat) (s : State) : State :=
  match (s.slot j).image with
  | none => s
  | some img =>
    let s := mergeAll j s
    let y := s.jobYard j
    let (outs, s) := allOutputs r j img s
    let part := s.partialStep r j
    let head := stepHeader r.k (s.headerFlags r j) 0 j (outs.length + 1) (s.memberBitmap r j) (s.jobUncovered r j) (s.rd Obj.nodeNumber) y
    let s := s |> inc 64 (Obj.yardSteps y) |> wr (Obj.yardLastStep y) r.k
    let s := if part then inc 64 (Obj.yardPartialSteps y) s else s
    (writeSet (s.rd (Obj.yardTrough y)) 1 ((1, head) :: (0x11, s.jobStatus r j img) :: outs) s).2

/-- The yards of every job that runs in step k write their entries as the step leaves COMPUTING. -/
def yardStepWrite (k : Nat) (s : State) : State :=
  match s.step? k with
  | none => s
  | some r =>
    if r.written then s
    else (s.jobsOf k).foldl (fun s j => yardWrite r j s) s |> updStep k (fun r => { r with written := true })

/-! ### Delivery (R21, R434) -/

/-- The records and lists of a job's step, sent to the lead of its yard. -/
def sendDelivery (r : StepRec) (j lead : Nat) (img : JobImage) (s : State) : State :=
  let y := s.jobYard j
  let own := (s.jobCut j r.k).filter isLocal
  let member := s.leadRecord lead y
  let s := mergeAll j s
  let dets := (List.range img.layers.length).filter (fun n => lyType (img.layer n) == tyDetect)
  let sections := dets.flatMap (fun n =>
    let bs := (s.listOf j n r.k).getD []
    leBytes 2 n ++ leBytes 2 bs.length ++ bs.flatMap boxBytes)
  let cover := maskOf ((s.jobGates j).filter (fun g => !bit (s.jobUncovered r j) g))
  let body := leBytes 8 cover ++ leBytes 4 (maskOf (own.filter r.missing.contains)) ++ leBytes 2 dets.length ++ leBytes 2 0 ++ sections
  let per := cfgN r.cfg Obj.netFrameBytes - 32
  let s := (img.outputs.filter (fun o => outType o != 6)).foldl (fun s o =>
    (own.filter (fun i => !r.missing.contains i)).foldl (fun s i =>
      let n := outLayer o
      let cap := spCapacity (img.layer n)
      let all := (s.leafRecords img (outType o) n r.k i).2
      let room := (per - 12) / 8
      let parts := match chunksOf room (all.take cap).length (all.take cap) with | [] => [[]] | ps => ps
      sendSet 4 lead member y r.k (parts.map (fun p =>
        leBytes 2 n ++ leBytes 1 i ++ leBytes 1 0 ++ leBytes 4 p.length ++ leBytes 4 (all.length - cap) ++ recordBytes p)) s) s) s
  s |> sendSet 3 lead member y r.k (chunksOf per body.length body)
    |> updJobStep r.k j (fun x => { x with sent := true })
    |> (fun s => { s with net := { s.net with sentDelivery := max s.net.sentDelivery r.k } })

/-- A serving device delivers step k of job j once every own leaf has delivered it or is missing; a device that has ended
its serving (R438) delivers nothing. -/
def serveStep (k j : Nat) (s : State) : State :=
  let y := s.jobYard j
  let lead := s.rd (Obj.yardLead y)
  match s.step? k, (s.slot j).image with
  | some r, some img =>
    if s.ledElsewhere y && (s.yard y).servesStep k && !(State.jobStep r j).sent && ((s.jobCut j k).filter isLocal).all (fun l => !r.awaits l) then
      sendDelivery r j lead img s
    else s
  | _, _ => s
def serveSteps (k : Nat) (s : State) : State := (s.jobsOf k).foldl (fun s j => serveStep k j s) s
/-- The same for every alive step, after leaves have dropped out. -/
def serveAlive (s : State) : State := s.steps.foldl (fun s r => serveSteps r.k s) s

/-- Fail a local stall in the yard of the running job that it serves, if any (R193); a step that waited for it alone is
delivered at once (R194). -/
def failStall (i : Nat) (s : State) : State :=
  match s.leafJob i with
  | none => s
  | some j => s |> failLeaves j [i] s.nowUs [] |> serveAlive

/-- A leaf has made its step: its run of misses ends (R193). -/
def clearMiss (j leaf : Nat) (s : State) : State :=
  updYard (s.jobYard j) (fun yd => { yd with misses := serase leaf yd.misses }) s

/-- The newer of two steps; a number beyond the open step is one of an earlier schedule. -/
def newestStep (old k : Nat) (s : State) : Nat := if k < old && old ≤ s.openStep then old else k

/-- STALL_DELIVER. -/
def stallDeliver (i k : Nat) (s : State) : State :=
  match s.leafOf i, s.step? k with
  | some f, some r =>
    if r.awaits i && s.inRun f.j k && (s.cutOf f k).contains i && s.leafFinished f k then
      s |> updStep k (fun r => { r with delivered := r.delivered ++ [i] }) |> wr (Obj.stallStepDone i) (newestStep (s.rd (Obj.stallStepDone i)) k s) |> clearMiss f.j i
        |> serveStep k f.j
    else s
  | _, _ => s

/-! ### What a step leaves behind -/

/-- Whether a leaf may forget what its layer n held for step k: step `gone` is DONE, the leaf has finished k, and a
gathered map is kept for two steps (R260). -/
def Stall.forgets (st : Stall) (img : JobImage) (gone n k : Nat) : Bool :=
  let all := (List.range img.layers.length).all (fun m => st.finished m k)
  all && (if bit (lyFlags (img.layer n)) 1 && isDense (img.layer n) then k + 2 ≤ gone else k ≤ gone)

def forgetLeaf (img : JobImage) (gone i : Nat) (s : State) : State :=
  updStall i (fun st => { st with
    maps := st.maps.filter (fun m => !st.forgets img gone m.layer m.step),
    placed := st.placed.filter (fun m => !st.forgets img gone m.layer m.step),
    spikes := st.spikes.filter (fun p => !st.forgets img gone p.layer p.step),
    boxes := st.boxes.filter (fun b => !st.forgets img gone b.1 b.2.1),
    halosIn := st.halosIn.filter (fun h => !st.forgets img gone h.1 h.2.1),
    truncated := st.truncated.filter (fun h => !st.forgets img gone h.1 h.2),
    records := st.records.filter (fun h => !st.forgets img gone (h.1 % 65536) h.2.1),
    flagged := st.flagged.filter (fun h => !st.forgets img gone h.1 h.2.1) }) s

/-- Step k of every job is DONE: what its leaves, its lists and its frames held is forgotten. -/
def forgetStep (k : Nat) (s : State) : State :=
  let s := s.runningSlots.foldl (fun s j =>
    match (s.slot j).image with
    | none => s
    | some img => ((s.yard (s.jobYard j)).cut.filter isLocal).foldl (fun s i => forgetLeaf img k i s) s) s
  { s with lists := s.lists.filter (fun x => k < x.2.2.1 + 2),
           net := { s.net with boxesGot := s.net.boxesGot.filter (fun b => k < b.2.2.1),
                               sets := s.net.sets.filter (fun x => k < x.step + 16),
                               halves := s.net.halves.filter (fun x => k < x.1.2.2.2),
                               recordsGot := s.net.recordsGot.filter (fun b => k < b.step),
                               peers := s.net.peers.map (fun p => (p.1, { p.2 with covered := p.2.covered.filter (fun c => k < c.2.1) })) } }

end Sys2Proof.Machine
end

