-- ==== Sys2Proof/Machine/FusionOps.lean ====
section
/-!
DEFINITION. The fusion of a step: the track filter and the states of a track (R318 to R321), zones (R322 to R324), demands
(R326, R329), the entries of a fused step (R331 to R334), and what makes a step DONE (R22, R185, R537). FUSION_START
computes the whole fusion; FUSION_COMPLETE publishes it.
-/
namespace Sys2Proof.Machine

def updPaddock (f : Paddock → Paddock) (s : State) : State := { s with paddock := f s.paddock }
def updHold (f : HoldD0 → HoldD0) (s : State) : State := { s with hold := f s.hold }

/-! ### The track filter (R318) -/

def predictAxis (p : Nat) (x v : Int) : Int := x + v * ((p * 256 : Nat) : Int) / 1000000
/-- A track at the start of a fusion: predicted, with nothing said about this step yet. -/
def predictTrack (p : Nat) (t : Track) : Track :=
  { t with predX := predictAxis p t.x t.vx, predY := predictAxis p t.y t.vy, flags := 0, cost := 0xFFFF, zones := 0 }

/-- Position and velocity of an axis after a detection at z mm. -/
def filterAxis (p α β : Nat) (z xp v : Int) : Int × Int :=
  let r := z * 256 - xp
  (xp + asr ((α : Int) * r) 16, clampInt (-32767) 32767 (v + (β : Int) * r * 1000000 / ((p * 2 ^ 24 : Nat) : Int)))

/-! ### States of a track (R319) -/

abbrev tfHit : Nat := 0
abbrev tfUncovered : Nat := 1
abbrev tfMerged : Nat := 2
abbrev tfUnsolved : Nat := 3
abbrev tfBorn : Nat := 4
abbrev tfRowFlagged : Nat := 5

/-- What a detection leaves in the record of a track that takes it. -/
def lastSeen (d : Detection) (t : Track) : Track :=
  { t with score := d.score, entryA := d.entryA, entryB := d.entryB,
           flags := t.flags + 4 * boolNat (bit d.flags dfMerged) + 32 * boolNat (bit d.flags dfFlagged) }

/-- A hit. -/
def hitTrack (cfg : Store) (p : Nat) (blind : Bool) (d : Detection) (t : Track) : Track :=
  let α := cfgE cfg Obj.classAlpha t.cls
  let β := cfgE cfg Obj.classBeta t.cls
  let fx := filterAxis p α β d.x t.predX t.vx
  let fy := filterAxis p α β d.y t.predY t.vy
  let hits := if t.status = 1 then min 3 (t.hits + 1) else t.hits
  lastSeen d { t with x := fx.1, vx := fx.2, y := fy.1, vy := fy.2, hits := hits, misses := 0, cost := d.cost,
                      status := if t.status = 1 ∧ 3 ≤ hits then 2 else t.status, flags := 1 + 2 * boolNat blind }

/-- A step without a hit: `blind` where the predicted position is uncovered, `idle` where its tile went unsolved. -/
def coastTrack (cfg : Store) (blind idle : Bool) (t : Track) : Track :=
  let t := { t with x := t.predX, y := t.predY, flags := 2 * boolNat blind + 8 * boolNat idle }
  if blind || idle then t
  else
    let m := min 255 (t.misses + 1)
    let limit := if t.status = 1 then 2 else cfgE cfg Obj.classDeathMisses t.cls
    { t with misses := m, status := if limit ≤ m then 0 else t.status }

/-- A birth. -/
def bornTrack (id : Nat) (d : Detection) : Track :=
  lastSeen d { Track.reset with
    id := id, cls := d.cls, status := 1, hits := 1, x := d.x * 256, y := d.y * 256,
    predX := d.x * 256, predY := d.y * 256, flags := 2 ^ tfBorn }

/-- The lowest record that is not in use. -/
def freeRecord (used : List Nat) : Option Nat := (List.range 4096).find? (fun i => !used.contains i)

/-- What the births of a fusion leave: records, detections in reverse, births. A record freed in this fusion is still in
use (R320). -/
structure Births where
  tracks : Sparse Track
  used : List Nat
  dets : List Detection
  born : Nat
  deriving DecidableEq, Repr

/-- Births in list order (R320). -/
def birthsOf : List Detection → Births → State → Births × State
  | [], b, s => ({ b with dets := b.dets.reverse }, s)
  | d :: t, b, s =>
    if d.cost ≠ 0xFFFF ∨ bit d.flags dfUnsolved then birthsOf t { b with dets := d :: b.dets } s
    else
      match freeRecord b.used with
      | none =>
        let s := s |> inc 32 Obj.paddockBirthsRefused |> detect padBlock Src.padTracksFull
        birthsOf t { b with dets := { d with flags := setBit d.flags dfRefused } :: b.dets } s
      | some i =>
        let id := s.rd Obj.paddockNextId
        let s := wr Obj.paddockNextId (if id = 2 ^ 32 - 1 then 1 else id + 1) s
        let d := { d with flags := setBit d.flags dfBirth, track := id }
        birthsOf t ⟨sput i (bornTrack id d) b.tracks, i :: b.used, d :: b.dets, b.born + 1⟩ s

/-! ### Zones (R322 to R324) -/

structure Zone where
  pts : List (Int × Int)    -- vertices, mm; empty where the zone is off
  classes : Nat
  watch : List Nat
  deriving DecidableEq, Repr

def State.zoneOf (s : State) (cfg : Store) (z : Nat) : Zone :=
  let n := s.pairIn cfg 16 (Obj.zoneCount z) 0
  let v := fun addr i => toSigned 32 (s.pairIn cfg 32 addr i)
  ⟨(List.range n).map (fun i => (v (Obj.zoneX z) i, v (Obj.zoneY z) i)), s.pairIn cfg 16 (Obj.zoneClasses z) 0,
    (List.range 8).map (s.pairIn cfg 16 (Obj.zoneWatch z))⟩

/-- The edges of a polygon, closed from the last vertex to the first. -/
def edgesOf (pts : List (Int × Int)) : List ((Int × Int) × (Int × Int)) := pts.zip (pts.drop 1 ++ pts.take 1)

/-- Whether a point lies on the edge from a to b. -/
def onEdge (x y : Int) (e : (Int × Int) × (Int × Int)) : Bool :=
  (x - e.1.1) * (e.2.2 - e.1.2) == (e.2.1 - e.1.1) * (y - e.1.2)
    && min e.1.1 e.2.1 ≤ x && x ≤ max e.1.1 e.2.1 && min e.1.2 e.2.2 ≤ y && y ≤ max e.1.2 e.2.2
/-- Whether the ray from a point toward +x crosses the edge. -/
def crosses (x y : Int) (e : (Int × Int) × (Int × Int)) : Bool :=
  let l := (x - e.1.1) * (e.2.2 - e.1.2)
  let r := (e.2.1 - e.1.1) * (y - e.1.2)
  (decide (e.1.2 > y) != decide (e.2.2 > y)) && (if e.2.2 < e.1.2 then decide (r < l) else decide (l < r))
/-- Whether a point lies in a polygon (R323). -/
def inPolygon (pts : List (Int × Int)) (x y : Int) : Bool :=
  let es := edgesOf pts
  es.any (onEdge x y) || (es.filter (crosses x y)).length % 2 == 1

/-- Whether a position in 1/256 mm lies in the zone. -/
def Zone.holds (z : Zone) (x y : Int) : Bool := inPolygon (z.pts.map (fun p => (p.1 * 256, p.2 * 256))) x y
def Zone.off (z : Zone) : Bool := z.pts.isEmpty
/-- Whether a track qualifies under ZONE.CLASSES and lies in the zone. -/
def Zone.takesTrack (z : Zone) (t : Track) : Bool :=
  bit z.classes t.cls && (t.status == 2 || (t.status == 1 && bit z.classes 8)) && z.holds t.x t.y
/-- Whether a detection occupies the zone directly. -/
def Zone.takesDet (z : Zone) (d : Detection) : Bool :=
  bit z.classes 9 && bit z.classes d.cls && (d.cost == 0xFFFF || bit d.flags dfUnsolved) && z.holds (d.x * 256) (d.y * 256)
/-- Tracks and detections inside. -/
def Zone.count (z : Zone) (ts : Sparse Track) (ds : List Detection) : Nat :=
  if z.off then 0 else (ts.filter (fun t => z.takesTrack t.2)).length + (ds.filter z.takesDet).length
/-- UNKNOWN: an entry that the zone watches is uncovered. -/
def Zone.unknown (z : Zone) (covered : List Nat) : Bool :=
  !z.off && z.watch.any (fun w => w < 256 && !covered.contains w)

/-! ### Demands (R326, R329) -/

/-- The zone mask of pair n. -/
def State.holdZones (s : State) (cfg : Store) (n : Nat) : Nat :=
  s.pairIn cfg 32 (Obj.holdZonesLo n) 0 + 2 ^ 32 * s.pairIn cfg 32 (Obj.holdZonesHi n) 0

def State.demandOf (s : State) (cfg : Store) (occ unk n : Nat) : Bool :=
  let m := s.holdZones cfg n
  (m &&& occ) != 0 || (s.pairIn cfg 16 (Obj.holdUnknown n) 0 == 1 && (m &&& unk) != 0)

/-- The demand word of a fused step with its complements. -/
def State.demandWord (s : State) (cfg : Store) (k occ unk : Nat) : DemandWord :=
  let d := maskOf ((List.range 16).filter (s.demandOf cfg occ unk))
  let r := boolNat s.paddock.rearm
  ⟨d, 0xFFFF - d, k % 256, r, 1 - r, maskOf ((List.range 16).filter (fun n => s.holdZones cfg n == 0)),
    (List.range 16).map (fun n => s.pairIn cfg 16 (Obj.holdClearSteps n) 0)⟩

/-- The width of a PAIR object. -/
def pairWidth (addr : Nat) : Option Nat :=
  match findObj addr with
  | .found r => if r.ty.isPair then some r.ty.width else none
  | _ => none

/-- Check the PAIR values of zones and HOLD rules that a fusion uses (R78, R329). -/
def checkRules (cfg : Store) (s : State) : State :=
  let bad := cfg.filter (fun p => isHoldPair (p.1 / 2 ^ 24) && (match pairWidth (p.1 / 2 ^ 24) with
    | some w => !pairOk w p.2.toNat
    | none => false))
  bad.foldl (fun s _ => detect dictBlock Src.dictPairStoreHold s) s

/-! ### The fusion -/

/-- Detections with the outcome of the assignment: cost of their pair, the track's identifier, UNSOLVED. -/
def markDets (a : Assignment) (ts : List (Nat × Track)) (dets : List Detection) : List Detection :=
  ((List.range dets.length).zip dets).map (fun p =>
    match a.pairs.find? (fun q => q.2 == p.1) with
    | some q =>
      match ts.find? (fun t => t.1 == q.1) with
      | some t => { p.2 with track := t.2.id, cost := min (distMm t.2.predX t.2.predY p.2) 0xFFFE }
      | none => p.2
    | none => if a.idleDets.contains p.1 then { p.2 with flags := setBit p.2.flags dfUnsolved } else p.2)

/-- One track after the assignment. -/
def stepTrack (cfg : Store) (p : Nat) (c : Cover) (a : Assignment) (dets : List Detection) (t : Nat × Track) : Nat × Track :=
  let blind := c.uncovered 256 t.2.predX t.2.predY
  match (a.pairs.find? (fun q => q.1 == t.1)).bind (fun q => dets[q.2]?) with
  | some d => (t.1, hitTrack cfg p blind d t.2)
  | none => (t.1, coastTrack cfg blind (a.idleTracks.contains t.1) t.2)

/-- Co-observations of a step: merged detections that confirmed tracks took, of overlaps between local gates (R309). -/
def coObsOf (x : Floor) (second : Nat) (a : Assignment) (ts : List (Nat × Track)) (dets : List Detection) : List CoObs :=
  (((List.range dets.length).zip dets).filterMap (fun p =>
    let sure := a.pairs.any (fun q => q.2 == p.1 && ts.any (fun t => t.1 == q.1 && t.2.status == 2))
    let d := p.2
    if sure && bit d.flags dfMerged && x.isLocal d.entryA && x.isLocal d.entryB then
      some ⟨x.entryGate d.entryA, x.entryGate d.entryB, d.rawX, d.rawY, d.bx, d.by', second⟩
    else none)).take 64

/-- Uncovered gates of the paddock's STEP_HEADER: local gates whose entries are uncovered. -/
def localUncovered (x : Floor) (c : Cover) : Nat :=
  maskOf (((List.range 256).filter (fun e => x.isLocal e && x.entryGate e < 36 && !c.entries.contains e)).map x.entryGate)

/-- Zones, demands and the record of the fusion, once tracks and detections are settled. -/
def settleFusion (r : StepRec) (x : Floor) (c : Cover) (a : Assignment) (ts : List (Nat × Track)) (moved : Sparse Track)
    (b : Births) (s : State) : State :=
  let zs := (List.range 64).map (s.zoneOf r.cfg)
  let live := b.tracks.filter (fun t => t.2.status != 0)
  let counts := zs.map (fun z => z.count live b.dets)
  let occ := maskOf ((List.range 64).filter (fun z => counts.getD z 0 != 0))
  let unk := maskOf ((List.range 64).filter (fun z => ((zs[z]?).map (fun q => q.unknown c.entries)).getD false))
  let inZones := fun (t : Track) => maskOf ((List.range 64).filter (fun z => ((zs[z]?).map (fun q => !q.off && q.takesTrack t)).getD false))
  let tracks := b.tracks.map (fun t => (t.1, if t.2.status = 0 then t.2 else { t.2 with zones := inZones t.2 }))
  let word := s.demandWord r.cfg r.k occ unk
  let f : Fusion := ⟨r.k, s.now, b.dets, ts, tracks, occ, unk, word.demand, b.born,
    (moved.filter (fun t => t.2.status == 0)).length, a.cycles, a.capped, false, localUncovered x c, x.job.isNone, counts,
    cfgN r.cfg Obj.paddockReport, cfgN r.cfg Obj.paddockTrough, word, coObsOf x (s.nowUs / 1000000) a ts b.dets⟩
  s |> updPaddock (fun p => { p with fusion := some f, rearm := false }) |> updHold (fun h => { h with link := some word })

/-- The fusion of a step whose yards have written their entries. -/
def fuse (r : StepRec) (s : State) : State :=
  let s := checkRules r.cfg s
  let x := s.floorOf r
  let boxes := s.stepBoxes x
  let s := addE 64 Obj.paddockDetections 0 boxes.length s
  let (dets, s) := takeBoxes x boxes s
  let c := s.cover x
  let (dets, s) := mergeOverlaps x c dets s
  let ts := s.paddock.tracks.map (fun t => (t.1, predictTrack s.periodUs t.2))
  let a := assign r.cfg ts dets
  let s := s |> addE 64 Obj.paddockPairsExamined 0 a.examined |> addE 32 Obj.paddockTileSplits 0 a.splits
  let dets := markDets a ts dets
  let moved := ts.map (stepTrack r.cfg s.periodUs c a dets)
  let (b, s) := birthsOf dets ⟨moved, moved.map (·.1), [], 0⟩ s
  settleFusion r x c a ts moved b s

/-- Whether the paddock may start on step k: it is the oldest step that is not DONE, it has left nothing behind it, and it
opened with PADDOCK.RUN at 1 (R22, R297). -/
def State.fusable (s : State) (k : Nat) : Option StepRec :=
  match s.steps with
  | r :: _ =>
    if r.k == k && r.phase == .computing && cfgN r.cfg Obj.paddockRun == 1 && s.allIn r && s.isOn 11 && !s.paddock.resetting
      && s.paddock.fusion.isNone then some r else none
  | [] => none

/-- FUSION_START. -/
def fusionStart (k : Nat) (s : State) : State :=
  match s.fusable k with
  | none => s
  | some r =>
    match s.dueAt (s.boundary (k + 2)) with
    | none => s
    | some s => s |> yardStepWrite k |> fuse r |> updStep k (fun r => { r with phase := .fusing })

/-- SOLVE_CAPPED: the budget of the fusion in progress has run out (R317). -/
def solveCapped (s : State) : State :=
  match s.paddock.fusion with
  | some f =>
    if f.capped && !f.cappedTold then
      s |> updPaddock (fun p => { p with fusion := some { f with cappedTold := true } }) |> inc 32 Obj.paddockSolveCapped
        |> detect padBlock Src.padSolveCapped
    else s
  | none => s

/-! ### D0's side (R326 to R330) -/

/-- One pair after a result that D0 accepts, while nothing forces it (the state machine of R328). -/
def movePair (w : DemandWord) (n : Nat) (s : State) : State :=
  if bit w.zoneless n then holdPair n 6 s
  else if bit w.demand n then holdPair n 1 s
  else if s.rd (Obj.holdState n) = 1 then s
  else
    let c := s.hold.clear.getD n 0 + 1
    let s := updHold (fun h => { h with clear := setAt h.clear n c }) s
    if w.clearSteps.getD n 0 ≤ c then s |> wr (Obj.holdState n) 1 |> wr (Obj.holdCause n) 0 |> inc 32 (Obj.holdChanges n)
    else wr (Obj.holdCause n) 2 s

/-- HOLD_RESULT_RECEIVE: the word on the link as it arrives in D0; the operands are the bits in error on the way. -/
def holdResult (dErr cErr sErr rErr : Nat) (s : State) : State :=
  match s.hold.link with
  | none => s
  | some w =>
    let w := { w with demand := (w.demand ^^^ dErr) % 2 ^ 16, complement := (w.complement ^^^ cErr) % 2 ^ 16,
                      step8 := (w.step8 ^^^ sErr) % 2 ^ 8, rearm := (w.rearm ^^^ rErr) % 2, rearmN := (w.rearmN ^^^ rErr / 2) % 2 }
    let stepBad := w.rearm == 0 && (match s.hold.ref with | some r => w.step8 != (r + 1) % 256 | none => false)
    let bad := w.demand + w.complement != 0xFFFF || w.rearm == w.rearmN || stepBad
    let s := s |> detectIf bad padBlock Src.padPairPath
      |> updHold (fun h => { h with link := none, ref := some w.step8, lastAt := s.now, tripped := false, everFused := true })
    let s := checkPair 16 Obj.paddockWatchdog 0 s
    if s.holdForced then forceHold 5 s else (List.range 16).foldl (fun s n => movePair w n s) s

/-- HOLD_WATCHDOG_TRIP: no result within PADDOCK.WATCHDOG × P after the previous one (R328). -/
def holdWatchdog (s : State) : State :=
  if s.hold.tripped || !s.hold.everFused then s
  else
    match s.dueAt (s.hold.lastAt + s.pair 16 Obj.paddockWatchdog 0 * s.periodUs * 1000 * nsUnit) with
    | none => s
    | some s =>
      let s := s |> updHold (fun h => { h with tripped := true }) |> inc 32 Obj.paddockWatchdogTrips
        |> detect padBlock Src.padWatchdog
      forceHold (if s.holdForced then 5 else 4) s

/-- HOLD_READBACK_MISMATCH: a pin of the pair has lain outside the level that `State.holdLevels` drives on it for `outNs`,
which D0 takes as a mismatch once it exceeds 5 µs (R527). -/
def holdReadback (pair outNs : Nat) (s : State) : State :=
  detectIf (decide (pair < 16) && decide (5000 < outNs)) padBlock Src.padPinReadback s

/-- Whether some rule of R327 forces the pairs: a GRAVE source, a watchdog trip not followed by a result, or no fused step
since the reset. -/
def State.forcing (s : State) : Bool := s.holdForced || s.hold.tripped || !s.hold.everFused

/-! ### Entries of a fused step (R332 to R334) -/

/-- Bytes 0 to 47 of a track record (R321). -/
def trackBytes (t : Track) : List Byte :=
  leBytes 4 t.id ++ leBytes 1 t.cls ++ leBytes 1 t.status ++ leBytes 1 t.hits ++ leBytes 1 t.misses
    ++ leBytes 4 (ofSigned 32 (asr t.x 8)) ++ leBytes 4 (ofSigned 32 (asr t.y 8)) ++ leBytes 2 (ofSigned 16 t.vx)
    ++ leBytes 2 (ofSigned 16 t.vy) ++ leBytes 1 (t.x % 256).toNat ++ leBytes 1 (t.y % 256).toNat ++ leBytes 1 t.flags
    ++ leBytes 1 (ofSigned 8 t.score) ++ leBytes 1 t.entryA ++ leBytes 1 t.entryB ++ leBytes 2 t.cost ++ leBytes 4 0
    ++ leBytes 8 t.zones ++ leBytes 4 (ofSigned 32 (asr t.predX 8)) ++ leBytes 4 (ofSigned 32 (asr t.predY 8))
/-- PADDOCK.TRACK_TABLE: the 4,096 records; a FREE record reads as zeros. -/
def State.trackTable (s : State) : List Byte :=
  (List.range 4096).flatMap (fun i => match sfind s.paddock.tracks i with
    | some t => padTo 64 (trackBytes t)
    | none => List.replicate 64 0)

def detectionBytes (d : Detection) : List Byte :=
  leBytes 4 (ofSigned 32 d.x) ++ leBytes 4 (ofSigned 32 d.y) ++ leBytes 4 (ofSigned 32 d.footX) ++ leBytes 4 (ofSigned 32 d.footY)
    ++ leBytes 4 d.track ++ leBytes 1 d.cls ++ leBytes 1 (ofSigned 8 d.score) ++ leBytes 1 d.entryA ++ leBytes 1 d.entryB
    ++ leBytes 1 d.flags ++ leBytes 1 d.channel ++ leBytes 2 d.cost

/-- The records that a fused step reports: in use at its start or its end; tentative ones only under bit 3. -/
def Fusion.reported (f : Fusion) : List Track :=
  (f.tracks.filter (fun t =>
    bit f.report 3 || !(t.2.status == 1 || (t.2.status == 0 && f.before.any (fun b => b.1 == t.1 && b.2.status == 1))))).map (·.2)

def Fusion.confirmed (f : Fusion) : Nat := (f.tracks.filter (fun t => t.2.status == 2)).length
def Fusion.tentative (f : Fusion) : Nat := (f.tracks.filter (fun t => t.2.status == 1)).length

/-- The ZONE_STATE body; `forced` as in HOLD_FORCED. -/
def zoneBytes (f : Fusion) (forced : Bool) (s : State) : List Byte :=
  let p := s.paddock
  leBytes 8 f.occupied ++ leBytes 8 f.unknown ++ leBytes 8 ((f.occupied ^^^ p.prevOccupied) ||| (f.unknown ^^^ p.prevUnknown))
    ++ leBytes 2 (maskOf ((List.range 16).filter (fun n => s.rd (Obj.holdState n) == 1))) ++ leBytes 2 f.demand
    ++ leBytes 2 (if forced then 0xFFFF else 0) ++ leBytes 2 f.confirmed ++ leBytes 2 f.tentative ++ leBytes 2 f.detections.length
    ++ leBytes 2 f.births ++ leBytes 2 f.deaths ++ leBytes 4 f.solveCycles

/-- The entries that follow the STEP_HEADER. -/
def fusedEntries (f : Fusion) (forced : Bool) (s : State) : List (Nat × List Byte) :=
  (if bit f.report 0 then f.detections.map (fun d => (3, detectionBytes d)) else [])
    ++ (if bit f.report 1 then f.reported.map (fun t => (2, trackBytes t)) else [])
    ++ (if bit f.report 2 then [(4, zoneBytes f forced s)] else [])

/-- Write the set of a fused step, whole or not at all (R332). -/
def writeFused (r : StepRec) (f : Fusion) (late : Bool) (s : State) : State :=
  if f.trough = 0xFFFF then s
  else
    let job := s.fusedJob r
    let own := (job.map (s.headerFlags r)).getD 0
    let flags := own + 8 * boolNat late + 16 * boolNat f.capped + 32 * boolNat r.forced + 64 * boolNat f.noJob
      + 128 * boolNat s.paddock.setsLost
    let es := fusedEntries f r.forced s
    let head := stepHeader r.k flags 1 (job.getD 0xFF) es.length ((job.map (s.memberBitmap r)).getD 0) f.uncovered
      (s.rd Obj.nodeNumber) ((job.map s.jobYard).getD 0 % 256)
    let (ok, s) := writeSet f.trough 2 ((1, head) :: es) s
    if ok then updPaddock (fun p => { p with setsLost := false }) s
    else s |> updPaddock (fun p => { p with setsLost := true }) |> inc 32 Obj.paddockStepsDropped |> detect padBlock Src.padStepsDropped

/-- The nodes of NET.TRACK_DEST. -/
def trackDests (cfg : Store) : List Nat := dedup (((List.range 8).map (cfgE cfg Obj.netTrackDest)).filter (· < 4096))

/-- Send the TRACK records of a fused step (R440), under the settings of the step (R26). -/
def sendTracks (r : StepRec) (f : Fusion) (s : State) : State :=
  if bit f.report 1 then
    let ts := f.reported
    let per := (cfgN r.cfg Obj.netFrameBytes - 36) / 48
    let parts := (match chunksOf per ts.length ts with | [] => [[]] | l => l).map (fun (p : List Track) =>
      leBytes 2 p.length ++ leBytes 2 0 ++ p.flatMap trackBytes)
    (trackDests r.cfg).foldl (fun s n => sendSet 5 n (((s.fusedJob r).map s.jobYard).getD 0 % 256) 0 r.k parts s) s
  else s

/-- Samples of the track sources of sieve chains (R147, R148). -/
def trackSamples (f : Fusion) (s : State) : State :=
  let t : Int := 2 * (s.boundaryUs f.k : Int) + (s.periodUs : Int)
  (List.range 16).foldl (fun s c =>
    let src := s.chainN c (Obj.chainSource c)
    if s.chainTakes c t && src != 0 then
      let v := (f.tracks.find? (fun q => q.2.status != 0 && q.2.id == s.chainN c (Obj.chainSourceTrack c))).map (fun q =>
        if src = 1 then asr q.2.x 8 else if src = 2 then asr q.2.y 8 else if src = 3 then q.2.vx else q.2.vy)
      updChain c (fun ch => { ch with inbox := ch.inbox ++ [(t, v)] }) s
    else s) s

/-- Step k becomes DONE: it leaves the list, and jobs whose last step it was end (R185, R537). -/
def stepDone (k : Nat) (s : State) : State :=
  forgetStep k (endJobs { s with steps := s.steps.filter (fun r => !(r.k == k)) })

/-- What a finished fusion leaves in the objects of the paddock. -/
def publishFusion (f : Fusion) (s : State) : State :=
  let s := (List.range 64).foldl (fun s z =>
    s |> wr (Obj.zoneState z) (boolNat (bit f.occupied z) + 2 * boolNat (bit f.unknown z))
      |> wr (Obj.zoneOccupants z) (satTo 16 (f.occupants.getD z 0))) s
  s |> wr Obj.paddockConfirmed f.confirmed |> wr Obj.paddockTentative f.tentative
    |> updPaddock (fun p => { p with tracks := f.tracks.filter (fun t => t.2.status != 0), fusion := none,
                                     prevOccupied := f.occupied, prevUnknown := f.unknown })

/-- FUSION_COMPLETE. The demand word reaches D0 before the entries are written (R331); a word that is still on the link
arrives here, unharmed. -/
def fusionComplete (s : State) : State :=
  match s.paddock.fusion with
  | none => s
  | some f =>
    let s := s |> solveCapped |> holdResult 0 0 0 0
    match s.step? f.k with
    | none => updPaddock (fun p => { p with fusion := none }) s
    | some r =>
      let late := decide (f.since + 300000 * nsUnit < s.now)
      let s := if late then s |> inc 32 Obj.paddockOverruns |> detect padBlock Src.padOverrun else s
      let s := s |> writeFused r f late |> publishFusion f |> sendTracks r f |> wr Obj.stepFused f.k |> trackSamples f
      f.coObs.foldl (fun s o => takeCoObs o s) s |> stepDone f.k

/-- STEP_DONE_UNFUSED: the oldest step, opened with PADDOCK.RUN at 0, reaches DONE at the instant of R22 (R537). -/
def stepDoneUnfused (k : Nat) (s : State) : State :=
  match s.steps with
  | r :: _ =>
    if r.k == k && r.phase == .computing && cfgN r.cfg Obj.paddockRun != 1 && s.allIn r then
      match s.dueAt (s.boundary (k + 2)) with
      | none => s
      | some s => s |> yardStepWrite k |> stepDone k
    else s
  | [] => s

/-! ### Reset (R335) -/

/-- BLOCK_RESET of the paddock begins: records and the fusion in progress are lost, the counters and status return to
their defaults (R44), and the step being fused is taken up again. -/
def resetPaddock (s : State) : State :=
  let keep := [Obj.paddockNextId, Obj.paddockWatchdogTrips]
  let own := fun a => !keep.contains a && ((0x400017 ≤ a && a ≤ 0x400025) || (0x4100 ≤ a / 256 && a / 256 < 0x4140 && 6 ≤ a % 256))
  let d := s.dict.filter (fun p => !own (p.1 / 2 ^ 24))
  { s with dict := d, hold := { s.hold with link := none },
           steps := s.steps.map (fun r => if r.phase = .fusing then { r with phase := .computing } else r),
           paddock := { Paddock.reset with resetting := true, setsLost := s.paddock.setsLost, rearm := s.paddock.rearm } }

/-- PADDOCK_RESET_DONE. -/
def paddockResetDone (s : State) : State :=
  if s.paddock.resetting then updPaddock (fun p => { p with resetting := false, rearm := true }) s else s

/-- D11 leaves ON: its state is lost (R456); D0's part stays. -/
def paddockDark (s : State) : State :=
  { s with hold := { s.hold with link := none }, paddock := { Paddock.reset with setsLost := s.paddock.setsLost },
           steps := s.steps.map (fun r => if r.phase = .fusing then { r with phase := .computing } else r) }

end Sys2Proof.Machine
end

