-- ==== Sys2Proof/Machine/MemCtlOps.lean ====
section
/-!
DEFINITION. What the memory controllers and the granary do of themselves: training and zeroing (R363), retraining (R364),
scrubbing (R371), the corrected-codeword limit (R372) and the granary's sweep (R384).
-/
namespace Sys2Proof.Machine

/-- Whether the training of a half can end: the half rises from OFF or is ON, and has not been trained since. -/
def State.trains (s : State) (h : Nat) : Bool :=
  h < 2 && !(s.memctl.trained.getD h false) && (s.domState (12 + h) == 1 || s.domState (12 + h) == 2)

/-- MEM.RATE and MEM.PROTECTED_TOP once both halves have ended their training. -/
def settleTraining (s : State) : State :=
  let m := s.memctl
  if m.trained.all id then
    if m.rates.all (· != 0) then
      s |> wr Obj.memRate (m.rates.foldl min 16)
        |> wr Obj.memProtectedTop (if s.rd Obj.memDevices = 16 then 0x700000000 else 0x380000000)
    else s |> wr Obj.memRate (m.rates.foldl max 0) |> wr Obj.memProtectedTop 0
  else s

/-- GDDR6_TRAINING_DONE: rate 16, 14 or 12 is the rate that passed, 0 says that 12 Gb/s failed too. -/
def trainingDone (h rate devices : Nat) (s : State) : State :=
  if s.trains h && [0, 12, 14, 16].contains rate && (devices == 8 || devices == 16) then
    let s := updMemctl (fun m => { m with trained := setAt m.trained h true, rates := setAt m.rates h rate, fitted := devices }) s
    let s := s |> wr Obj.memDevices devices |> wr Obj.familyGddr6Devices devices
    let s := detectIf (rate == 0) (halfBlock h) Src.memTrainingFail s
    settleTraining s
  else s

/-- GDDR6_ZEROING_DONE: every codeword of the half holds zero data. -/
def zeroingDone (h : Nat) (s : State) : State :=
  let m := s.memctl
  if h < 2 && m.trained.getD h false && !(m.zeroed.getD h false) && m.rates.getD h 0 != 0 then
    let mine := fun a => decide (a < 0x700000000) && channelOf a / 8 == h
    { s with mem := s.mem.filter (fun c => !mine c.1), poison := s.poison.filter (fun p => !mine (p * 64)),
             memctl := { m with zeroed := setAt m.zeroed h true } }
  else s

/-- MEM_RETRAIN: 250 ms have passed, or the temperature has moved by 10 °C. -/
def memRetrain (c : Nat) (ok moved : Bool) (s : State) : State :=
  if c < 16 && s.isOn (12 + c / 8) then
    match if moved then some s else s.dueAt (sget 0 s.memctl.retrainedAt c + 250000000 * nsUnit) with
    | none => s
    | some s =>
      let s := s |> inc 32 Obj.memRetrains |> updMemctl (fun m => { m with retrainedAt := sset 0 c s.now m.retrainedAt })
      detectIf (!ok) (halfBlock (c / 8)) Src.memRetrainFail s
  else s

/-- How a read of a codeword with n erroneous bytes ends (R367). -/
def State.codeword (s : State) (a n : Nat) : ReadCheck :=
  let t := s.rd Obj.memCorrectLimit
  if n = 0 then .ok
  else if n ≤ t then .corrected
  else if n ≤ 8 - t then .uncorrectable
  else if Config.miscorrects a n then .corrected else .uncorrectable

/-- The data that a miscorrected codeword is left with. -/
def miscorrect (a : Nat) (s : State) : State :=
  drawn (putBytes a ((List.range 64).map (fun i => Config.undefinedByte (a + i) s.draws)) s)

/-- The time between two scrub reads, when every codeword is read once in MEM.SCRUB_PERIOD hours (R371). That the reads are spread
evenly is the model's choice (log entry 109). -/
def State.scrubGap (s : State) : Nat := s.rd Obj.memScrubPeriod * hourUnit / (s.rd Obj.memProtectedTop / 64)

/-- The scrubber reads the codeword at MEM.SCRUB_ADDR, of which `n` bytes are erroneous. -/
def scrubStep (n : Nat) (s : State) : State :=
    let top := s.rd Obj.memProtectedTop
    let a := s.rd Obj.memScrubAddr
    let s := updMemctl (fun m => { m with scrubbedAt := s.now }) s
    let s :=
      if s.poison.contains (a / 64) then countUncorrectable a s
      else
        match s.codeword a n with
        | .ok => s
        | .corrected => countCorrected a (if s.rd Obj.memCorrectLimit < n then miscorrect a s else s)
        | .uncorrectable => countUncorrectable a { s with poison := insertBy (fun x y => decide (x ≤ y)) (a / 64) s.poison }
    if top ≤ a + 64 then s |> wr Obj.memScrubAddr 0 |> inc 32 Obj.memScrubPasses else wr Obj.memScrubAddr (a + 64) s

/-- MEM_SCRUB_READ: while both halves are ON, the scrubber reads the next codeword when its time has come. -/
def scrubRead (n : Nat) (s : State) : State :=
  if s.gddrOn && s.rd Obj.memProtectedTop != 0 then
    match s.dueAt (s.memctl.scrubbedAt + s.scrubGap) with
    | none => s
    | some s => scrubStep n s
  else s

/-- SCRUB_WRITEBACK: the oldest queued block is written back; what the code protects does not change. -/
def scrubWriteback (s : State) : State :=
  if s.gddrOn then updMemctl (fun m => { m with wbQueue := m.wbQueue.drop 1 }) s else s

/-- CE_LIMIT_EXCEEDED. -/
def ceLimit (c : Nat) (s : State) : State :=
  let n := ((sget [] s.memctl.ceTimes c).filter (fun t => s.now < t + hourUnit)).length
  detectIf (decide (c < 16) && decide (s.rd Obj.memCeLimit < n)) (halfBlock (c / 8)) Src.memChannelDegraded s

/-- A word of the muck-out area is damaged: the marks concerned read as set, and their stalls fail (MARK_LOST, R193). -/
def damagedMarks (w : Nat) (s : State) : State :=
  if 0x34000 / 8 ≤ w && w < 0x38000 / 8 then
    let m := (Config.granaryMarks w).toNat
    let new := bitsOf 32 (andNot m (s.rd Obj.muckOutOfService))
    let s := s |> wr Obj.muckOutOfService (s.rd Obj.muckOutOfService ||| m) |> detect muckBlock Src.muckMarkLost
    new.foldl (fun s i => failStall i s) s
  else s

/-- GRANARY_SWEEP: `corrected` words were corrected, the words `bad` hold a double-bit error. -/
def granarySweep (corrected : Nat) (bad : List Nat) (s : State) : State :=
  match s.dueAt (s.memctl.sweptAt + 10 ^ 9 * nsUnit) with
  | none => s
  | some s =>
    let bad := (dedup bad).filter (· < 32768)
    let s := updMemctl (fun m => { m with
      sweptAt := s.now, granaryBad := m.granaryBad ++ bad.filter (fun w => !m.granaryBad.contains w) }) s
    let s := s |> addE 32 Obj.granaryCorrected 0 corrected |> addE 32 Obj.granaryUncorrectable 0 bad.length
    let s := detectIf (corrected != 0) granaryBlock Src.granaryGranaryEcc s
    bad.foldl (fun s w => s |> detect granaryBlock Src.granaryGranaryUncorrectable |> damagedMarks w) s

end Sys2Proof.Machine
end

