-- ==== Sys2Proof/Machine/HostOps.lean ====
section
/-!
DEFINITION. The host link: its states and link loss (R386, R396, R399), BAR2 (R391), the status page reads that have a side
effect (R389, R390), and the host's part in the ends of barrow moves (R356, R396).
-/
namespace Sys2Proof.Machine

/-- HOST.LINK_STATE: 0 DOWN, 1 USB4_UP, 2 PCIE_UP, 3 BUS_MASTER. -/
def State.link (s : State) : Nat := s.rd Obj.hostLinkState
/-- Whether the BARs can answer. A host access implies Memory Space Enable, which has no command of its own. -/
def State.barsUp (s : State) : Bool := s.isOn 2 && 2 ≤ s.link

/-- The read-only identity of the PCIe function (R387): vendor, device, revision, class code, subsystem vendor, subsystem. -/
structure PcieIdentity where
  vendor : BitVec 16
  device : BitVec 16
  revision : BitVec 8
  classCode : BitVec 24
  subVendor : BitVec 16
  subsystem : BitVec 16
  deriving DecidableEq, Repr
def pcieIdentity : PcieIdentity := ⟨0x1FD4, 0x0C32, 0xB0, 0x120000, 0x1FD4, 0x0032⟩
/-- Bytes that BAR0 and BAR2 span (R387). -/
abbrev bar0Size : Nat := 0x1000000
abbrev bar2Size : Nat := 0x800000000

/-- Configuration space at its reset values. -/
def resetConfigSpace (s : State) : State := s |> wr Obj.hostMaxPayload 128 |> wr Obj.hostReadRequest 512

/-! ### Link loss (R396) -/

/-- End the barrow access of engine e to the host window, if it makes one. How many bytes it had moved is open. -/
def endHostMove (e : Nat) (s : State) : State :=
  match (s.engine e).running with
  | none => s
  | some c =>
    match (s.chan c).desc with
    | none => s
    | some d =>
      let done := s.rdE Obj.chanDone c
      let moved := done + s.free % (d.len - done + 1)
      if inHostWindow d.src then endDescriptor c d (.readRefused moved) (drawn s)
      else if inHostWindow d.dst then endDescriptor c d (.writeRefused moved) (drawn s)
      else s

/-- The mailbox returns to IDLE, and its bale is discarded. -/
def idleMailbox (s : State) : State :=
  discardBale (ownerCode .mailbox)
    { s with mbx := { s.mbx with state := 0, answer := none }, sdp := { s.sdp with queue := s.sdp.queue.filter (fun r => !r.mailbox) } }

/-- The actions of R396; the window is already absent. -/
def linkLoss (s : State) : State :=
  let s := (List.range 8).foldl (fun s e => endHostMove e s) (idleMailbox { s with host := { s.host with lost := true } })
  (List.range 64).foldl (fun s j =>
    if s.rd (Obj.jobState j) = 1 && inHostWindow (s.slot j).latched.1 then rejectLoad j (reject rjHeader 0) s else s) s

/-- The link leaves BUS_MASTER other than by the host clearing an enable. -/
def leaveMaster (old : Nat) (s : State) : State := detectIf (old == 3) hostBlock Src.hostLinkDown s

/-- Any state but DOWN to DOWN. -/
def dropLink (s : State) : State :=
  let old := s.link
  if old = 0 then s
  else s |> wr Obj.hostLinkState 0 |> wr Obj.hostLinkRate 0 |> inc 32 Obj.hostLinkDowns |> leaveMaster old |> linkLoss

/-! ### Link states -/

def usb4LinkUp (rate : Nat) (s : State) : State :=
  if s.isOn 2 && s.link == 0 && 1 ≤ rate && rate ≤ 3 then s |> wr Obj.hostLinkState 1 |> wr Obj.hostLinkRate rate else s
def pcieTunnelUp (s : State) : State := if s.link = 1 then s |> wr Obj.hostLinkState 2 |> resetConfigSpace else s
def busMasterEnter (s : State) : State :=
  if s.link = 2 then { s with host := { s.host with lost := false } } |> wr Obj.hostLinkState 3 |> inc 32 Obj.hostLinkEpoch else s
/-- BUS_MASTER_EXIT: an enable is cleared, or D3hot is entered, which sets LINK_DOWN. -/
def busMasterExit (d3hot : Bool) (s : State) : State :=
  if s.link = 3 then s |> wr Obj.hostLinkState 2 |> detectIf d3hot hostBlock Src.hostLinkDown else s
/-- A hot reset or a Function Level Reset. -/
def functionReset (s : State) : State :=
  let old := s.link
  if old < 2 then s else s |> wr Obj.hostLinkState 2 |> leaveMaster old |> linkLoss |> resetConfigSpace

/-- BLOCK_RESET of the host link (R399, R44). -/
def resetHost (s : State) : State :=
  let s := dropLink s
  [Obj.hostLinkEpoch, Obj.hostLinkDowns, Obj.hostMaxPayload, Obj.hostReadRequest, Obj.hostBadAccess, Obj.hostBar2Absent,
    Obj.hostReadErrors, Obj.hostPoisonedRx, Obj.hostPoisonedTx].foldl (fun s a => clearObj a 1 s) s

/-! ### BAR2 (R391) -/

/-- The device address behind a BAR2 offset. -/
def bar2Addr (o : Nat) : Option Nat :=
  if o < 0x700000000 then some o
  else if o < 0x702000000 then some (0x1000000000 + (o - 0x700000000))
  else if 0x710000000 ≤ o ∧ o < 0x730000000 ∧ o % 0x1000000 < 0x500000 then some (0x1100000000 + (o - 0x710000000))
  else none

/-- Whether a byte behind BAR2 is present in the sense of R361: a half or a bank that is not ON is present, and its data
poisoned (R374, R378). -/
def State.bar2Present (s : State) (o : Nat) : Bool :=
  match bar2Addr o with
  | none => false
  | some a => match s.region a with
    | .gddr => true
    | .loft _ => true
    | .stall i => s.isOn (stallDomain i)
    | _ => false

def bar2Absent (s : State) : State := s |> inc 32 Obj.hostBar2Absent |> detect hostBlock Src.hostBarAbsent

/-- BAR2_ACCESS of n bytes at offset o. -/
def bar2Access (isWrite : Bool) (o n : Nat) (data : List Byte) (s : State) : State :=
  if !s.barsUp || n = 0 then s
  else if !(s.bar2Present o && s.bar2Present (o + n - 1)) then
    let s := bar2Absent s
    if isWrite then s else emit (.completion false (List.replicate n 0xFF)) s
  else
    let a := (bar2Addr o).getD 0
    if isWrite then memWrite a (padTo n data) s
    else
      match memRead a n s with
      | (some b, s) => emit (.completion false b) s
      | (none, s) =>
        s |> emit (.completion true (s.bytesAt a n)) |> inc 32 Obj.hostPoisonedTx |> detect hostBlock Src.hostPoisonedTx

/-! ### Reads of the status page that have a side effect (R389, R390) -/

/-- TIME_SECONDS_LATCH. -/
def timeSecondsLatch (s : State) : State :=
  if s.barsUp then
    { s with host := { s.host with nsLatch := s.nowNs % 1000000000 } } |> emit (.completion false (leBytes 8 (s.nowNs / 1000000000)))
  else s
/-- STATUS_CLEAR_ON_READ. -/
def statusClear (o : Nat) (s : State) : State :=
  if !s.barsUp then s
  else if o = 0x40 then s |> emit (.completion false (leBytes 4 (s.rd Obj.hostBadAccess))) |> wr Obj.hostBadAccess 0
  else if o = 0x44 then s |> emit (.completion false (leBytes 4 (s.rd Obj.hostBar2Absent))) |> wr Obj.hostBar2Absent 0
  else s

/-! ### Ends of barrow moves -/

/-- DESCRIPTOR_END as the host link sees it: a read of host memory that the link refuses, and poison that arrives. -/
def endMove (e : Nat) (how : MoveEnd) (s : State) : State :=
  let fromHost := match (s.engine e).running.bind (fun c => (s.chan c).desc) with
    | some d => inHostWindow d.src
    | none => false
  let s := match how with
    | .readRefused _ => if fromHost then s |> inc 32 Obj.hostReadErrors |> detect hostBlock Src.hostCompletionError else s
    | .readUncorrectable _ => if fromHost then s |> inc 32 Obj.hostPoisonedRx |> detect hostBlock Src.hostPoisonedRx else s
    | _ => s
  descriptorEnd e how s

end Sys2Proof.Machine
end

