-- ==== Sys2Proof/Machine/TimeOps.lean ====
section
/-!
DEFINITION. The time unit: steps of device time (R402, R404), GSYNC (R418 to R420), TOUT (R421, R422), TCAP (R423) and the
clock monitor (R406). The servo is in Sys2Proof/Machine/PtpOps.lean.
-/
namespace Sys2Proof.Machine

def updTime (f : TimeUnit → TimeUnit) (s : State) : State := { s with time := f s.time }

/-! ### GSYNC -/

/-- One edge of group g for boundary B_k (R419). -/
def gsyncEdge (k g : Nat) (s : State) : State :=
  let c := s.rdE Obj.gsyncEdges g % 256
  let ns := s.boundaryUs k * 1000 % 2 ^ 64
  s |> incE 64 Obj.gsyncEdges g |> wrE Obj.gsyncEdgeTime (g * 256 + c) ns
    |> putBytes (granaryBase + 0x30000 + (g * 256 + c) * 8) (leBytes 8 ns)

/-- The edges of boundary B_k (R17, R418): every enabled group, where k is a multiple of M. -/
def gsyncBoundary (k : Nat) (s : State) : State :=
  if k % max 1 (s.rd Obj.gsyncDivider) ≠ 0 then s
  else
    let gs := bitsOf 6 (s.rd Obj.gsyncEnable)
    if gs.isEmpty then s
    else
      let s := gs.foldl (fun s g => gsyncEdge k g s) s
      updTime (fun t => { t with gsyncActive := maskOf gs, gsyncEnd := s.now + s.rd Obj.gsyncWidthUs * 1000 * nsUnit }) s

/-- The level of GSYNC[g], true for high: a pulse in progress is active, and the pin of a group that is disabled stays inactive
(R418, R420). -/
def State.gsyncLevel (s : State) (g : Nat) : Bool := bit s.time.gsyncActive g != bit (s.rd Obj.gsyncPolarity) g

/-- GSYNC_PULSE_END. -/
def gsyncPulseEnd (s : State) : State :=
  if s.time.gsyncActive = 0 then s
  else
    match s.dueAt s.time.gsyncEnd with
    | none => s
    | some s => updTime (fun t => { t with gsyncActive := 0 }) s

/-! ### TOUT -/

/-- S of output i, and the target of its pulse n, in the unit of `State.now`. -/
def State.toutStart (s : State) (i : Nat) : Nat := (s.rd (Obj.toutStartSec i) * 1000000000 + s.rd (Obj.toutStartNs i)) * nsUnit
def State.toutTarget (s : State) (i n : Nat) : Nat := s.toutStart i + n * s.rd (Obj.toutPeriodNs i) * nsUnit

/-- Recompute the next target of output i: the first one at or after `from'` and after the end of the pulse in progress
(R422). `done` says that the target of once mode has been produced. -/
def toutAim (i from' : Nat) (done : Bool) (s : State) : State :=
  let t := s.tout i
  let lo := max from' (if t.active then t.endAt else 0)
  let start := s.toutStart i
  if s.rd (Obj.toutMode i) = 1 then
    if done then s
    else if start < lo then
      s |> updTout i (fun t => { t with next := 1 }) |> inc 32 (Obj.toutMissed i) |> detect timeBlock Src.timeToutMissed
    else updTout i (fun t => { t with next := 0 }) s
  else updTout i (fun t => { t with next := ceilDiv (lo - start) (max 1 (s.rd (Obj.toutPeriodNs i) * nsUnit)) }) s

/-- A bale that changed objects of output i has applied; `old` is the set before. -/
def toutApplied (old : Store) (i : Nat) (s : State) : State :=
  let subs := [Obj.toutMode i, Obj.toutStartSec i, Obj.toutStartNs i, Obj.toutPeriodNs i, Obj.toutWidthNs i, Obj.toutPolarity i]
  if subs.any (differs old s.dict) then
    let same := cfgN old (Obj.toutMode i) == 1 && !([Obj.toutStartSec i, Obj.toutStartNs i].any (differs old s.dict))
    toutAim i s.now (same && (s.tout i).next != 0) s
  else s

/-- TOUT_PULSE: output i goes active at its target. -/
def toutPulse (i : Nat) (s : State) : State :=
  let m := s.rd (Obj.toutMode i)
  let t := s.tout i
  if 8 ≤ i || m = 0 || (m = 1 && t.next != 0) then s
  else
    match s.dueAt (max (s.toutTarget i t.next) (if t.active then t.endAt else 0)) with
    | none => s
    | some s =>
      s |> updTout i (fun t => { t with active := true, endAt := s.now + s.rd (Obj.toutWidthNs i) * nsUnit, next := t.next + 1 })
        |> inc 64 (Obj.toutEdges i)

/-- TOUT_PULSE_END. -/
def toutPulseEnd (i : Nat) (s : State) : State :=
  if i < 8 && (s.tout i).active then
    match s.dueAt (s.tout i).endAt with
    | none => s
    | some s => updTout i (fun t => { t with active := false }) s
  else s

/-- The level of TOUT[i], true for high (R421). -/
def State.toutLevel (s : State) (i : Nat) : Bool := (s.tout i).active != (s.rd (Obj.toutPolarity i) == 1)

/-! ### TCAP -/

/-- TCAP_EDGE: a level that stayed `stableNs` after the edge. -/
def tcapEdge (i : Nat) (rising : Bool) (stableNs : Nat) (s : State) : State :=
  let sel := field (s.rd Obj.tcapEdge) (2 * i + 1) (2 * i)
  let last := sget 0 s.time.tcapLast i
  if 2 ≤ i || stableNs < 12 || (last != 0 && s.now + 1 < last + 24 * nsUnit) then s
  else
    let s := updTime (fun t => { t with tcapLast := sset 0 i (s.now + 1) t.tcapLast }) s
    if bit sel (if rising then 0 else 1) then
      let n := s.rdE Obj.tcapCaptures i
      s |> wrE Obj.tcapTime (i * 16 + n % 16) (s.nowNs % 2 ^ 63 + 2 ^ 63 * boolNat rising) |> incE 64 Obj.tcapCaptures i
    else s

/-! ### Steps of device time (R402, R404) -/

/-- Whether device time may be stepped: no schedule is active; and whether the step must wait for a committed bale. -/
def State.stepBarred (s : State) : Option Nat :=
  if s.scheduleActive then some Ab.blockRunning
  else if !s.sdp.waiting.isEmpty then some Ab.busy
  else none

/-- Device time becomes `t`. Steps that are alive were opened on the old time: they are DONE. The boundary that the time
unit then signals at once is STEP_BOUNDARY's business. -/
def jumpTime (t : Nat) (s : State) : State :=
  let s := { s with now := t, paddock := { s.paddock with rearm := true } }
  let s := s.steps.foldl (fun s r => stepDone r.k s) s
  let s := s |> inc 32 Obj.timeJumps |> detect timeBlock Src.timeTimeStepped
  (List.range 8).foldl (fun s i =>
    if s.rd (Obj.toutMode i) = 0 then s else toutAim i s.now ((s.tout i).next != 0) s) s

/-! ### Rate (R401) -/

/-- The limit of FREQ and RATE. -/
abbrev rateLimit : Int := 8589934
/-- RATE follows FREQ + SLEW, clamped. -/
def setRate (s : State) : State :=
  let r := clampInt (-rateLimit) rateLimit (s.rdI 32 Obj.ptpFreq 0 + s.ptp.slew)
  let s := wr Obj.timeRate (ofSigned 32 r) s
  detectIf (r == rateLimit || r == -rateLimit) timeBlock Src.timeRateLimit s

/-! ### Clock monitor -/

/-- CLOCK_LOSS. -/
def clockLoss (c : LostClock) (s : State) : State :=
  match c with
  | .tclk => detect timeBlock Src.timeTclkLoss s
  | .cclk => detect cpBlock Src.cpCclkLoss s

end Sys2Proof.Machine
end

