-- ==== Sys2Proof/Machine/Steps.lean ====
section
/-!
DEFINITION. The step grid at work: the signal of a boundary and all that comes about at it (R10, R15 to R20, R52, R78, R96,
R98, R196, R403, R404, R435), the closing of a step's ingress (R20) and its compute limit (R21).
-/
namespace Sys2Proof.Machine

/-! ### Bales at their boundary (R52, R78, R114) -/

/-- The values of an applied bale whose pairs pass become the last values that passed. -/
def notePairs (ws : List Staged) (s : State) : State :=
  ws.foldl (fun s w =>
    match findObj w.addr with
    | .found o =>
      if o.ty.isPair then
        ((List.range w.vals.length).zip w.vals).foldl (fun s (p : Nat × Val) =>
          if pairOk o.ty.width p.2.toNat then { s with pairs := dset s.pairs w.addr (w.first + p.1) p.2 } else s) s
      else s
    | _ => s) s

/-- Apply one waiting bale at B_k: its values come into force and its claims end (R52, R53). -/
def applyBale (k : Nat) (w : WaitingBale) (s : State) : State :=
  let old := s.dict
  let s := updSdp (fun d => { d with waiting := d.waiting.erase w }) s
  let s := { s with dict := overlay s.dict w.writes } |> notePairs w.writes |> wr Obj.baleAppliedStep k
  let s := (dedup (w.writes.map (·.addr))).foldl (fun s a => endClaim a w.owner s) s
  let s := s |> noteApply k w.writes |> noteFlicker old w.writes |> recountHot w.writes
  let s := (dedup ((w.writes.filter (fun x => ingressTable x.addr && 0x2200 ≤ x.addr / 256 && x.addr % 256 ≤ 5)).map
    (fun x => tableGate x.addr))).foldl (fun s g => rebaseApplied g s) s
  let s := if w.owner = ownerCode .groom then groomApplied old w.writes s
    else if w.owner = ownerCode .sieve then inc 32 Obj.sieveEpochsApplied s
    else if w.owner = ownerCode .boot then { s with boot := { s.boot with blockPending := false } }
    else s
  s

/-- Every waiting bale whose boundary is at or before `us`, in the order of the COMMITs; a bale with a failing pair is
dropped (R78). -/
def applyBales (k us : Nat) (s : State) : State :=
  (s.sdp.waiting.filter (fun w => w.boundaryUs ≤ us)).foldl (fun s w =>
    match badPair w with
    | some addr => dropBale w addr s
    | none => applyBale k w s) s

/-! ### What changed settings do at once -/

/-- Gate g follows its enable (R98, R114). -/
def gateEnable (g : Nat) (s : State) : State :=
  let e := s.enableInForce g
  if e && !(s.gate g).enabled then
    let s := updGate g (fun gt => { gt with enabled := true }) s
    if s.isOn (gateDomain g) && s.gateState g == 0 then startGate g s else s
  else if !e && (s.gate g).enabled then
    let s := updGate g (fun gt => { gt with enabled := false }) s
    if s.gateState g = 0 then s else stopGate g s
  else s

/-- A changed I2C.SETUP_g runs at its boundary where the group has power (R111). -/
def setupScript (old : Store) (g : Nat) (s : State) : State :=
  if differs old s.dict (Obj.i2cSetup g) && s.isOn (4 + g) then i2cAppend g .setup (s.rdB (Obj.i2cSetup g)) s else s

/-- A change of PORT.MODE to PORT.IPV6_GATEWAY restarts its port: the link goes down and trains again. -/
def restartPorts (old : Store) (s : State) : State :=
  let at' := fun (p : Nat) => (List.range 10).any (fun i =>
    let a := Obj.portMode + i
    (changedElems old s.dict a).any (fun e => if a = Obj.portIpv6 ∨ a = Obj.portIpv6Gateway then e / 16 == p else e == p))
  [0, 1].foldl (fun s p =>
    if at' p then
      wrE Obj.portLink p 0 s
    else s) s

/-- PTP.ENABLE 0 in force: free run at TIME.RATE_MANUAL (R401, R417). -/
def freeRun (s : State) : State :=
  if s.rd Obj.ptpEnable = 0 then
    { s with ptp := { Ptp.reset with seq := s.ptp.seq } } |> wr Obj.ptpServo 0 |> wr Obj.ptpFreq (s.rd Obj.timeRateManual)
      |> wr Obj.ptpState 3 |> wr Obj.ptpUpstream 0xFF |> setRate
  else s
/-- PTP.ENABLE has become 1: the port listens. -/
def ptpStarts (old : Store) (s : State) : State :=
  if cfgN old Obj.ptpEnable = 0 && s.rd Obj.ptpEnable = 1 then
    { s with ptp := { s.ptp with lastAnnounceAt := s.now } } |> wr Obj.ptpState 4
  else s

/-- A changed PTP.DOMAIN makes the Announces of the old domain count no more; a clock that has become slave-only gives up the master
role and listens (R408). -/
def ptpChanged (old : Store) (s : State) : State :=
  let s := if differs old s.dict Obj.ptpDomain then { s with ptp := { s.ptp with foreign := [] } } else s
  if s.rd Obj.ptpSlaveOnly = 1 && (s.rd Obj.ptpState == 5 || s.rd Obj.ptpState == 6) then
    { s with ptp := { s.ptp with lastAnnounceAt := s.now } } |> wr Obj.ptpState 4
  else s

/-- A changed WAKE.MODE ends the assertion that its former mode had found (R457). -/
def wakeModes (old : Store) (s : State) : State :=
  (changedElems old s.dict Obj.wakeMode).foldl (fun s n =>
    { s with power := { s.power with wakeAsserted := clrBit s.power.wakeAsserted n } }) s

/-- A changed bin or origin of the rate taps: the bins in progress belong to the old grid and are dropped (R101). -/
def retap (old : Store) (s : State) : State :=
  if differs old s.dict Obj.gateRateBin || !sameSchedule old s.dict then
    s.gates.foldl (fun s g => updGate g.1 (fun gt => { gt with taps := [none, none, none, none] }) s) s
  else s

/-- The routing of a block has changed: FAULT.PINNED follows it (R479). -/
def repin (old : Store) (s : State) : State :=
  s.keptPins.foldl (fun s p =>
    if differs old s.dict (Obj.faultReact p.1) || differs old s.dict (Obj.faultPinGrave p.1) then
      { s with keptPins := serase p.1 s.keptPins } else s) s

/-- A changed WINNOW.RELEASE releases the forced layers of its stall from step k on (R286). -/
def releases (old : Store) (k : Nat) (s : State) : State :=
  (List.range 32).foldl (fun s i => if differs old s.dict (Obj.winnowRelease i) then releaseForced i k s else s) s

/-- What the blocks do when the bales of a boundary have changed their settings. -/
def settingsChanged (old : Store) (s : State) : State :=
  let s := s |> retap old |> repin old |> wakeModes old |> releases old s.time.nextBoundary
  let s := if differs old s.dict Obj.supplyEnable || differs old s.dict Obj.supplyFixedMv then supplyCheck s else s
  let s := if differs old s.dict Obj.alignWindow then
      updGroom (fun gr => { gr with coObs := freeSlots (s.nowUs / 1000000) (cfgN old Obj.alignWindow) gr.coObs }) s else s
  let s := ((changedElems old s.dict Obj.troughBase) ++ (changedElems old s.dict Obj.troughSizeLog2)).foldl
    (fun s t => reconfigureTrough t s) s
  let s := (List.range 8).foldl (fun s i => toutApplied old i s) s
  let s := (List.range 6).foldl (fun s g => setupScript old g s) s
  let s := railTargets (changedElems old s.dict Obj.railVoutMv) s
  let s := restartPorts old s
  let s := if differs old s.dict Obj.ptpEnable || differs old s.dict Obj.timeRateManual then freeRun s else s
  let s := s |> ptpStarts old |> ptpChanged old
  if cfgN old Obj.paddockRun = 0 && s.rd Obj.paddockRun = 1 then updPaddock (fun p => { p with rearm := true }) s else s

/-- The FAULT.PIN_GRAVE pairs that fail their check (R478); a pair that the store does not list holds its default, which passes. -/
def checkPinPairs (s : State) : State :=
  s.dict.foldl (fun t p =>
    let a := p.1 / 2 ^ 24
    if 0x7000 ≤ a / 256 && a / 256 < 0x705D && a % 256 == 7 then checkPair 32 a 0 t else t) s
/-- The pairs that every boundary uses (R37, R114, R478). -/
def checkBoundaryPairs (s : State) : State :=
  s |> checkPair 32 Obj.stepPeriod 0 |> checkPair 32 Obj.gateSafetyLo 0 |> checkPair 16 Obj.gateSafetyHi 0 |> checkPinPairs

/-! ### Gates that hitch (R96, R98) -/

/-- Whether a trusted gate meets R98. -/
def State.trustedReady (s : State) (g : Nat) : Bool :=
  s.trusted g && s.gateState g == 2 && (s.gate g).packetSince && (s.gate g).tableSince && s.rdE (Obj.rebaseValid g) 0 == 1

/-- Gate g at boundary B_k. -/
def gateHitch (k g : Nat) (s : State) : State :=
  let pending := match (s.gate g).hitchAt with | some j => decide (j ≤ k) | none => false
  if s.gateState g = 2 && pending then
    s |> wr (Obj.gateState g) 3 |> updGate g (fun gt => { gt with hitchAt := none })
  else if s.trustedReady g then
    s |> wr (Obj.gateState g) 3 |> updGate g (fun gt => { gt with hitchAt := none, offsets := [], hitchFrom := (s.boundaryUs k : Int) })
  else s

/-! ### Re-maps of a serving device, and frames due at a boundary (R435, R438) -/

/-- The cut that a lead has sent for step j: its own stalls by number, the others by their codes. -/
def State.leadCut (s : State) (words : List Nat) : List Nat :=
  words.map (fun w => if memNode w = s.rd Obj.nodeNumber then memNum w else leafCode (memNode w) (memNum w))

/-- Apply the lead's cut to the job slots that serve it. -/
def applyLeadCut (k lead : Nat) (words : List Nat) (s : State) : State :=
  (s.runningSlots.filter (fun j => s.rd (Obj.yardLead (s.jobYard j)) == lead)).foldl (fun s j =>
    s |> updYard (s.jobYard j) (fun yd => { yd with serveEnd := none }) |> enterCut k j (s.leadCut words)) s

/-- The REMAP sets that are due at B_k: held ones are applied, an own one that applies four steps later is sent again. -/
def netRemaps (k : Nat) (s : State) : State :=
  let due := s.net.remaps.filter (fun r => r.1 == k)
  let s := due.foldl (fun s r => applyLeadCut k r.2.1 r.2.2 s) s
  let s := { s with net := { s.net with remaps := s.net.remaps.filter (fun r => decide (k < r.1)) } }
  s.runningSlots.foldl (fun s j =>
    let y := s.jobYard j
    match (s.yard y).waiting with
    | some w =>
      if w.step = k + 4 then
        sendRemap y w.step (s.nextCut y w.readmit w.members) s
      else s
    | none => s) s

/-- The partners that were sent no frame during step k - 1. -/
def State.quietPeers (s : State) (k : Nat) : List Nat :=
  s.partners.filter (fun n => (s.peer n).sentAt < s.boundary (k - 1) || (s.peer n).txSeq == 0)
/-- A HEARTBEAT to each partner that was sent no frame during step k - 1 (R435). -/
def heartbeats (k : Nat) (quiet : List Nat) (s : State) : State :=
  if quiet.isEmpty || k = 0 then s
  else (List.range 64).foldl (fun s j => if s.jobYard j < 256 then sendHeartbeats quiet.contains j s else s) s

/-! ### The boundary (R10, R403, R404) -/

/-- The gates that are not HITCHED, or silent (R304). -/
def State.lostGates (s : State) : List Nat := (List.range 36).filter (fun g => s.gateState g != 3 || s.silent g)

/-- Step k opens under the settings in force (R10, R26, R402). -/
def openStep (k : Nat) (s : State) : State :=
  let r : StepRec := ⟨k, .opened, s.dict, s.scheduleActive, [], [], [], [], false, s.forcing⟩
  updTime (fun t => { t with nextBoundary := k + 1 }) { wr Obj.stepOpen k s with steps := s.steps ++ [r] }

/-- At B_{j+1} a step j whose watermarks lag and whose SL exceeds 1 starts to stretch (R20). -/
def stretchSteps (k : Nat) (s : State) : State :=
  s.steps.foldl (fun s r =>
    if r.phase == .opened && r.k + 1 ≤ k && 1 < slOf r.cfg && !(List.range 36).all (fun g => s.gatePast g r.k) then
      s |> updStep r.k (fun x => { x with phase := .stretching }) |> inc 32 Obj.stepStretched
    else s) s

/-- What the blocks do at boundary B_k once the settings are in force and the step has opened. -/
def boundaryWork (k : Nat) (s : State) : State :=
  let quiet := s.quietPeers k
  let s := (List.range 36).foldl (fun s g => s |> switchIdle k g |> gateEnable g |> checkCoverage g) s
  let s := (List.range 64).foldl (fun s j => jobBoundary k j s) s
  let s := endJobs s
  let s := (List.range 16).foldl (fun s c => chainBoundary (s.boundaryUs k) c s) s
  let s := (List.range 36).foldl (fun s g => gateHitch k g s) s
  let s := s |> remapBoundary k |> netRemaps k |> missFailed k |> serveAlive |> retryStaging |> retryBias |> heartbeats k quiet
  updStep k (fun r => { r with lost := s.lostGates }) s

/-- The boundary signalled at once at the present device time, without a GSYNC edge (R404). Before T0 no step is open and
the next boundary is B_0. -/
def signalNow (s : State) : State :=
  match s.stepOfUs (s.nowUs : Int) with
  | none => updTime (fun t => { t with nextBoundary := 0 }) s
  | some k => s |> openStep k |> boundaryWork k

/-- A new step schedule has come into force (R15): every alive step is DONE, and the step that contains the instant is
signalled. -/
def scheduleChanged (s : State) : State :=
  let s := s.steps.foldl (fun s r => stepDone r.k s) s
  let s := updPaddock (fun p => { p with rearm := true, fusion := none }) s
  let s := match s.stepOfUs (s.nowUs : Int) with
    | some k => wr Obj.baleAppliedStep k s
    | none => s
  signalNow s

/-- STEP_BOUNDARY: B_k is signalled once device time has reached it. -/
def stepBoundary (s : State) : State :=
  let k := s.time.nextBoundary
  match s.dueAt (s.boundary k) with
  | none => s
  | some s =>
    let old := s.dict
    let s := s |> checkBoundaryPairs |> stretchSteps k
    let s := if s.sdp.waiting.isEmpty then s else s |> applyBales k (s.boundaryUs k) |> settingsChanged old
    if sameSchedule old s.dict then s |> openStep k |> gsyncBoundary k |> boundaryWork k
    else scheduleChanged s

/-! ### Steps of device time -/

/-- Device time steps to t, and the boundary of that instant is signalled (R402, R404). -/
def stepTime (t : Nat) (s : State) : State := s |> jumpTime t |> signalNow

/-- A write of TIME.SET (R402). -/
def timeSet (ns : Nat) (s : State) : Nat × State :=
  match s.stepBarred with
  | some c => (c, s)
  | none => (Ab.ok, stepTime (ns * nsUnit) s)

/-! ### Closing a step (R20, R21) -/

/-- The ingress of step k closes: what the gates still stage of it goes to the rings, and the compute starts. -/
def closeIngress (k : Nat) (atLimit : Bool) (s : State) : State :=
  let s := (List.range 36).foldl (fun s g => flushWhere g (fun b => !b.late && decide (b.step ≤ k)) s) s
  let s := updStep k (fun r => { r with phase := .computing }) s
  if atLimit then inc 32 Obj.stepLimitClosed s else s

/-- Whether every gate that holds steps open has passed the end of step k. -/
def State.caughtUp (s : State) (k : Nat) : Bool := (List.range 36).all (fun g => s.gatePast g k)

/-- INGRESS_CLOSE: the first instant at or after B_{k+1} at which no gate holds the step open. -/
def ingressClose (k : Nat) (s : State) : State :=
  match s.step? k with
  | some r =>
    if r.phase.ingressOpen && k + 1 < s.time.nextBoundary && s.caughtUp k then closeIngress k false s else s
  | none => s

/-- STRETCH_LIMIT_CLOSE: B_{k+SL} comes and some gate still lags. -/
def stretchLimitClose (k : Nat) (s : State) : State :=
  match s.step? k with
  | some r =>
    if r.phase.ingressOpen && k + 1 < s.time.nextBoundary && !s.caughtUp k then
      match s.dueAt (s.boundary (k + slOf r.cfg)) with
      | none => s
      | some s => closeIngress k true s
    else s
  | none => s

/-- COMPUTE_LIMIT: members that have not delivered step k by B_{k+SL+1} are missing, and a run of misses fails them (R21,
R193). -/
def computeLimit (k : Nat) (s : State) : State :=
  match s.step? k with
  | some r =>
    if r.phase == .computing then
      match s.dueAt (s.boundary (k + slOf r.cfg + 1)) with
      | none => s
      | some s =>
        let us := s.boundaryUs (k + slOf r.cfg + 1)
        (s.jobsOf k).foldl (fun s j => missStep j k us s) s |> serveSteps k
    else s
  | none => s

end Sys2Proof.Machine
end

