-- ==== Sys2Proof/Machine/PtpOps.lean ====
section
/-!
DEFINITION. PTP: time stamps (R409), the transparent clock (R411), the best master clock algorithm (R408, and IEEE
1588-2019 where R408 names it, log entry 60), the servo (R414 to R417) and the device's own messages (R410).
-/
namespace Sys2Proof.Machine

def updPtp (f : Ptp → Ptp) (s : State) : State := { s with ptp := f s.ptp }

/-! ### Intervals, ports and stamps -/

/-- 2^e s in the unit of `State.now`. -/
def logInterval (e : Int) : Nat := if e < 0 then 10 ^ 9 * nsUnit / 2 ^ (-e).toNat else 10 ^ 9 * nsUnit * 2 ^ e.toNat
def State.syncInterval (s : State) : Nat := logInterval (s.rdI 8 Obj.ptpLogSync 0)
def State.announceInterval (s : State) : Nat := logInterval (s.rdI 8 Obj.ptpLogAnnounce 0)
def State.delayInterval (s : State) : Nat := logInterval (s.rdI 8 Obj.ptpLogDelayReq 0)

/-- n / d rounded to one of its two neighbours, which of them the manual leaves open. -/
def freeDiv (n : Int) (d : Nat) : Int :=
  if n % (d : Int) = 0 then n / (d : Int) else if Config.roundBit n d then n / (d : Int) + 1 else n / (d : Int)
/-- A latency in ps as 2⁻¹⁶ ns. -/
def psToUnits (ps : Int) : Int := freeDiv (ps * 65536) 1000
/-- The stamp of a received event message at the medium (R409). -/
def State.rxTime (s : State) (h : PtpHdr) : Int := (h.rxStamp : Int) - psToUnits (s.rdI 32 Obj.ptpRxLatency h.port)
def State.txTime (s : State) (p stamp : Nat) : Int := (stamp : Int) + psToUnits (s.rdI 32 Obj.ptpTxLatency p)

/-- Whether Ethernet port p can take or send frames. -/
def State.portUp (s : State) (p : Nat) : Bool := p < 2 && s.isOn 3 && s.rdE Obj.portLink p == 1
/-- A frame has come in on port p. -/
def frameIn (p : Nat) (s : State) : State := incE 64 Obj.portRxFrames p s
/-- A stamp that finds no room is lost (R409). -/
def stampLost (s : State) : State := s |> inc 32 Obj.ptpStampLost |> detect timeBlock Src.timeStampLost
/-- An event message that has come in: `f` takes it where it has its stamp; without one it is neither used nor forwarded
(R409). -/
def eventIn (h : PtpHdr) (f : State → State) (s : State) : State :=
  if s.portUp h.port then
    if h.stamped then f (frameIn h.port s) else stampLost (frameIn h.port s)
  else s
/-- Send a PTP message of the device's own, or forward one, on port p. -/
def sendPtp (kind p : Nat) (a b : Int) (s : State) : State :=
  if s.portUp p then s |> emit (.ptp kind p a b) |> incE 64 Obj.portTxFrames p else s

abbrev ptpListening : Nat := 4
abbrev ptpPreMaster : Nat := 5
abbrev ptpMaster : Nat := 6
abbrev ptpUncalibrated : Nat := 8
abbrev ptpSlave : Nat := 9
def State.ptpOn (s : State) : Bool := s.rd Obj.ptpEnable == 1
def State.p2p (s : State) : Bool := s.rd Obj.ptpDelayMech == 1
def State.isSlave (s : State) : Bool := s.rd Obj.ptpState == ptpUncalibrated || s.rd Obj.ptpState == ptpSlave
/-- A message of the device's own domain that the ordinary clock takes. -/
def State.ownDomain (s : State) (h : PtpHdr) : Bool :=
  s.ptpOn && h.domain == s.rd Obj.ptpDomain && h.clockId != Config.clockId.toNat
/-- A message of the selected master, on the upstream port. -/
def State.fromMaster (s : State) (h : PtpHdr) : Bool :=
  match s.ptp.master with
  | some m => s.ownDomain h && m.clockId == h.clockId && m.portNumber == h.portNumber && m.port == h.port
  | none => false

/-! ### The transparent clock (R411, R412) -/

/-- Forward a message to the other port: `event` messages get their residence time, which the manual bounds and does not
state, in the second field; `extra` is what R411 adds besides. -/
def forward (kind : Nat) (event : Bool) (extra : Int) (h : PtpHdr) (s : State) : State :=
  if s.rd Obj.ptpTcEnable = 1 && s.portUp (1 - h.port) then
    if event then
      s |> sendPtp kind (1 - h.port) (h.correction + extra) (s.free : Int) |> drawn |> inc 64 Obj.ptpForwarded
    else sendPtp kind (1 - h.port) h.correction 0 s
  else s

/-- What R411 adds to a Sync under P2P. -/
def State.syncExtra (s : State) (p : Nat) : Int :=
  if s.p2p then s.rdI 64 Obj.ptpLinkDelay p + psToUnits (s.rdI 32 Obj.ptpAsymmetry p) else 0

/-! ### The servo (R414 to R417) -/

/-- D of the upstream port (R414). -/
def State.pathDelay (s : State) (p : Nat) : Int :=
  if s.p2p then s.rdI 64 Obj.ptpLinkDelay p + psToUnits (s.rdI 32 Obj.ptpAsymmetry p) else s.rdI 64 Obj.ptpMeanDelay 0

/-- N of R415. -/
def State.tclksPerSync (s : State) : Nat :=
  let e := s.rdI 8 Obj.ptpLogSync 0
  if e < 0 then 250000000 / 2 ^ (-e).toNat else 250000000 * 2 ^ e.toNat

/-- ACQUIRING or LOCKED to HOLDOVER: the clock free-runs at FREQ (R416). -/
def holdover (src : Nat) (s : State) : State :=
  let s := updPtp (fun p => { p with requalify := 0, lockRun := 0, pendingSync := none }) s
  if s.rd Obj.ptpServo = 1 ∨ s.rd Obj.ptpServo = 2 then
    let s := s |> wr Obj.ptpServo 3 |> updPtp (fun p => { p with slew := 0 }) |> setRate |> detect timeBlock src
    if s.isSlave then wr Obj.ptpState ptpUncalibrated s else s
  else s

/-- The lock state follows an offset of the size a, in 2⁻¹⁶ ns (R417). -/
def lockState (a : Nat) (s : State) : State :=
  let lock := s.rd Obj.ptpLockNs * 65536
  if s.rd Obj.ptpServo = 1 then
    let run := if a ≤ lock then s.ptp.lockRun + 1 else 0
    let s := updPtp (fun p => { p with lockRun := run }) s
    if 8 ≤ run then s |> wr Obj.ptpServo 2 |> wr Obj.ptpState ptpSlave else s
  else if s.rd Obj.ptpServo = 2 && 4 * lock < a then
    s |> wr Obj.ptpServo 1 |> wr Obj.ptpState ptpUncalibrated |> updPtp (fun p => { p with lockRun := 0 }) |> inc 32 Obj.ptpLockLosses
  else s

/-- SLEW and FREQ of R415. -/
def slewTo (o : Int) (s : State) : State :=
  let n := s.tclksPerSync
  let lim : Int := s.rd Obj.ptpSlewMax
  let slew := clampInt (-lim) lim (-(roundAway (o * (s.rd Obj.ptpKp : Int)) n))
  let freq := clampInt (-rateLimit) rateLimit (s.rdI 32 Obj.ptpFreq 0 - roundAway (o * (s.rd Obj.ptpKi : Int)) n)
  let s := s |> updPtp (fun p => { p with slew := slew }) |> wr Obj.ptpFreq (ofSigned 32 freq)
  let s := setRate s
  detectIf ((freq == rateLimit || freq == -rateLimit) && s.rdI 32 Obj.timeRate 0 != rateLimit && s.rdI 32 Obj.timeRate 0 != -rateLimit)
    timeBlock Src.timeRateLimit s

/-- Device time steps by −o (R415). -/
def stepBy (o : Int) (s : State) : State :=
  let s := s |> updPtp (fun p => { p with slew := 0 }) |> setRate
  stepTime ((s.now : Int) - o * 65536).toNat s

/-- One offset sample in ACQUIRING or LOCKED (R415). -/
def servoSample (o : Int) (s : State) : State :=
  let big := decide (s.rd Obj.ptpStepThreshold * 65536 < o.natAbs) && s.rd Obj.ptpServo == 1
  let s := lockState o.natAbs s
  if big then
    if s.scheduleActive then s |> slewTo o |> detect timeBlock Src.timeOffsetLarge
    else if s.stepBarred.isSome then s
    else stepBy o s
  else slewTo o s

/-- A usable Sync: t1 in ns, the summed correction, the receive stamp (R414). -/
def takeSync (h : PtpHdr) (t1 : Nat) (c : Int) (s : State) : State :=
  let diff := s.rxTime h - (t1 : Int) * 65536 - c
  let d := s.pathDelay h.port
  let o := diff - d
  let s := s |> updPtp (fun p => { p with syncDiff := some diff, lastSyncAt := s.now })
    |> wr Obj.ptpOffset (ofSigned 64 o) |> wr Obj.ptpMeanDelay (ofSigned 64 d)
  if s.rd Obj.ptpServo = 3 then
    let n := s.ptp.requalify + 1
    if s.rd Obj.ptpRequalify ≤ n then s |> wr Obj.ptpServo 1 |> updPtp (fun p => { p with requalify := 0, lockRun := 0 })
    else updPtp (fun p => { p with requalify := n }) s
  else if s.rd Obj.ptpServo = 0 then s
  else servoSample o s

/-- SYNC_RX (R411, R413, R414). -/
def syncRx (h : PtpHdr) (twoStep : Bool) (origin : Nat) (s : State) : State :=
  eventIn h (fun s =>
    let s := forward 0 true (s.syncExtra h.port) h s
    if s.fromMaster h then
      if twoStep then updPtp (fun p => { p with pendingSync := some ⟨h, s.now⟩ }) s else takeSync h origin h.correction s
    else s) s

/-- FOLLOW_UP_RX (R413). -/
def followUpRx (h : PtpHdr) (t1 : Nat) (s : State) : State :=
  if s.portUp h.port then
    let s := s |> frameIn h.port |> forward 8 false 0 h
    match s.ptp.pendingSync with
    | some q =>
      if s.fromMaster h && q.h.seq == h.seq && q.h.port == h.port && q.h.clockId == h.clockId && q.h.portNumber == h.portNumber
          && s.now ≤ q.at' + s.syncInterval then
        s |> updPtp (fun p => { p with pendingSync := none }) |> takeSync q.h t1 (q.h.correction + h.correction)
      else s
    | none => s
  else s

/-- FOLLOW_UP_TIMEOUT: one sync interval has passed (R413). -/
def followUpTimeout (s : State) : State :=
  match s.ptp.pendingSync with
  | some q =>
    match s.dueAt (q.at' + s.syncInterval) with
    | none => s
    | some s => updPtp (fun p => { p with pendingSync := none }) s
  | none => s

/-- x moves toward d by 2^−PTP.DELAY_FILTER of the difference, d being a half of `twice` (R414). -/
def State.filtered (s : State) (x twice : Int) : Int := x + freeDiv (twice - 2 * x) (2 * 2 ^ s.rd Obj.ptpDelayFilter)

/-- DELAY_RESP_RX: t4 in ns (R414). -/
def delayRespRx (h : PtpHdr) (t4 : Nat) (s : State) : State :=
  if s.portUp h.port then
    let s := s |> frameIn h.port |> forward 9 false 0 h
    match s.ptp.delayReqAt, s.ptp.syncDiff with
    | some (seq, t3), some diff =>
      if s.fromMaster h && !s.p2p && seq == h.seq then
        let x := s.filtered (s.rdI 64 Obj.ptpMeanDelay 0) (diff + ((t4 : Int) * 65536 - (t3 : Int) - h.correction))
        s |> wr Obj.ptpMeanDelay (ofSigned 64 x) |> updPtp (fun p => { p with delayReqAt := none })
      else s
    | _, _ => s
  else s

/-- PDELAY_RESP_RX: the link delay of its port (R414); the responder's turnaround is in correctionField. -/
def pdelayRespRx (h : PtpHdr) (s : State) : State :=
  eventIn h (fun s =>
    if s.p2p then
      match s.ptp.pdelayAt.getD h.port none with
      | some (seq, t1) =>
        if s.ptpOn && seq == h.seq then
          let x := s.filtered (s.rdI 64 Obj.ptpLinkDelay h.port) (s.rxTime h - (t1 : Int) - h.correction)
          s |> wrE Obj.ptpLinkDelay h.port (ofSigned 64 x) |> updPtp (fun p => { p with pdelayAt := setAt p.pdelayAt h.port none })
        else s
      | none => s
    else forward 3 true 0 h s) s

/-! ### The best master clock algorithm (R408; IEEE 1588-2019, log entry 60) -/

/-- Lexicographic order of two lists of numbers. -/
def lexLess : List Nat → List Nat → Bool
  | x :: xs, y :: ys => x < y || (x == y && lexLess xs ys)
  | _, _ => false

def gmVector (a : AnnounceData) : List Nat := [a.priority1, a.clockClass, a.accuracy, a.variance, a.priority2, a.gmId]
/-- Whether x is better than y. -/
def betterMaster (x y : Foreign) : Bool :=
  if x.a.gmId = y.a.gmId then lexLess [x.a.stepsRemoved, x.clockId, x.port] [y.a.stepsRemoved, y.clockId, y.port]
  else lexLess (gmVector x.a) (gmVector y.a)
/-- A foreign master counts once two of its Announces came within four announce intervals, and as long as the newest is
not older than that. -/
def State.qualified (s : State) (f : Foreign) : Bool :=
  match f.prev with
  | some p => f.at' ≤ p + 4 * s.announceInterval && s.now ≤ f.at' + 4 * s.announceInterval
  | none => false
def State.bestForeign (s : State) : Option Foreign :=
  (s.ptp.foreign.filter s.qualified).foldl (fun b f =>
    match b with
    | some x => if betterMaster f x then some f else b
    | none => some f) none
/-- The device's own data set against a foreign one. -/
def State.ownVector (s : State) : List Nat := [s.rd Obj.ptpPriority1, 248, 0xFE, 0xFFFF, s.rd Obj.ptpPriority2, Config.clockId.toNat]
def State.ownBetter (s : State) (f : Foreign) : Bool := s.rd Obj.ptpSlaveOnly != 1 && lexLess s.ownVector (gmVector f.a)

/-- Take f as the master: its port, parent and grandmaster, and what R416 and R417 do when it is a new one. -/
def selectMaster (f : Foreign) (s : State) : State :=
  let same := match s.ptp.master with
    | some m => m.clockId == f.clockId && m.portNumber == f.portNumber
    | none => false
  let s := s |> updPtp (fun p => { p with master := some f }) |> wr Obj.ptpUpstream f.port |> wr Obj.ptpParentId f.clockId
    |> wr Obj.ptpGmId f.a.gmId |> wr Obj.ptpStepsRemoved ((f.a.stepsRemoved + 1) % 65536)
    |> wr Obj.ptpUtcOffset (ofSigned 16 f.a.utcOffset)
  if same then s
  else
    let s := s |> inc 32 Obj.ptpMasterChanges |> updPtp (fun p => { p with
      lastSyncAt := s.now, lastAnnounceAt := s.now, syncDiff := none, delayReqAt := none })
    let s := if s.rd Obj.ptpServo = 0 then s |> wr Obj.ptpServo 1 |> updPtp (fun p => { p with lockRun := 0 })
        |> detect timeBlock Src.timeMasterChanged
      else if s.rd Obj.ptpServo = 3 then s |> updPtp (fun p => { p with requalify := 0, pendingSync := none })
        |> detect timeBlock Src.timeMasterChanged
      else holdover Src.timeMasterChanged s
    wr Obj.ptpState ptpUncalibrated s

/-- No foreign master is taken. -/
def dropMaster (s : State) : State := s |> updPtp (fun p => { p with master := none }) |> wr Obj.ptpUpstream 0xFF

/-- The clock takes the master role (R408). -/
def takeRole (st : Nat) (s : State) : State :=
  s |> dropMaster |> wr Obj.ptpState st |> wr Obj.ptpParentId Config.clockId.toNat |> wr Obj.ptpGmId Config.clockId.toNat
    |> wr Obj.ptpStepsRemoved 0

/-- Run the algorithm. -/
def selectBest (s : State) : State :=
  match s.bestForeign with
  | none => s
  | some f =>
    if s.ownBetter f then
      if s.rd Obj.ptpState = ptpMaster ∨ s.rd Obj.ptpState = ptpPreMaster then s
      else
        let s := if s.ptp.master.isSome then s |> inc 32 Obj.ptpMasterChanges |> holdover Src.timeMasterChanged else s
        s |> takeRole ptpPreMaster |> updPtp (fun p => { p with qualifyAt := s.now })
    else selectMaster f s

/-- ANNOUNCE_RX (R408). -/
def announceRx (h : PtpHdr) (a : AnnounceData) (s : State) : State :=
  if s.portUp h.port then
    let s := s |> frameIn h.port |> forward 0xB false 0 h
    if s.ownDomain h && a.stepsRemoved < 255 then
      let old := s.ptp.foreign.find? (fun f => f.port == h.port && f.clockId == h.clockId && f.portNumber == h.portNumber)
      let rest := s.ptp.foreign.filter (fun f => !(f.port == h.port && f.clockId == h.clockId && f.portNumber == h.portNumber))
      let s := updPtp (fun p => { p with foreign := rest ++ [⟨h.port, h.clockId, h.portNumber, a, s.now, old.map (·.at')⟩] }) s
      let s := if s.fromMaster h then updPtp (fun p => { p with lastAnnounceAt := s.now }) s else s
      selectBest s
    else s
  else s

/-- ANNOUNCE_TIMEOUT (R416). -/
def announceTimeout (s : State) : State :=
  let st := s.rd Obj.ptpState
  if !s.ptpOn || !(st == ptpListening || s.isSlave) then s
  else
    match s.dueAt (s.ptp.lastAnnounceAt + s.rd Obj.ptpAnnounceTimeout * s.announceInterval) with
    | none => s
    | some s =>
      let s := if s.ptp.master.isSome then holdover Src.timeMasterLost s else s
      let s := s |> dropMaster |> updPtp (fun p => { p with
        foreign := p.foreign.filter (fun f => decide (s.now < f.at' + s.rd Obj.ptpAnnounceTimeout * s.announceInterval)),
        lastAnnounceAt := s.now })
      match s.bestForeign with
      | some _ => selectBest s
      | none => if s.rd Obj.ptpSlaveOnly = 1 then wr Obj.ptpState ptpListening s else takeRole ptpMaster s

/-- SYNC_TIMEOUT: no usable Sync within 3 sync intervals (R416). -/
def syncTimeout (s : State) : State :=
  if s.ptp.master.isSome && s.rd Obj.ptpServo != 0 then
    match s.dueAt (s.ptp.lastSyncAt + 3 * s.syncInterval) with
    | none => s
    | some s => s |> holdover Src.timeMasterLost |> updPtp (fun p => { p with lastSyncAt := s.now })
  else s

/-- QUALIFICATION_TIMEOUT: PRE_MASTER becomes MASTER. -/
def qualificationTimeout (s : State) : State :=
  if s.rd Obj.ptpState = ptpPreMaster then
    match s.dueAt s.ptp.qualifyAt with
    | none => s
    | some s => wr Obj.ptpState ptpMaster s
  else s

/-! ### Requests to the device, and messages of its own (R408, R410) -/

/-- DELAY_REQ_RX: a master answers with the receive stamp. -/
def delayReqRx (h : PtpHdr) (s : State) : State :=
  eventIn h (fun s =>
    let s := forward 1 true 0 h s
    if s.ownDomain h && !s.p2p && s.rd Obj.ptpState == ptpMaster then sendPtp 9 h.port (s.rxTime h) (h.seq : Int) s else s) s

/-- PDELAY_REQ_RX: answered with the turnaround time (R410); under E2E it is forwarded only. -/
def pdelayReqRx (h : PtpHdr) (txStamp : Nat) (s : State) : State :=
  eventIn h (fun s =>
    if s.p2p then
      if s.ptpOn && h.domain == s.rd Obj.ptpDomain then sendPtp 3 h.port (s.txTime h.port txStamp - s.rxTime h) (h.seq : Int) s else s
    else forward 2 true 0 h s) s

/-- MANAGEMENT_RX: forwarded, otherwise ignored (R407). -/
def managementRx (h : PtpHdr) (s : State) : State :=
  if s.portUp h.port then s |> frameIn h.port |> forward 0xD false 0 h else s

/-- Own message `kind` is due one interval after the one before it. -/
def State.ptpDue (s : State) (kind interval : Nat) : Option State :=
  match sfind s.ptp.lastTx kind with
  | none => some s
  | some t => s.dueAt (t + interval)
def noteTx (kind : Nat) (s : State) : State :=
  updPtp (fun p => { p with lastTx := sput kind s.now p.lastTx, seq := (p.seq + 1) % 65536 }) s

/-- SYNC_TX: one-step Sync on both ports, its own stamp as origin, ns and fraction. -/
def syncTx (stamp : Nat) (s : State) : State :=
  if s.ptpOn && s.rd Obj.ptpState == ptpMaster then
    match s.ptpDue 0 s.syncInterval with
    | none => s
    | some s =>
      let send := fun (p : Nat) (s : State) => sendPtp 0 p (s.txTime p stamp / 65536) (s.txTime p stamp % 65536) s
      s |> send 0 |> send 1 |> noteTx 0
  else s

/-- ANNOUNCE_TX on both ports. -/
def announceTx (s : State) : State :=
  if s.ptpOn && s.rd Obj.ptpState == ptpMaster then
    match s.ptpDue 0xB s.announceInterval with
    | none => s
    | some s =>
      let send := fun (p : Nat) (s : State) => sendPtp 0xB p (s.rd Obj.ptpPriority1 : Int) (s.rd Obj.ptpPriority2 : Int) s
      s |> send 0 |> send 1 |> noteTx 0xB
  else s

/-- The sequence and the departure of an own request, where its stamp found room (R409). -/
def sentAt (seq p : Nat) (stamp : Option Nat) (s : State) : Option (Nat × Nat) := stamp.map (fun t => (seq, (s.txTime p t).toNat))
/-- A request has left: without its stamp, the stamp is lost. -/
def leaveStamp (stamp : Option Nat) (s : State) : State := if stamp.isSome then s else stampLost s

/-- DELAY_REQ_TX on the upstream port. -/
def delayReqTx (stamp : Option Nat) (s : State) : State :=
  match s.ptp.master with
  | some m =>
    if s.ptpOn && s.isSlave && !s.p2p then
      match s.ptpDue 1 s.delayInterval with
      | none => s
      | some s =>
        s |> sendPtp 1 m.port (s.ptp.seq : Int) 0
          |> updPtp (fun p => { p with delayReqAt := sentAt p.seq m.port stamp s }) |> noteTx 1 |> leaveStamp stamp
    else s
  | none => s

/-- PDELAY_REQ_TX on a port. -/
def pdelayReqTx (p : Nat) (stamp : Option Nat) (s : State) : State :=
  if s.ptpOn && s.p2p && p < 2 then
    match s.ptpDue (16 + p) s.delayInterval with
    | none => s
    | some s =>
      s |> sendPtp 2 p (s.ptp.seq : Int) 0
        |> updPtp (fun q => { q with pdelayAt := setAt q.pdelayAt p (sentAt q.seq p stamp s) }) |> noteTx (16 + p) |> leaveStamp stamp
  else s

end Sys2Proof.Machine
end

