-- ==== Sys2Proof/Machine/DomainOps.lean ====
section
/-!
DEFINITION. The power domains at work: what a domain loses and takes up as it leaves and enters ON (R442, R447, R448, R455,
R456), and its sequences (R447 to R449, R453, R465).
-/
namespace Sys2Proof.Machine

/-! ### Status objects by domain (R44, R45) -/

/-- The domain that holds an element of an RO status or counter object, where it is not always ON. The scalars of the two
memory halves lie in D12, those of the loft in D14 with its record (log entry 20). -/
def statusDomain (addr e : Nat) : Option Nat :=
  let i := addr / 256
  let sub := addr % 256
  if i = 0x2000 then (if 0x20 ≤ sub && sub < 0x30 then some (4 + sub % 8) else none)
  else if 0x2100 ≤ i && i < 0x2124 then some (gateDomain (i - 0x2100))
  else if 0x2800 ≤ i && i < 0x2C20 then some 10
  else if 0x3100 ≤ i && i < 0x3120 then some (stallDomain (i - 0x3100))
  else if 0x3400 ≤ i && i < 0x3420 then some (stallDomain (i - 0x3400))
  else if 0x3500 ≤ i && i < 0x3520 then some (stallDomain (i - 0x3500))
  else if 0x3600 ≤ i && i < 0x3620 then some (stallDomain (i - 0x3600))
  else if addr = Obj.paddockWatchdogTrips then none
  else if 0x4000 ≤ i && i < 0x4180 then some 11
  else if 0x4180 ≤ i && i < 0x4190 then (if addr = Obj.holdChanges (i - 0x4180) then some 11 else none)
  else if addr = Obj.memCorrected || addr = Obj.memUncorrectable || addr = Obj.memLinkRetries then some (12 + e / 8)
  else if addr = Obj.granaryCorrected || addr = Obj.granaryUncorrectable then none
  else if i = 0x9000 then some (if 0x13 ≤ sub && sub ≤ 0x15 then 14 else 12)
  else if i = 0xA000 then some 2
  else if i = 0x5800 || i = 0x5900 then some 3
  else none

def isStatus (addr : Nat) : Bool :=
  match findObj addr with
  | .found o => o.acc == .ro
  | _ => false

/-- The RO objects of domain d at their defaults; HOLD.CHANGES is counted in D0 and stays. -/
def clearDomainStatus (d : Nat) (s : State) : State :=
  { s with dict := s.dict.filter (fun p =>
      let a := p.1 / 2 ^ 24
      !(isStatus a && statusDomain a (p.1 % 2 ^ 24) == some d && !(0x4180 ≤ a / 256 && a / 256 < 0x4190))) }

/-! ### Units of muck-out (R483) -/

/-- Kind of a unit by its place in the unit arrays; 7 for a place that is reserved. -/
def muckKind (u : Nat) : Nat :=
  if u < 32 then 0 else if u < 68 then 1 else if u < 76 then 2 else if u = 76 then 3 else if u = 77 then 4
  else if u < 86 then 5 else if u = 86 then 6 else 7
/-- Number of a unit within its kind. -/
def muckNumber (u : Nat) : Nat :=
  if u < 32 then u else if u < 68 then u - 32 else if u < 76 then u - 68 else if u < 78 then 0 else if u < 86 then u - 78 else 0
/-- The domain of a unit; the barrow and the trough unit are taken to lie in D1 (log entry 20). -/
def muckDomain (u : Nat) : Nat :=
  match muckKind u with
  | 0 => stallDomain u
  | 1 => gateDomain (u - 32)
  | 2 => 14 + (u - 68)
  | 3 => 11
  | 4 => 10
  | _ => 1

/-- A slice is over: its vote is withdrawn. -/
def endSlice (u : Nat) (s : State) : State :=
  let s := updMuck u (fun m => { m with running := false, sliceAt := 0 }) s
  { s with power := { s.power with muckVotes := s.power.muckVotes.erase (muckDomain u) } }

/-! ### Leaving ON (R447, R448) -/

/-- An I²C master loses its script and its queue. -/
def i2cDark (g : Nat) (s : State) : State :=
  let busy := (s.i2cm g).running.isSome
  let s := updI2c g (fun _ => I2c.reset) s
  if busy then wr (Obj.i2cState g) 3 s else s

/-- The fusion in progress is given up and taken up again from its step; tracks stay in their SRAM. -/
def paddockHalts (s : State) : State :=
  { s with hold := { s.hold with link := none }, paddock := { s.paddock with fusion := none, resetting := false },
           steps := s.steps.map (fun r => if r.phase = .fusing then { r with phase := .computing } else r) }

/-- Ports of a fieldnet that is not ON have no link. -/
def portsDark (s : State) : State :=
  { wrE Obj.portLink 0 0 (wrE Obj.portLink 1 0 s) with net := { s.net with sets := [] } }

/-- What the blocks of domain d do in the cycle in which it leaves ON; a muck-out slice there ends without a result. -/
def domainLeaves (d : Nat) (s : State) : State :=
  let s := s.muck.foldl (fun s (m : Nat × MuckUnit) => if m.2.running && muckDomain m.1 == d then endSlice m.1 s else s) s
  if d = 2 then dropLink s
  else if d = 3 then portsDark s
  else if 4 ≤ d && d ≤ 9 then (List.range 6).foldl (fun s i => gateDark ((d - 4) * 6 + i) s) (i2cDark (d - 4) s)
  else if d = 10 then sieveDark s
  else if d = 11 then paddockHalts s
  else if 22 ≤ d then failStall (d - 22) s
  else s

/-- The bank of the loft that an address lies in. -/
abbrev bankOf (a : Nat) : Nat := (a - loftBase) / 0x400000

/-- A loft bank loses what it holds (R377, R378): staging blocks, block queues and exchange slots. Where the exchange slots lie in
their area the manual does not say, so which of them go is left open. The events lost are counted by R25, in RING_DROPPED and
STALL.FAILED_DISCARDS (log entry 102). -/
def loftOff (bank : Nat) (s : State) : State :=
  let s := s.gates.foldl (fun s g =>
    let gone := g.2.staging.filter (fun b => bankOf (stagingAt g.1 b.place) == bank)
    if gone.isEmpty then s
    else
      s |> addE 64 (Obj.gateDrops g.1) 10 (sumNat (gone.map (fun b => b.events.length)))
        |> updGate g.1 (fun gt => { gt with staging := gt.staging.filter (fun b => bankOf (stagingAt g.1 b.place) != bank) })) s
  let s := s.stalls.foldl (fun s st =>
    if bankOf (queueAt st.1 0) = bank && !st.2.queue.isEmpty then
      let s := st.2.queue.foldl (fun s b => updGate b.gate (fun g => { g with ringUsed := g.ringUsed.erase b.block }) s) s
      s |> addE 64 (Obj.stallFailedDiscards st.1) 0 (sumNat (st.2.queue.map (·.count)))
        |> updStall st.1 (fun st => { st with queue := [] })
    else s) s
  let s := if 3 ≤ bank && !s.halos.isEmpty then
      drawn { s with halos := ((List.range s.halos.length).zip s.halos).filterMap (fun p => if bit s.free p.1 then none else some p.2) }
    else s
  zeroRange (loftBase + bank * 0x400000) 0x400000 s

/-- Contents that domain d loses as it reaches OFF (R442). -/
def domainOff (d : Nat) (s : State) : State :=
  let s := clearDomainStatus d s
  if d = 3 then { s with net := { s.net with peers := s.net.peers.map (fun p => (p.1, { p.2 with seen := [] })) } }
  else if 4 ≤ d && d ≤ 9 then
    (List.range 6).foldl (fun s i => updGate ((d - 4) * 6 + i) (fun gt => { gt with
      refractory := [], th := 0, thSet := false, taps := [none, none, none, none], sampleCount := 0, packetSince := false }) s) s
  else if d = 10 then emptyGroom s
  else if d = 11 then paddockDark s
  else if d = 12 || d = 13 then
    updMemctl (fun m => { m with trained := setAt m.trained (d - 12) false, zeroed := setAt m.zeroed (d - 12) false,
                                 rates := setAt m.rates (d - 12) 0, wbQueue := [] }) s
  else if 14 ≤ d && d ≤ 21 then
    loftOff (d - 14) s
  else if 22 ≤ d then s |> updStall (d - 22) (fun _ => Stall.reset) |> zeroRange (0x1100000000 + (d - 22) * 0x1000000) 0x1000000
  else s

/-! ### Entering ON -/

/-- The offset and size of a domain's save area in the granary (R455). -/
def saveArea (d : Nat) : Nat × Nat :=
  if d = 1 then (0, 0x8000)
  else if d = 2 then (0x8000, 0x1000)
  else if d = 3 then (0x9000, 0x2000)
  else if d ≤ 9 then (0xB000 + (d - 4) * 0x800, 0x800)
  else if d = 10 then (0xE000, 0x2000)
  else if d = 11 then (0x10000, 0x4000)
  else if d ≤ 13 then (0x14000 + (d - 12) * 0x1000, 0x1000)
  else if d ≤ 21 then (0x16000 + (d - 14) * 0x200, 0x200)
  else (0x17000 + (d - 22) * 0x800, 0x800)

/-- Whether an uncorrectable granary word lies in the save area of domain d. -/
def State.saveDamaged (s : State) (d : Nat) : Bool :=
  let (o, n) := saveArea d
  s.memctl.granaryBad.any (fun w => o ≤ w * 8 && w * 8 < o + n)

/-- Fault records come back from the granary; a damaged slot sets every present sticky bit of its block (R482). -/
def restoreRecords (d : Nat) (s : State) : State :=
  let bad := s.memctl.granaryBad.filter (fun w => 0x38000 / 8 ≤ w && w < 0x40000 / 8 && blockDomain (Config.granarySlot w) == d)
  bad.foldl (fun s w =>
    let b := Config.granarySlot w
    if b < 93 then s |> wr (Obj.faultSticky b) (faultPresent b) |> detect muckBlock Src.muckMarkLost else s) s

/-- Domain d is ON: what its blocks take up (R45). -/
def domainEnters (d : Nat) (s : State) : State :=
  let s := restoreRecords d s
  if d = 1 then
    (if s.boot.phase = .running then s else requestVout .vout 0 750 s)
  else if d = 3 then
    (if s.rd Obj.ptpEnable = 1 && s.rd Obj.ptpState = 1 then
      s |> wr Obj.ptpState ptpListening |> updPtp (fun p => { p with lastAnnounceAt := s.now }) else s)
  else if 4 ≤ d && d ≤ 9 then
    let g := d - 4
    let s := if (s.rdB (Obj.i2cSetup g)).isEmpty then s else i2cAppend g .setup (s.rdB (Obj.i2cSetup g)) s
    (List.range 6).foldl (fun s i =>
      let n := g * 6 + i
      if (s.gate n).enabled && s.gateState n == 0 then startGate n s else s) s
  else if d = 10 then emptyGroom { s with sieveAt := s.now }
  else if d = 11 then updPaddock (fun p => { p with rearm := true }) s
  else if d = 12 || d = 13 then
    let s := (List.range 8).foldl (fun s i => updMemctl (fun m => { m with
      retrainedAt := sset 0 ((d - 12) * 8 + i) s.now m.retrainedAt, scrubbedAt := s.now }) s) s
    -- training that has failed at every rate is told once the half is ON (R363, R481; log entry 109)
    detectIf (s.memctl.trained.getD (d - 12) false && s.memctl.rates.getD (d - 12) 0 == 0) (halfBlock (d - 12)) Src.memTrainingFail s
  else if 22 ≤ d then supplyCheck s
  else s

/-! ### Sequences (R447 to R449) -/

def setDomain (d n : Nat) (s : State) : State := wr (Obj.domainState d) n s
/-- A transition has ended at a stable state. -/
def endTransition (d n : Nat) (s : State) : State :=
  let ns := (s.now - (s.domain d).since) / nsUnit
  s |> setDomain d n |> wr (Obj.domainLastNs d) (satTo 32 ns) |> inc 32 Obj.powerTransitions
    |> updDomain d (fun x => { x with phase := 0, since := 0, low := true })

/-- The managed rails that d draws on are switched on where they are off (R465). -/
def raiseRails (d : Nat) (s : State) : State := (s.domainRails d).foldl (fun s r => railUp r s) s
/-- A rail is switched off once the last domain that draws on it is OFF. -/
def dropRails (d : Nat) (s : State) : State :=
  (s.domainRails d).foldl (fun s r =>
    if (List.range 54).any (fun e => e != d && s.domState e != 0 && (s.domainRails e).contains r) then s else railDown r s) s

/-- OFF to RISING, RET to RESTORING. -/
def startRise (d : Nat) (s : State) : State :=
  let low := s.domState d == 0
  s |> setDomain d (if low then 1 else 5) |> updDomain d (fun x => { x with phase := 1, since := s.now, low := low }) |> raiseRails d

/-- The edge detectors of the wakes are re-armed (R458). -/
def blindWakes (s : State) : State := updPower (fun p => { p with blindUntil := s.now + 120 * nsUnit }) s
/-- ON or RET toward the lower target. -/
def startDrop (d target : Nat) (s : State) : State :=
  let ret := s.domState d == 4
  let s := s |> blindWakes |> setDomain d (if target = 1 then 3 else 6)
    |> updDomain d (fun x => { x with phase := if ret then 6 else 5, since := s.now, low := ret })
  if ret then updPower (fun p => { p with saves := serase d p.saves }) s else domainLeaves d s

/-- Whether domain d may rise: until the firmware of a forerunner start has moved to CCLK, only D1 does (R453). -/
def State.mayRise (s : State) (d : Nat) : Bool := d == 1 || s.rdZ Obj.powerStartMode == 0 || s.rdZ Obj.powerCpClock == 1

/-- The target that a blocked domain had is not tried again (R465). -/
def unblock (d target : Nat) (s : State) : State :=
  if s.rdZ (Obj.domainBlocked d) = 1 && (s.domain d).blockedTarget != target then wr (Obj.domainBlocked d) 0 s else s

/-- Compare the target of a domain at a stable state with that state, and start the sequence it calls for. -/
def settleDomain (d target : Nat) (s : State) : State :=
  let st := s.domState d
  let s := unblock d target s
  let free := s.rdZ (Obj.domainBlocked d) == 0
  if st = 0 && target != 0 && free && s.mayRise d then startRise d s
  else if st = 2 && target != 2 && free then startDrop d target s
  else if st = 4 && target == 2 && free && s.mayRise d then startRise d s
  else if st = 4 && target == 0 && free then startDrop d 0 s
  else s

/-- The power controller compares every target with its domain (R443): rising in ascending order, then falling in
descending order (R450). -/
def powerSettle (s : State) : State :=
  let c := s.voteCtx
  let ts := (List.range 54).map (fun d => (d, s.targetIn c d))
  let act := ts.filter (fun p => p.1 != 0 && (s.domState p.1 == 0 && p.2 != 0 || s.domState p.1 == 2 && p.2 != 2
    || s.domState p.1 == 4 && p.2 != 1 || s.rdZ (Obj.domainBlocked p.1) == 1))
  let rises := act.filter (fun p => s.domState p.1 != 2 && p.2 != 0)
  let drops := act.filter (fun p => !(s.domState p.1 != 2 && p.2 != 0))
  let s := rises.foldl (fun s p => settleDomain p.1 p.2 s) s
  drops.reverse.foldl (fun s p => settleDomain p.1 p.2 s) s

/-! ### The events of a sequence -/

/-- Whether the supply of domain d is ready: every managed rail that it draws on is good. -/
def State.supplyReady (s : State) (d : Nat) : Bool := (s.domainRails d).all (fun r => bit s.power.pgood r)
/-- Whether the memory phase of d can end: from OFF, a memory half has been trained and zeroed (R363). -/
def State.memoryReady (s : State) (d : Nat) : Bool :=
  if (d == 12 || d == 13) && s.domState d == 1 then
    let h := d - 12
    s.memctl.trained.getD h false && (s.memctl.zeroed.getD h false || s.memctl.rates.getD h 0 == 0)
  else true

/-- The saved registers of d cannot be read: the domain rises as from reset (R456). The marks that the supply loop keeps of a
stall's counters move with them. -/
def restoreFails (d : Nat) (s : State) : State :=
  let i := d - 22
  let back := fun (s : State) => updStall i (fun st => { st with
    windowReplays := since64 st.windowReplays (s.rd (Obj.winnowReplays i)),
    windowCycles := since64 st.windowCycles (s.rd (Obj.winnowActiveCycles i)),
    replays := st.replays.map (fun p => since64 p (s.rd (Obj.winnowActiveCycles i))) }) s
  -- what training found is in the controllers of the halves
  let found := fun (s : State) => s |> wr Obj.memDevices s.memctl.fitted |> settleTraining
  let s := (if 22 ≤ d then back s else s) |> clearDomainStatus d
  (if d = 12 then found s else s) |> inc 16 (Obj.domainRestoreFails d) |> detect powerBlock Src.powerRestoreFail

/-- The firmware sets up the reserved areas of GDDR6 again, as at boot, after a half has lost its contents (R375, R376): quarantine
records, late-carry buffers, the groom's windows, jobs that are loaded and the entries of rings are gone. The dictionary keeps
its values, and a job that runs goes on with what it still has (log entry 108). -/
def restoreAreas (s : State) : State :=
  let s := { s with
    gates := s.gates.map (fun (g : Nat × Gate) => (g.1, { g.2 with quarantine := [], quarNext := 0, ringUsed := [] })) }
  let s := s.stalls.foldl (fun s (p : Nat × Stall) => if p.2.late.isEmpty && p.2.queue.isEmpty then s else discardStallEvents p.1 s) s
  let s := (List.range 64).foldl (fun s j =>
    if s.rd (Obj.jobState j) < 4 && s.rd (Obj.jobState j) != 0 then
      s |> setJobState j 0 |> wr (Obj.jobAreaKib j) 0 |> updSlot j (fun _ => JobSlot.reset)
    else s) s
  let rings := (dedup (listedElems s.dict Obj.troughTail ++ listedElems s.dict Obj.troughHead ++ s.troughs.map (·.1))).filter
    (fun t => !inHostWindow (s.troughBase t))
  rings.foldl (fun s t => reconfigureTrough t s) (zeroRange 0 0x1CC800000 (emptyGroom s))

/-- The logic of d is ready. -/
def domainUp (d : Nat) (s : State) : State :=
  let s := if s.domState d == 1 && (d == 12 || d == 13) then restoreAreas s else s
  let s := if s.domState d == 5 && s.saveDamaged d then restoreFails d s else s
  s |> endTransition d 2 |> inc 32 (Obj.domainOnCount d) |> domainEnters d

/-- DOMAIN_PHASE_READY. In a forerunner start D1 skips the clock and memory phases (R453). -/
def domainPhaseReady (d : Nat) (s : State) : State :=
  if !(1 ≤ d && d < 54) || !(s.domState d == 1 || s.domState d == 5) then s
  else
    let ph := (s.domain d).phase
    let next := fun n (s : State) => updDomain d (fun x => { x with phase := n }) s
    if ph = 1 then
      (if s.supplyReady d then next (if d = 1 && s.rdZ Obj.powerStartMode == 1 && s.domState d == 1 then 4 else 2) s else s)
    else if ph = 2 then next 3 s
    else if ph = 3 then (if s.memoryReady d then next 4 s else s)
    else if ph = 4 then domainUp d s
    else s

/-- QUIESCE_DONE: the domain reports idle. -/
def quiesceDone (d : Nat) (s : State) : State :=
  if d < 54 && (s.domain d).phase == 5 then updDomain d (fun x => { x with phase := 6 }) s else s
/-- QUIESCE_TIMEOUT: POWER.QUIESCE_US has passed; the domain is isolated anyway (R448). -/
def quiesceTimeout (d : Nat) (s : State) : State :=
  if d < 54 && (s.domain d).phase == 5 then
    match s.dueAt ((s.domain d).since + s.rd Obj.powerQuiesceUs * 1000 * nsUnit) with
    | none => s
    | some s => s |> updDomain d (fun x => { x with phase := 6 }) |> detect powerBlock Src.powerQuiesceTimeout
  else s

/-- DOMAIN_SWITCHES_OPEN: SAVING ends in RET, FALLING in OFF. -/
def switchesOpen (d : Nat) (s : State) : State :=
  if 1 ≤ d && d < 54 && (s.domain d).phase == 6 then
    if s.domState d = 3 then s |> endTransition d 4 |> updPower (fun p => { p with saves := sput d true p.saves })
    else s |> endTransition d 0 |> domainOff d |> dropRails d
  else s

/-- A domain is blocked in a stable state until its target changes. -/
def block (d n : Nat) (s : State) : State :=
  let t := s.target d
  s |> endTransition d n |> wr (Obj.domainBlocked d) 1 |> updDomain d (fun x => { x with blockedTarget := t })

/-- SWITCH_FAIL: back to the stable state that the transition left. -/
def switchFail (d : Nat) (s : State) : State :=
  let ph := (s.domain d).phase
  if 1 ≤ d && d < 54 && (ph == 1 || ph == 6) then
    let st := s.domState d
    let low := (s.domain d).low
    let s := if st = 1 then s |> block d 0 |> dropRails d
      else if st = 5 then block d 4 s
      else if st = 6 && low then block d 4 s
      else s |> block d 2 |> domainEnters d
    detect powerBlock Src.powerSwitchFail s
  else s

/-- PGOOD_TIMEOUT of slot r: the domains whose supply phase waits for it return to OFF, blocked (R465). -/
def pgoodTimeout (r : Nat) (s : State) : State :=
  let waits := (List.range 54).filter (fun d => (s.domain d).phase == 1 && (s.domainRails d).contains r)
  match minBy (fun d => ((s.domain d).since : Int)) waits with
  | none => s
  | some d0 =>
    if bit s.power.pgood r then s
    else
      match s.dueAt ((s.domain d0).since + s.rd Obj.railPgoodTimeoutMs * 1000000 * nsUnit) with
      | none => s
      | some s =>
        let late := waits.filter (fun d => (s.domain d).since + s.rd Obj.railPgoodTimeoutMs * 1000000 * nsUnit ≤ s.now)
        let s := late.foldl (fun s d => s |> block d 0 |> domainOff d |> dropRails d) s
        detect powerBlock Src.powerPgoodTimeout s

/-! ### Wakes (R457, R458) -/

/-- One wake event on pin n. -/
def wakeEvent (n : Nat) (s : State) : State := s |> inc 32 Obj.powerWakes |> wr Obj.powerLastWake n

/-- Whether a signal on WAKE[n] is one that WAKE.MODE selects: levels (true) and edges (false). -/
def wakeSelects (mode : Nat) : WakeSignal → Option Bool
  | .high => if mode = 1 then some true else none
  | .low => if mode = 2 then some true else none
  | .rising => if mode = 3 then some false else none
  | .falling => if mode = 4 then some false else none

/-- WAKE_INPUT; the second answer says whether a wake event has come. -/
def wakeInput (n : Nat) (w : WakeSignal) (s : State) : Bool × State :=
  match (if n < 4 then wakeSelects (s.rdE Obj.wakeMode n) w else none) with
  | none => (false, s)
  | some true =>
    if bit s.power.wakeAsserted n then (false, s)
    else (true, s |> updPower (fun p => { p with wakeAsserted := setBit p.wakeAsserted n }) |> wakeEvent n)
  | some false =>
    if s.now < s.power.blindUntil then (false, s)
    else (true, s |> putBit Obj.wakeLatched n true |> wakeEvent n)

/-- WAKE_RELEASE: a level wake ends. -/
def wakeRelease (n : Nat) (s : State) : State := updPower (fun p => { p with wakeAsserted := clrBit p.wakeAsserted n }) s
/-- A write of WAKE.CLEAR. -/
def wakeClear (mask : Nat) (s : State) : State := wr Obj.wakeLatched (andNot (s.rd Obj.wakeLatched) (mask % 16)) s

/-- A write of POWER.SLEEP (R459): 1 retained, 2 deep. -/
def startSleep (v : Nat) (s : State) : Nat × Nat × State :=
  if v ≠ 1 ∧ v ≠ 2 then (Ab.valueRange, 0, s)
  else if s.scheduleActive then (Ab.blockRunning, 0, s)
  else if (List.range 4).all (fun n => s.rdE Obj.wakeMode n == 0) then (Ab.inconsistent, 0x600004, s)
  else (Ab.ok, 0, updPower (fun p => { p with sleep := v }) s)

end Sys2Proof.Machine
end

