-- ==== Sys2Proof/Machine/NetOps.lean ====
section
/-!
DEFINITION. Yard frames as they arrive (R431, R433 to R440), the loss of a partner (R437, R439), the links of the ports
(R426, R432, R441), and what the ports answer of themselves (R426, R427).
-/
namespace Sys2Proof.Machine

def updNet (f : Net → Net) (s : State) : State := { s with net := f s.net }

/-! ### The checks of R433 -/

/-- Whether the payload has the layout of its kind (R431). -/
def bodyFits (f : YardFrame) : Bool :=
  let n := f.payload.length
  if f.kind = 1 then n == 104
  else if f.kind = 2 then 16 ≤ n
  else if f.kind = 4 then n == 12 + 8 * leAt f.payload 4 4
  else if f.kind = 5 then n == 4 + 48 * leAt f.payload 0 2
  else if f.kind = 6 then n == 24 + 4 * leAt f.payload 16 4
  else true

/-- Whether magic, version, destination, payload length or kind of a frame is wrong (log entry 61). -/
def State.frameBad (s : State) (f : YardFrame) : Bool :=
  f.magic != 0x4659 || f.version != 1 || f.dst != s.rd Obj.nodeNumber || f.payloadLen != f.payload.length
    || !(1 ≤ f.kind && f.kind ≤ 6) || f.parts == 0 || f.parts ≤ f.part || !bodyFits f

/-- Whether sequence a precedes b; sequences wrap. -/
def seqBefore (a b : Nat) : Bool := a != b && (b + 2 ^ 32 - a % 2 ^ 32) % 2 ^ 32 < 2 ^ 31
/-- A sequence that was accepted already, or that precedes a full window of 1,024 accepted ones. -/
def Peer.repeated (p : Peer) (seq : Nat) : Bool :=
  p.seen.contains seq || (1024 ≤ p.seen.length && p.seen.all (fun x => seqBefore seq x))

def invalidFrame (s : State) : State := s |> inc 32 Obj.netInvalid |> detect (portBlock 0) Src.portFrameInvalid

/-- An accepted frame: a sign of life of its source. -/
def acceptFrame (f : YardFrame) (s : State) : State :=
  s |> inc 64 Obj.netFramesRx |> wrE Obj.netPeerState f.src 1
    |> updPeer f.src (fun p => { p with seen := (f.seq :: p.seen).take 1024, lastAt := s.now })

/-- A yard frame as it arrives at a port; what an accepted frame of kind n does is `use`. A frame of another kind is the
business of that kind's command; one of a reserved kind is dropped whichever command brings it. -/
def receiveFrame (n : Nat) (f : YardFrame) (use : State → State) (s : State) : State :=
  if !s.portUp f.port || (f.kind != n && 1 ≤ f.kind && f.kind ≤ 6) then s
  else
    let s := frameIn f.port s
    if s.frameBad f then invalidFrame s
    else if f.src = s.rd Obj.nodeNumber then detect (portBlock 0) Src.portNodeConflict s
    else if !s.partners.contains f.src then invalidFrame s
    else if (s.peer f.src).repeated f.seq then inc 64 Obj.netDuplicates s
    else use (acceptFrame f s)

/-! ### Sets (R434) -/

/-- What tells sets of one kind, step and sender apart: a HALO set by group, side and stalls, a RECORDS set by layer and
stall. -/
def setTag (kind : Nat) (payload : List Byte) : List Byte :=
  if kind = 2 then slice payload 0 5 else if kind = 4 then slice payload 0 3 else []
def RxSet.holds (x : RxSet) (f : YardFrame) : Bool :=
  x.kind == f.kind && x.src == f.src && x.step == f.step && x.parts == f.parts
    && x.tag == setTag f.kind f.payload
def RxSet.complete (x : RxSet) : Bool := (List.range x.parts).all (fun i => x.got.any (fun p => p.1 == i))
/-- The payloads of a set in the order of their parts. -/
def RxSet.payloads (x : RxSet) : List (List Byte) :=
  (List.range x.parts).map (fun i => ((x.got.find? (fun p => p.1 == i)).map (·.2)).getD [])

/-- Add a frame to its set; the set once it is complete, which then leaves the list. -/
def collect (f : YardFrame) (s : State) : Option (List (List Byte)) × State :=
  let old := (s.net.sets.find? (·.holds f)).getD ⟨f.kind, f.src, f.step, f.parts, setTag f.kind f.payload, []⟩
  let new : RxSet := { old with got := old.got.filter (fun p => p.1 != f.part) ++ [(f.part, f.payload)] }
  let rest := s.net.sets.filter (fun x => !x.holds f)
  if new.complete then (some new.payloads, updNet (fun n => { n with sets := rest }) s)
  else (none, updNet (fun n => { n with sets := rest ++ [new] }) s)

/-- What a frame of a set does: nothing until the set is complete. -/
def withSet (f : YardFrame) (use : List (List Byte) → State → State) (s : State) : State :=
  match collect f s with
  | (none, s) => s
  | (some ps, s) => use ps s

/-! ### HEARTBEAT (R435, R436) -/

def parseBeat (f : YardFrame) : Heartbeat :=
  let b := f.payload
  { role := leAt b 0 1, jobState := leAt b 1 1, leaves := ((slice b 52 32).take (leAt b 2 1)).map (·.toNat),
    digest := slice b 20 32, periodUs := leAt b 84 4, t0Sec := leAt b 88 8, t0Ns := leAt b 96 4, remapStep := leAt b 4 8,
    deliveredStep := leAt b 12 8, leadYard := f.leadYard, memberYard := f.memberYard }

def Heartbeat.same (a b : Heartbeat) : Bool := a.role == b.role && a.leadYard == b.leadYard && a.memberYard == b.memberYard

/-- The running jobs whose yard reaches record m of device n. -/
def State.jobsWith (s : State) (n m : Nat) : List Nat :=
  s.runningSlots.filter (fun j => (remoteMembers s.dict (s.jobYard j)).contains (n, m))

/-- The lead's view of a remote member after its HEARTBEAT: it fails where R170 no longer holds, and leaves that it no
longer reports fail; leaves that it reports anew come in at the re-map (R436). -/
def noteBeat (n m : Nat) (old : Option Heartbeat) (new : Heartbeat) (s : State) : State :=
  (s.jobsWith n m).foldl (fun s j =>
    let y := s.yard (s.jobYard j)
    if y.failedMembers.contains (n * 256 + m) then s
    else if !s.serves j n m then failRemote j n m s.nowUs s
    else
      match old with
      | none => s
      | some o =>
        let gone := (o.leaves.filter (fun l => !new.leaves.contains l)).map (leafCode n)
        let back := (new.leaves.map (leafCode n)).filter y.failed.contains
        if gone.any y.cut.contains then failLeaves j gone s.nowUs back s
        else if o.leaves != new.leaves then scheduleRemap j s.nowUs 8 back [] s
        else s) s

def takeBeat (f : YardFrame) (s : State) : State :=
  let h := parseBeat f
  let old := (s.peer f.src).beats.find? (·.same h)
  let s := updPeer f.src (fun p => { p with beats := h :: p.beats.filter (fun x => !x.same h) }) s
  if h.role = 0 then noteBeat f.src h.memberYard old h s else s


/-! ### HALO (R189, R225, R434) -/

/-- The rows of a HALO set: stacked row and bytes. -/
def haloRowsOf (ps : List (List Byte)) : List (Nat × List Byte) :=
  ps.flatMap (fun b =>
    let first := leAt b 8 4
    let rows := leAt b 12 4
    let size := (b.length - 16) / max 1 rows
    (List.range rows).map (fun i => (first + i, slice b (16 + i * size) size)))

/-- The time since the job epoch that a record's 28 low bits stand for, near `base`. -/
def nearTime (base t : Nat) : Nat := ((base : Int) + toSigned 28 (ofSigned 28 ((t : Int) - (base : Int)))).toNat
/-- The spikes of a row in the slot layout of R225. -/
def rowSpikesOf (n k base : Nat) (b : List Byte) : List Spike :=
  (List.range (leAt b 0 2)).map (fun i =>
    let w := leAt b (8 + 8 * i) 8
    ⟨n, k, field w 55 50, field w 38 28, field w 49 39, field w 63 56, nearTime base (field w 27 0)⟩)

/-- The slot that the rows of layer n fill for consumer f. -/
def State.slotOf (s : State) (f : Leaf) (n k p : Nat) (rows : List (Nat × List Byte)) : HaloSlot :=
  let l := f.img.layer n
  if isSpike l && bit (lyFlags l) 0 then ⟨n, f.i, p, k, [], rows.flatMap (fun r => rowSpikesOf n k (s.relUs f k) r.2), []⟩
  else ⟨n, f.i, p, k, rows.flatMap (fun r => rowCells n k r.1 (lyOut l) (lyW l) r.2), [], []⟩

/-- The layer whose rows a set of group g carries from producer p to leaf f: the first that the group reads, that passes
rows between the two, and whose slot of the step is still to come. -/
def State.haloSource (s : State) (f : Leaf) (g k p : Nat) : Option Nat :=
  (List.range f.img.layers.length).find? (fun n =>
    !(f.img.rowReaders n).isEmpty && f.img.readerGroup n == g && !(f.img.passed (s.cutOf f k) f.gates.length n p f.i).isEmpty
      && !s.halos.any (fun h => h.layer == n && h.consumer == f.i && h.producer == p && h.step == k)
      && !(s.stall f.i).halosIn.contains (n, k, p))

/-- A complete HALO set: the slot is tagged once the rows of both sides are there. One of a step that is DONE comes too late. -/
def takeHalo (f : YardFrame) (ps : List (List Byte)) (s : State) : State :=
  let b := f.payload
  match if s.openStep < f.step || (s.step? f.step).isSome then s.leafOf (leAt b 4 1) else none with
  | none => s
  | some lf =>
    let p := leafCode f.src (leAt b 3 1)
    match s.haloSource lf (leAt b 0 2) f.step p with
    | none => s
    | some n =>
      let key := (lf.i, p, n, f.step)
      let rows := (s.net.halves.filter (fun x => x.1 == key)).flatMap (·.2) ++ haloRowsOf ps
      let need := lf.img.passed (s.cutOf lf f.step) lf.gates.length n p lf.i
      let rest := s.net.halves.filter (fun x => x.1 != key)
      if need.all (fun r => rows.any (fun x => x.1 == r)) then
        { s with
          halos := s.halos ++ [s.slotOf lf n f.step p (rows.filter (fun x => need.contains x.1))]
          net := { s.net with halves := rest } }
      else updNet (fun x => { x with halves := rest ++ [(key, rows)] }) s

/-! ### DELIVERY and RECORDS (R195, R304, R434) -/

/-- The box of a 32-byte record. The cell it came from is not in the record: its place in the sender's list, which R258 orders
by cell, stands for it. -/
def parseBox (place : Nat) (b : List Byte) : Box :=
  let i := fun o => toSigned 32 (leAt b o 4)
  ⟨i 0, i 4, i 8, i 12, i 16, i 20, leAt b 24 1, leAt b 25 1, toSigned 8 (leAt b 26 1), bit (leAt b 27 1) 0, leAt b 28 2, place, 0⟩

/-- The sections of a DELIVERY: layer and boxes. `fuel` is the number of sections. -/
def deliverySections : Nat → List Byte → List (Nat × List Box)
  | 0, _ => []
  | fuel + 1, b =>
    let n := leAt b 2 2
    (leAt b 0 2, (List.range n).map (fun i => parseBox i (slice b (4 + 32 * i) 32))) :: deliverySections fuel (b.drop (4 + 32 * n))

/-- One leaf of the serving device in step k: delivered, or missing there. -/
def deliverLeaf (k lost leaf : Nat) (s : State) : State :=
  match s.step? k with
  | none => s
  | some r =>
    if !r.awaits leaf then s
    else if bit lost (leaf % 256) then markMissing k leaf s
    else updStep k (fun r => { r with delivered := r.delivered ++ [leaf] }) s

/-- A complete DELIVERY set: the member's leaves deliver the step, its lists and its covered gates are taken. A member that the
step waits for no more, as it has failed or its compute limit has passed, delivers nothing (R170, R194). A member all of whose
leaves are missing counts a miss; each other delivery ends its run of misses. -/
def takeDelivery (f : YardFrame) (ps : List (List Byte)) (s : State) : State :=
  let b := ps.flatten
  let k := f.step
  (s.jobsWith f.src f.memberYard).foldl (fun s j =>
    let ls := (s.jobCut j k).filter (s.ofMember (s.jobYard j) f.src f.memberYard)
    match s.step? k with
    | none => s
    | some r =>
      if !ls.any r.awaits then s
      else
        let boxes := (deliverySections (leAt b 12 2) (b.drop 16)).map (fun x => (f.src, f.memberYard, k, x.1, x.2))
        let s := updNet (fun n => { n with
          boxesGot := n.boxesGot.filter (fun x => !(x.1 == f.src && x.2.1 == f.memberYard && x.2.2.1 == k)) ++ boxes }) s
        let s := updPeer f.src (fun p => { p with
          covered := p.covered.filter (fun c => !(c.1 == f.memberYard && c.2.1 == k)) ++ [(f.memberYard, k, leAt b 0 8)] }) s
        let s := ls.foldl (fun s l => deliverLeaf k (leAt b 8 4) l s) s
        if ls.all (fun l => bit (leAt b 8 4) (l % 256)) then
          noteMemberMiss j f.src f.memberYard k (s.boundaryUs (k + slOf r.cfg + 1)) s
        else clearMiss j (memberKey (f.src, f.memberYard)) s) s

/-- A complete RECORDS set: the records of one leaf and layer. -/
def takeRecords (f : YardFrame) (ps : List (List Byte)) (s : State) : State :=
  let h := ps.headD []
  let rs := ps.flatMap (fun b => (List.range (leAt b 4 4)).map (fun i => BitVec.ofNat 64 (leAt b (12 + 8 * i) 8)))
  if (s.step? f.step).isSome && !(s.jobsWith f.src f.memberYard).isEmpty then
    updNet (fun n => { n with recordsGot := n.recordsGot ++ [⟨f.src, f.step, leAt h 0 2, leAt h 2 1, leAt h 8 4, rs⟩] }) s
  else s

/-! ### TRACKS and REMAP (R438, R440) -/

/-- A complete TRACKS set replaces the table, unless it is older than the set there of the same lead. -/
def takeTracks (f : YardFrame) (ps : List (List Byte)) (s : State) : State :=
  if s.rd Obj.netTrackFrom = f.src && f.step < s.rd Obj.netTrackStep then s
  else s |> wrB Obj.netTrackTable (ps.flatMap (fun b => b.drop 4)) |> wr Obj.netTrackFrom f.src |> wr Obj.netTrackStep f.step

/-- A complete REMAP set from a lead that this device serves; one that completes after B_{j−1} counts no more (R438). -/
def takeRemap (f : YardFrame) (ps : List (List Byte)) (s : State) : State :=
  let words := ps.flatMap (fun b => (List.range (leAt b 16 4)).map (fun i => (leAt b 12 4 + i, leAt b (24 + 4 * i) 4)))
  let m := leAt (ps.headD []) 8 4
  let list := (List.range m).filterMap (fun i => (words.find? (fun w => w.1 == i)).map (·.2))
  if list.length = m && s.openStep < f.step && s.now ≤ s.boundary (f.step - 1) then
    updNet (fun n => { n with remaps := n.remaps.filter (fun r => !(r.1 == f.step && r.2.1 == f.src)) ++ [(f.step, f.src, list)] }) s
  else s

/-- Whether device n is the lead of a running job's yard. -/
def State.leadOf (s : State) (n : Nat) : List Nat := s.runningSlots.filter (fun j => s.rd (Obj.yardLead (s.jobYard j)) == n)

/-- The apply steps that lead n has announced, by HEARTBEAT or by a set of which frames have come. -/
def State.announced (s : State) (n y : Nat) : List Nat :=
  (match (s.peer n).leading y with | some h => if h.remapStep = 0 then [] else [h.remapStep] | none => [])
    ++ (s.net.sets.filter (fun x => x.kind == 6 && x.src == n)).map (·.step)

/-- REMAP_DEADLINE: at B_{j−1} a serving device that holds no complete REMAP set for step j ends its serving at j. -/
def remapDeadline (s : State) : State :=
  let late := s.runningSlots.flatMap (fun j =>
    let y := s.jobYard j
    let lead := s.rd (Obj.yardLead y)
    if lead < 4096 && (s.yard y).serveEnd.isNone then
      ((s.announced lead y).filter (fun k => s.openStep < k && !s.net.remaps.any (fun r => r.1 == k && r.2.1 == lead))).map (fun k => (y, k))
    else [])
  match minBy (fun x => (x.2 : Int)) late with
  | none => s
  | some (_, k) =>
    match s.dueAt (s.boundary (k - 1)) with
    | none => s
    | some s =>
      let ys := (late.filter (fun x => x.2 == k)).map (·.1)
      let s := ys.foldl (fun s y => updYard y (fun yd => { yd with serveEnd := some k }) s) s
      detect (portBlock 0) Src.portRemapIncomplete s

/-! ### Frames by kind -/

def heartbeatRx (f : YardFrame) (s : State) : State := receiveFrame 1 f (takeBeat f) s
def haloRx (f : YardFrame) (s : State) : State := receiveFrame 2 f (withSet f (takeHalo f)) s
def deliveryRx (f : YardFrame) (s : State) : State := receiveFrame 3 f (withSet f (takeDelivery f)) s
def recordsRx (f : YardFrame) (s : State) : State := receiveFrame 4 f (withSet f (takeRecords f)) s
def tracksRx (f : YardFrame) (s : State) : State := receiveFrame 5 f (withSet f (takeTracks f)) s
def remapRx (f : YardFrame) (s : State) : State :=
  receiveFrame 6 f (fun s => if (s.leadOf f.src).isEmpty then s else withSet f (takeRemap f) s) s

/-! ### Losing a partner (R437, R439) -/

/-- PEER_LOST: at boundary B_k no frame of the partner was accepted during [B_{k−L}, B_k). -/
def peerLost (n : Nat) (s : State) : State :=
  let k := s.openStep
  if s.partners.contains n && s.rdE Obj.netPeerState n != 2 && s.rd Obj.netLostSteps ≤ k && s.boundary k ≤ s.now
      && (s.peer n).lastAt < s.boundary (k - s.rd Obj.netLostSteps) then
    let s := s |> wrE Obj.netPeerState n 2 |> inc 32 Obj.netLosses |> detect (portBlock 0) Src.portPeerLost
    s.runningSlots.foldl (fun s j =>
      ((remoteMembers s.dict (s.jobYard j)).filter (fun m => m.1 == n)).foldl (fun s m => failRemote j m.1 m.2 (s.boundaryUs k) s) s) s
  else s

/-! ### Links and plain frames (R426, R427) -/

def portLinkUp (p : Nat) (s : State) : State :=
  if p < 2 && s.isOn 3 && s.rdE Obj.portMode p != 0 then wrE Obj.portLink p 1 s else s
def portLinkDown (p : Nat) (s : State) : State :=
  if s.portUp p then s |> wrE Obj.portLink p 0 |> detect (portBlock p) Src.portLinkDown else s

/-- BLOCK_RESET of port p: its frames are dropped, its counters cleared, and its link trains again (R441, R44). -/
def resetPort (p : Nat) (s : State) : State :=
  [Obj.portLink, Obj.portRxFrames, Obj.portTxFrames, Obj.portRxErrors, Obj.portRxDropped].foldl (fun s a => wrE a p 0 s) s

/-- FRAME_ERROR_RX. -/
def frameErrorRx (p : Nat) (why : FrameError) (s : State) : State :=
  if !s.portUp p then s
  else
    match why with
    | .noBuffer => s |> incE 32 Obj.portRxDropped p |> detect (portBlock p) Src.portRxOverflow
    | _ => s |> incE 32 Obj.portRxErrors p |> detect (portBlock p) Src.portRxError

/-- UNWANTED_FRAME: a frame for another address is dropped without being counted. -/
def unwantedFrame (p : Nat) (why : Unwanted) (s : State) : State :=
  if !s.portUp p then s
  else
    match why with
    | .notForPort => s
    | _ => incE 32 Obj.portRxDropped p s

/-- Send an answer of port p itself. -/
def answer (kind p addr : Nat) (b : List Byte) (s : State) : State := s |> emit (.net kind p addr b) |> incE 64 Obj.portTxFrames p

/-- The MAC address of port p, most significant byte first. -/
def State.macBytes (s : State) (p : Nat) : List Byte := beBytes 6 (s.rdE Obj.portMac p % 2 ^ 48)
/-- The link-local address that PORT.MAC gives as EUI-64. -/
def State.linkLocal (s : State) (p : Nat) : Nat :=
  let m := s.rdE Obj.portMac p % 2 ^ 48
  0xFE80 * 2 ^ 112 + (m / 2 ^ 24 * 2 ^ 40 + 0xFFFE * 2 ^ 24 + m % 2 ^ 24 ^^^ 2 ^ 57)
/-- Whether an IPv6 address is the port's own. -/
def State.ownV6 (s : State) (p a : Nat) : Bool :=
  a != 0 && (a == s.portBytes16 Obj.portIpv6 p || a == s.linkLocal p)

/-- ARP_REQUEST for an IPv4 address. -/
def arpRequest (p target : Nat) (s : State) : State :=
  if !s.portUp p then s
  else
    let s := frameIn p s
    if target != 0 && target == s.rdE Obj.portIpv4 p then answer 1 p target (s.macBytes p) s else s

/-- ICMP_ECHO_REQUEST. -/
def icmpEcho (p : Nat) (v6 : Bool) (target source : Nat) (data : List Byte) (s : State) : State :=
  if !s.portUp p then s
  else
    let s := frameIn p s
    if v6 then
      if s.ownV6 p target && (source / 2 ^ 118 == 0x3FA || s.reaches p source) then answer 3 p source data s else s
    else if target != 0 && target == s.rdE Obj.portIpv4 p && s.reaches p (mappedPrefix * 2 ^ 32 + source) then answer 2 p source data s
    else s

/-- NEIGHBOUR_SOLICITATION. -/
def neighbourSolicitation (p target : Nat) (s : State) : State :=
  if !s.portUp p then s
  else
    let s := frameIn p s
    if s.ownV6 p target then answer 4 p target (s.macBytes p) s else s

end Sys2Proof.Machine
end

