-- ==== Sys2Proof/Machine/FaultOps.lean ====
section
/-!
DEFINITION. The writable objects of a fault record (R472, R476, R477, FAULT.CLEAR_COUNTS) and muck-out: passes, slices,
results, marks and releases (R483 to R493).
-/
namespace Sys2Proof.Machine

/-! ### Clearing and forcing (R472, R476, R477) -/

/-- Whether the condition of a source is a state that lasts now (R472): a silent gate, lost safety coverage, a half of memory
whose training has failed, a managed rail that is not good. Conditions that last at a GRAVE source never meet a clear. -/
def State.lasting (s : State) (b i : Nat) : Bool :=
  if b < 36 then (i == Src.gateSilent && s.silent b) || (i == Src.gateSafetyCoverage && s.coverageLost b)
  else if i = Src.memTrainingFail && (b = halfBlock 0 || b = halfBlock 1) then
    let h := if b = halfBlock 0 then 0 else 1
    s.memctl.trained.getD h false && s.memctl.rates.getD h 0 == 0
  else b == powerBlock && i == Src.powerPgoodLost
    && [1, 2, 3].any (fun r => s.rdE Obj.railAddress r != 0 && s.rdE Obj.railOn r == 1 && !bit s.power.pgood r)

/-- Whether source i of block b is forced. -/
def State.forcedSource (s : State) (b i : Nat) : Bool := bit (s.rd (Obj.faultForce b)) i

/-- A write of a mask to FAULT.CLEAR of block b. -/
def faultClear (b mask : Nat) (s : State) : Nat × State :=
  let st := s.rd (Obj.faultSticky b)
  if 93 ≤ b then (Ab.unknownObject, s)
  else if st &&& mask &&& faultGrave b ≠ 0 then (Ab.valueRange, s)
  else
    let gone := bitsOf 32 (st &&& mask)
    let s := s |> wr (Obj.faultSticky b) (andNot st mask) |> unkeepPins b (st &&& mask)
    (Ab.ok, gone.foldl (fun s i => detectIf (s.forcedSource b i || s.lasting b i) b i s) s)

/-- A write of FAULT.FORCE of block b. -/
def faultForce (b mask : Nat) (s : State) : Nat × State :=
  if 93 ≤ b then (Ab.unknownObject, s)
  else if !s.isOn (blockDomain b) then (Ab.domainOff, s)
  else
    let old := s.rd (Obj.faultForce b)
    let new := mask &&& faultPresent b
    let s := wr (Obj.faultForce b) new s
    (Ab.ok, (bitsOf 32 (andNot new old)).foldl (fun s i => detect b i s) s)

/-- A write of 1 to FAULT.CLEAR_COUNTS of block b. -/
def faultClearCounts (b : Nat) (s : State) : State :=
  if 93 ≤ b then s
  else
    let s := [Obj.faultCount b, Obj.faultFirstStep b, Obj.faultLastStep b, Obj.faultLastTime b].foldl (fun s a => wr a 0 s) s
    s |> clearObj (Obj.faultSourceCount b) 32 |> wr (Obj.faultFirstSource b) 0xFF |> wr (Obj.faultLastSource b) 0xFF

/-! ### Slices of a unit (R483) -/

def muckSlices (u : Nat) : Nat := [2048, 256, 64, 128, 64, 64, 32, 0].getD (muckKind u) 0
/-- How many sections a unit of a kind has (R483, R484). -/
def muckSections (kind : Nat) : Nat := [76, 4, 2, 5, 3, 3, 1].getD kind 1
/-- The section of slice n: the slices fall to the sections in ascending order. -/
def sectionFrom (kind : Nat) : Nat → Nat → Nat → Nat
  | 0, i, _ => i
  | left + 1, i, n =>
    let len := Config.sectionSlices kind i
    if n < len then i else sectionFrom kind left (i + 1) (n - len)
def muckSection (kind n : Nat) : Nat := sectionFrom kind (muckSections kind - 1) 0 n
/-- Length of a slice in µs. -/
def muckSliceUs (u : Nat) : Nat := [20, 1, 10, 20, 10, 10, 2, 0].getD (muckKind u) 0
/-- Whether a stall has job work queued: blocks, late events, halos, or a step whose ingress has closed and that it has not
finished. -/
def State.stallWork (s : State) (i : Nat) : Bool :=
  !(s.stall i).queue.isEmpty || !(s.stall i).late.isEmpty || s.halos.any (fun h => h.consumer == i)
    || (match s.leafOf i with
        | some f => s.steps.any (fun r => r.phase == .computing && s.inRun f.j r.k && r.awaits i && !s.leafFinished f r.k)
        | none => false)

/-- Whether a unit is idle. A loft bank serves its requests within the commands that make them. -/
def State.unitIdle (s : State) (u : Nat) : Bool :=
  match muckKind u with
  | 0 => !s.stallWork u
  | 1 => (s.gate (u - 32)).fifo.isEmpty
  | 2 => true
  | 3 => s.paddock.fusion.isNone
  | 4 => !s.groom.estimated && s.chains.all (fun c => c.2.inbox.isEmpty)
  | 5 => (List.range 32).all (fun c => s.chanState (32 * (u - 78) + c) != 1 && s.chanState (32 * (u - 78) + c) != 2)
  | 6 => s.troughs.all (fun t => t.2.sets.isEmpty)
  | _ => false

def State.marked (s : State) (u : Nat) : Bool := u < 32 && bit (s.rd Obj.muckOutOfService) u
/-- Whether slices may run on a unit by its settings. -/
def State.muckAllowed (s : State) (u : Nat) : Bool :=
  muckKind u != 7 && s.isOn 1 && s.rd Obj.muckEnable == 1 && s.rdE Obj.muckExclude u == 0

/-! ### Results (R493) -/

/-- Write a MUCK_RESULT entry about a unit: outcome, section, slice, expected and observed signature. -/
def muckResult (u outcome sect sl expected observed : Nat) (s : State) : State :=
  let t := s.rd Obj.muckTrough
  if t = 0xFFFF then s
  else
    let m := s.muckUnit u
    let body := leBytes 1 (muckKind u) ++ leBytes 1 (muckNumber u) ++ leBytes 1 outcome
      ++ leBytes 1 (boolNat (s.marked u) + 2 * boolNat m.requested) ++ leBytes 2 sect ++ leBytes 2 sl ++ leBytes 4 m.passNo
      ++ leBytes 4 expected ++ leBytes 4 observed ++ leBytes 4 (satTo 32 m.preempted) ++ leBytes 8 s.openStep
      ++ leBytes 4 (satTo 32 ((s.now - m.startedAt) / (1000000 * nsUnit)))
    match writeSet t 5 [(0x13, body)] s with
    | (true, s) => s
    | (false, s) => s |> inc 32 Obj.muckResultsDropped |> detect muckBlock Src.muckResultDropped

/-! ### Passes (R488) -/

/-- A pass of unit u begins. -/
def beginPass (u : Nat) (requested releasing : Bool) (s : State) : State :=
  let n := s.rdE Obj.muckPasses u
  updMuck u (fun m => { m with
    active := true, startedAt := s.now, everRan := true, requested := requested, releasing := releasing, queued := false,
    failed := [], retry := none, preempted := 0, late := false, passNo := n }) s

/-- MUCK_PASS_START: the period has run out, or a pass is queued; a pass that has not ended by then is late, once, whatever has
kept its slices from running. -/
def muckPassStart (u : Nat) (s : State) : State :=
  let m := s.muckUnit u
  if muckKind u = 7 || !s.isOn 1 || s.marked u || (m.active && m.late) then s
  else if !m.active && !s.muckAllowed u then s
  else if !m.active && m.queued then beginPass u true false s
  else if !m.active && !m.everRan then beginPass u false false s
  else
    match s.dueAt (m.startedAt + s.rd Obj.muckPassPeriod * 10 ^ 9 * nsUnit) with
    | none => s
    | some s =>
      if m.active then
        s |> updMuck u (fun m => { m with late := true }) |> inc 32 Obj.muckLatePasses |> detect muckBlock Src.muckCoverageLate
      else beginPass u false false s

/-- A write of MUCK.REQUEST (R488). -/
def muckRequest (u : Nat) (s : State) : Nat × State :=
  if muckKind u = 7 then (Ab.valueRange, s) else (Ab.ok, updMuck u (fun m => { m with queued := true }) s)

/-- A write of MUCK.RELEASE (R491). -/
def muckRelease (i : Nat) (s : State) : Nat × State :=
  if 32 ≤ i then (Ab.valueRange, s)
  else if !s.isOn (stallDomain i) then (Ab.domainOff, s)
  else if !s.marked i then (Ab.valueRange, s)
  else (Ab.ok, s |> wrE Obj.muckPosition i 0 |> beginPass i true true)

/-! ### Slices (R485 to R490) -/

/-- The slice that a unit runs next: one that failed and is repeated goes first. -/
def State.nextSlice (s : State) (u : Nat) : Nat := ((s.muckUnit u).retry).getD (s.rdE Obj.muckPosition u)

/-- Slices that run now. -/
def State.muckRunning (s : State) : Nat := (s.muck.filter (fun m => m.2.running)).length

/-- SLICE_START. -/
def sliceStart (u : Nat) (s : State) : State :=
  let m := s.muckUnit u
  if s.muckAllowed u && m.active && !m.running && s.muckRunning < 8 && s.unitIdle u && s.isOn (muckDomain u)
      && s.target (muckDomain u) == 2 && (!s.marked u || m.releasing) then
    let s := updMuck u (fun m => { m with running := true, sliceAt := s.now }) s
    { s with power := { s.power with muckVotes := s.power.muckVotes ++ [muckDomain u] } }
  else s

/-- Whether the cause of a pre-emption holds for unit u (R486, the note on MUCK.ENABLE). -/
def State.preempts (s : State) (u : Nat) : PreemptCause → Bool
  | .work => !s.unitIdle u || muckKind u == 2 || muckKind u == 4 || muckKind u == 6
  | .votesWithdrawn => targetOf (s.otherVotes s.voteCtx (muckDomain u)) != 2
  | .throttle => u < 32 && (s.stall u).throttled.isSome
  | .disabled => !s.muckAllowed u

/-- SLICE_PREEMPT: the slice is given up and repeated later. -/
def slicePreempt (u : Nat) (why : PreemptCause) (s : State) : State :=
  if (s.muckUnit u).running && s.preempts u why then
    let s := endSlice u s
    if why = .disabled then s
    else s |> inc 64 Obj.muckPreemptions |> updMuck u (fun m => { m with preempted := m.preempted + 1 })
  else s

/-- A pass of unit u has run its last slice. -/
def endPass (u : Nat) (s : State) : State :=
  let rel := (s.muckUnit u).releasing
  let s := s |> incE 32 Obj.muckPasses u |> wrE Obj.muckPosition u 0 |> muckResult u 0 0xFFFF 0xFFFF 0 0
  let s := if rel then s |> putBit Obj.muckOutOfService u false |> muckResult u 4 0xFFFF 0xFFFF 0 0 else s
  updMuck u (fun m => { m with active := false, releasing := false, requested := false, failed := [], retry := none }) s

/-- A slice has its result and the pass moves on behind it. -/
def nextOfPass (u sl : Nat) (s : State) : State :=
  let s := s |> wrE Obj.muckPosition u (sl + 1) |> updMuck u (fun m => { m with retry := none })
  if muckSlices u ≤ sl + 1 then endPass u s else s

/-- A failure is confirmed: a stall is marked and fails in its yard, any other unit goes on (R490). -/
def confirmFail (u : Nat) (s : State) : State :=
  if u < 32 then
    let s := putBit Obj.muckOutOfService u true s
    s |> failStall u |> detect (stallBlock u) Src.stallOutOfService |> detect muckBlock Src.muckStallMarked
  else detect muckBlock Src.muckUnitFail s

/-- A slice of unit u has failed. -/
def sliceFailed (u sl expected observed : Nat) (s : State) : State :=
  let m := s.muckUnit u
  let sect := muckSection (muckKind u) sl
  if m.releasing then
    s |> wrE Obj.muckPosition u 0 |> muckResult u 5 sect sl expected observed
      |> updMuck u (fun m => { m with active := false, releasing := false, requested := false, failed := [], retry := none })
  else if m.failed.contains sl then
    let s := s |> confirmFail u |> muckResult u 2 sect sl expected observed
    if u < 32 then s |> updMuck u (fun m => { m with active := false, requested := false, failed := [], retry := none })
    else nextOfPass u sl s
  else
    s |> updMuck u (fun m => { m with failed := m.failed ++ [sl], retry := some sl }) |> muckResult u 1 sect sl expected observed

/-- SLICE_END: the slice has run for its length with the signature `observed`. -/
def sliceEnd (u observed : Nat) (s : State) : State :=
  let m := s.muckUnit u
  if m.running then
    match s.dueAt (m.sliceAt + muckSliceUs u * 1000 * nsUnit) with
    | none => s
    | some s =>
      let sl := s.nextSlice u
      let expected := (Config.muckExpected (muckKind u) sl).toNat
      let seen := observed % 2 ^ 32
      let s := endSlice u s
      if seen != expected then sliceFailed u sl expected seen s
      else
        let s := if m.retry.isSome then
            s |> inc 32 Obj.muckTransients |> muckResult u 3 (muckSection (muckKind u) sl) sl expected seen
          else s
        nextOfPass u sl s
  else s

/-! ### BLOCK_RESET of muck-out (R492) -/

/-- The slice with which the section of slice n begins. -/
def sectionStart (kind n : Nat) : Nat :=
  ((List.range (n + 1)).find? (fun i => muckSection kind i == muckSection kind n)).getD n

def resetMuck (s : State) : State :=
  let s := s.muck.foldl (fun s m => if m.2.running then endSlice m.1 s else s) s
  let s := s.muck.foldl (fun s m => s |> wrE Obj.muckPosition m.1 (sectionStart (muckKind m.1) (s.nextSlice m.1))
    |> updMuck m.1 (fun m => { m with retry := none })) s
  [Obj.muckPreemptions, Obj.muckTransients, Obj.muckLatePasses, Obj.muckResultsDropped].foldl (fun s a => wr a 0 s)
    (clearObj Obj.muckPasses 100 s)

end Sys2Proof.Machine
end

