-- ==== Sys2Proof/Machine/ViewOps.lean ====
section
/-!
DEFINITION. What a read of the dictionary shows (R40, R45, R47): the objects that the device computes on a read, the byte
forms of values in messages and in memory (R36), and the check of a written value against its object (R37, R39, R535).
-/
namespace Sys2Proof.Machine

/-! ### Objects computed on a read -/

def State.objDomains (s : State) (n : Nat) : Nat := maskOf ((List.range 54).filter (fun d => s.domState d == n))

/-- Objects of the units that the device computes; `o` is the owner code of the reader. -/
def State.viewScalar (s : State) (o addr : Nat) : Option Nat :=
  let b := s.bale o
  if addr = Obj.baleStaged then some b.staged.length
  else if addr = Obj.baleBytes then some b.bytes
  else if addr = Obj.baleApplyStep then some b.applyStep
  else if addr = Obj.baleLastAbort then some b.lastAbort
  else if addr = Obj.baleLastDetail then some b.lastDetail
  else if addr = Obj.baleWaiting then some s.sdp.waiting.length
  else if addr = Obj.sdpSessionsOpen then some s.sdp.sessions.length
  else if addr = Obj.paddockState then some (boolNat (s.rd Obj.paddockRun == 1 || s.fusePending))
  else if addr = Obj.timeNowSec then some (s.nowNs / 1000000000)
  else if addr = Obj.timeScheduleActive then some (boolNat s.scheduleActive)
  else if addr = Obj.powerOnMask then some (s.objDomains 2)
  else if addr = Obj.powerRetMask then some (s.objDomains 4)
  else none

/-- Objects of numbered units that the device computes. -/
def State.viewUnit (s : State) (addr : Nat) : Option Nat :=
  let i := addr / 256
  if 0x3000 ≤ i && i < 0x3100 then
    let y := i - 0x3000
    if addr = Obj.yardActive y then some (s.yardActive y)
    else if addr = Obj.yardFailed y then some (s.yardFailed y)
    else if addr = Obj.yardLeaves y then some (s.activeLeaves y).length
    else none
  else if 0x3100 ≤ i && i < 0x3120 then
    let n := i - 0x3100
    if addr = Obj.stallState n then some (s.stallState n)
    else if addr = Obj.stallJob n then some (s.stallJob n)
    else none
  else if 0x6040 ≤ i && i < 0x6076 then
    let d := i - 0x6040
    if addr = Obj.domainVotes d then some (if d = 0 then 0 else s.votes d)
    else if addr = Obj.domainTarget d then some (s.target d)
    else if addr = Obj.domainState d then some (s.domState d)
    else if d = 0 && (addr = Obj.domainVoteHost 0 || addr = Obj.domainVoteNet 0) then some 2
    else none
  else if 0x7000 ≤ i && i < 0x705D then
    let b := i - 0x7000
    if addr = Obj.faultPinned b then some (s.pinned b)
    else if addr = Obj.faultFlags b then some (s.rd (Obj.faultFlags b) + boolNat (!s.isOn (blockDomain b)))
    else none
  else none

/-- The configuration items of R503 and R506 by address: every RWB object that differs from its default. -/
def isRwb (addr : Nat) : Bool :=
  match findObj addr with
  | .found o => o.acc == .rwb
  | _ => false
def changedObjects (d : Store) : List Nat := (dedup (d.map (fun p => p.1 / 2 ^ 24))).filter isRwb

/-! ### Bytes of values (R36) -/

/-- A number in the memory order of its type. -/
def memBytes (ty : Ty) (n : Nat) : List Byte := leBytes ty.size n
/-- A number as a message carries it; a PAIR has its value first. -/
def wireBytes (ty : Ty) (n : Nat) : List Byte :=
  if ty.isPair then beBytes (ty.size / 2) (n % 2 ^ ty.width) ++ beBytes (ty.size / 2) (n / 2 ^ ty.width) else beBytes ty.size n
/-- The number that wire bytes stand for. -/
def wireNat (ty : Ty) (b : List Byte) : Nat :=
  if ty.isPair then beNat (b.take (ty.size / 2)) + beNat (b.drop (ty.size / 2)) * 2 ^ ty.width else beNat b

/-- A value as bytes, by the bytes of its number. -/
def valueBytes (number : Ty → Nat → List Byte) (ty : Ty) (v : Val) : List Byte :=
  match v with
  | .bytes b => b
  | .num n => number ty n
/-- The values of an item of `count` elements from its bytes. -/
def valuesOf (number : Ty → List Byte → Nat) (o : ObjRow) (count : Nat) (b : List Byte) : List Val :=
  if o.ty = .str ∨ o.ty = .domain then [.bytes b]
  else (List.range count).map (fun i => .num (number o.ty (slice b (i * o.ty.size) o.ty.size)))
/-- A number from bytes in memory order. -/
def memNat (_ : Ty) (b : List Byte) : Nat := leNat b

/-- One item of a configuration block: header and padded value, the whole object (R503). -/
def configItem (d : Store) (addr : Nat) : List Byte :=
  match findObj addr with
  | .found o =>
    let v := (List.range o.cnt).flatMap (fun e => valueBytes memBytes o.ty (dget d addr e))
    leBytes 2 (addr / 256) ++ leBytes 1 (addr % 256) ++ leBytes 1 0 ++ leBytes 4 0 ++ leBytes 4 o.cnt ++ leBytes 4 v.length
      ++ padTo (ceilDiv v.length 4 * 4) v
  | _ => []
def configItems (d : Store) : List Byte := (changedObjects d).flatMap (configItem d)
def State.configDigest (s : State) : List Byte := (Config.shake256 (configItems s.dict)).toList

/-- An element of an array that the device computes. -/
def State.viewElem (s : State) (addr e : Nat) : Option Val :=
  if addr = Obj.troughCount then some (.num (s.troughCount e))
  else if addr = Obj.netPeerState then some (.num (if s.partners.contains e then max 1 (s.rdE addr e) else 0))
  else if addr = Obj.secConfigDigest then some (.num ((s.configDigest.getD e 0).toNat))
  else if addr = Obj.bootRecord then some (.bytes (s.bytesAt bootRecord 4096))
  else if addr = Obj.paddockTrackTable then some (.bytes s.trackTable)
  else none

/-- An element of an object in force as reader `o` sees it. -/
def State.view (s : State) (o addr e : Nat) : Val :=
  match s.viewScalar o addr <|> s.viewUnit addr with
  | some n => .num n
  | none => (s.viewElem addr e).getD (dget s.dict addr e)

/-- TIME.NOW_SEC is read: the nanoseconds and the fraction are latched (R406). -/
def latchNow (s : State) : State :=
  s |> wr Obj.timeNowNs (s.nowNs % 1000000000) |> wr Obj.timeNowFrac (s.now % nsUnit / 65536)

/-! ### BAR0 as the host reads it (R337, R388 to R390) -/

/-- The 32-bit register at offset o of the block of trough t. -/
def State.troughWord (s : State) (t o : Nat) : Nat :=
  if o = 0x00 then s.troughCount t
  else if o = 0x04 then s.rdE Obj.troughHead t
  else if o = 0x08 then s.rdE Obj.troughTail t
  else if o = 0x0C then
    s.troughN t + 256 * boolNat (inHostWindow (s.troughBase t)) + 512 * boolNat (s.troughN t != 0)
  else if o = 0x10 then s.rdE Obj.troughDropped t
  else if o = 0x14 then s.rdE Obj.troughHeadRefused t
  else if o = 0x18 then s.rdE Obj.troughHighWater t
  else 0

/-- The fields of the status page that stand before the fault records, by offset; 64-bit fields at their first word. -/
def State.statusHead (s : State) (o : Nat) : Nat :=
  if o = 0x00 then 1
  else if o = 0x04 then s.rd Obj.hostLinkEpoch
  else if o = 0x08 then s.openStep
  else if o = 0x10 then s.rd Obj.stepFused
  else if o = 0x18 then s.nowNs / 1000000000
  else if o = 0x20 then s.host.nsLatch
  else if o = 0x24 then boolNat s.faultLow + 2 * boolNat s.graveBlock.isSome
  else if o = 0x28 then maskOf ((List.range 16).filter (fun n => s.rd (Obj.holdState n) == 1))
  else if o = 0x30 then s.objDomains 2
  else if o = 0x38 then s.objDomains 4
  else if o = 0x40 then s.rd Obj.hostBadAccess
  else if o = 0x44 then s.rd Obj.hostBar2Absent
  else 0

/-- A field of the status page by its offset; 0 where the page has none. -/
def State.statusField (s : State) (o : Nat) : Nat :=
  if o < 0x1000 then s.statusHead o
  else if o < 0x1000 + 93 * 16 then
    let b := (o - 0x1000) / 16
    if o % 16 = 0 then s.rd (Obj.faultSticky b)
    else if o % 16 = 4 then s.pinned b
    else if o % 16 = 8 then s.rd (Obj.faultCount b)
    else boolNat (!s.isOn (blockDomain b))
  else if 0x2000 ≤ o && o < 0x2000 + 32 * 8 then
    let i := (o - 0x2000) / 8
    if s.isOn (stallDomain i) then s.rd (Obj.stallStepDone i) else 0
  else if 0x3000 ≤ o && o < 0x3000 + 36 * 16 then
    let g := (o - 0x3000) / 16
    if !s.isOn (gateDomain g) then 0
    else if o % 16 = 0 then s.rd (Obj.gateWatermark g)
    else if o % 16 = 8 then s.gateState g + 256 * boolNat (s.silent g)
    else 0
  else 0

/-! ### Readable now (R45) -/

/-- The domain that keeps an object from being read, if any. -/
def State.unreadable (s : State) (addr e : Nat) : Option Nat :=
  if isStatus addr then
    match statusDomain addr e with
    | some d => if s.isOn d then none else some d
    | none => none
  else none

/-! ### Values written (R37, R39, R535) -/

/-- Whether bytes are valid UTF-8; `fuel` is their number. -/
def utf8Ok : Nat → List Byte → Bool
  | 0, l => l.isEmpty
  | _, [] => true
  | fuel + 1, b :: t =>
    let cont := fun (n : Nat) => (t.take n).length == n && (t.take n).all (fun x => x.toNat / 64 == 2)
    let c := b.toNat
    let c1 := (t.headD 0).toNat
    if c < 0x80 then utf8Ok fuel t
    else if 0xC2 ≤ c && c < 0xE0 then cont 1 && utf8Ok fuel (t.drop 1)
    else if 0xE0 ≤ c && c < 0xF0 then
      cont 2 && (c != 0xE0 || 0xA0 ≤ c1) && (c != 0xED || c1 < 0xA0) && utf8Ok fuel (t.drop 2)
    else if 0xF0 ≤ c && c < 0xF5 then
      cont 3 && (c != 0xF0 || 0x90 ≤ c1) && (c != 0xF4 || c1 < 0x90) && utf8Ok fuel (t.drop 3)
    else false

/-- Whether a value half lies in the range of its object. -/
def Rng.ok (r : Rng) (w n : Nat) : Bool :=
  match r with
  | .any => true
  | .rng lo hi => lo ≤ n && n ≤ hi
  | .srng lo hi => decide (lo ≤ toSigned w n) && decide (toSigned w n ≤ hi)
  | .vals l => l.contains n
  | .trough => n ≤ 16383 || n == 0xFFFF
  | .orNone hi x => n ≤ hi || n == x
  | .stepped lo hi step => lo ≤ n && n ≤ hi && (n - lo) % step == 0
  | .within mask => n &&& mask == n

/-- The abort of a written element, 0 where it passes: the pair first, then the range. -/
def elemAbort (o : ObjRow) (v : Val) : Nat :=
  match v with
  | .bytes b =>
    if o.ty = .str && !utf8Ok b.length b then Ab.valueRange else Ab.ok
  | .num n =>
    if o.ty.isPair && !pairOk o.ty.width n then Ab.pairMismatch
    else if o.ty = .bool && 1 < n then Ab.valueRange
    else if !o.rng.ok o.ty.width (n % 2 ^ o.ty.width) then Ab.valueRange
    else Ab.ok
def valuesAbort (o : ObjRow) (vs : List Val) : Nat := ((vs.map (elemAbort o)).find? (· != Ab.ok)).getD Ab.ok

/-- The type code of an object. -/
def ObjRow.code (o : ObjRow) : Nat := o.ty.code + (if o.arr then 0x80 else 0)
/-- Whether a byte length suits `count` elements of an object (R64, R39, R507). -/
def lengthOk (addr : Nat) (o : ObjRow) (count n : Nat) : Bool :=
  if o.ty = .str then n ≤ 64
  else if o.ty = .domain then n ≤ o.maxLen && (!(List.range 8).any (fun k => addr == opkeyAddr k) || n == 0 || n == 1952)
  else n == count * o.ty.size

/-- The bits of a register that are kept of a written value; the others are reserved (R8). -/
def keptMask (addr : Nat) : Nat :=
  let all := 2 ^ 64 - 1
  if addr = Obj.gateGang then 2 ^ 18 - 1
  else if 0x2100 ≤ addr / 256 && addr / 256 < 0x2124 && addr = Obj.gateVcMask (addr / 256 - 0x2100) then 2 ^ 4 - 1
  else if [Obj.groomLockTime, Obj.groomLockHot, Obj.groomLockAlign, Obj.groomLockBias].contains addr then 2 ^ 36 - 1
  else if 0x3200 ≤ addr / 256 && addr / 256 < 0x3240 && addr = Obj.jobGates (addr / 256 - 0x3200) then 2 ^ 36 - 1
  else if addr = Obj.gsyncEnable then 2 ^ 6 - 1
  else if addr = Obj.portMac then 2 ^ 48 - 1
  else if addr = Obj.wakeDomains then 2 ^ 54 - 2
  else if 0x7000 ≤ addr / 256 && addr / 256 < 0x705D && addr % 256 = 6 then 31
  else if addr = Obj.projKey then 0x8FFF00FF
  else if 0x3000 ≤ addr / 256 && addr / 256 < 0x3100 && addr % 256 = 1 then 0xCFFF00FF
  else all
def keepBits (addr : Nat) (v : Val) : Val :=
  match v with
  | .num n => if keptMask addr = 2 ^ 64 - 1 then .num n else .num (n &&& keptMask addr)
  | .bytes b =>
    -- the two reserved bytes of a bias template (R142)
    if 0x280040 ≤ addr && addr < 0x280040 + 36 then .bytes (b.take 2 ++ (slice b 2 2).map (fun _ => 0) ++ b.drop 4) else .bytes b

end Sys2Proof.Machine
end

