-- ==== Sys2Proof/Machine/BootOps.lean ====
section
/-!
DEFINITION. Boot, firmware and trust: the boot pointer and images (R497 to R499), the boot ROM (R495, R496, R398), the start
of the firmware and the configuration block (R503, R504), QSPI writes (R501, R502), the fuses (R500), the attestation report
(R506) and the boot record (R508).
-/
namespace Sys2Proof.Machine

def updBoot (f : Boot → Boot) (s : State) : State := { s with boot := f s.boot }

/-! ### QSPI bytes; an erased byte reads 0xFF -/

def State.qspiAt (s : State) (a n : Nat) : List Byte := (List.range n).map (fun i => sget (0xFF : Byte) s.boot.qspi (a + i))
def qspiErase (a n : Nat) (s : State) : State :=
  updBoot (fun b => { b with qspi := b.qspi.filter (fun p => !(decide (a ≤ p.1) && decide (p.1 < a + n))) }) s
def qspiProgram (a : Nat) (bytes : List Byte) (s : State) : State :=
  updBoot (fun b => { b with qspi := ((List.range bytes.length).zip bytes).foldl (fun q p => sset (0xFF : Byte) (a + p.1) p.2 q) b.qspi }) s
/-- Size of the device in bytes. -/
def State.qspiSize (s : State) : Nat := s.rd Obj.bootQspiSize * 1024
/-- The first 64 KiB boundary at or after a. -/
def sectorUp (a : Nat) : Nat := ceilDiv a 0x10000 * 0x10000

/-- The boot pointer of R497. -/
structure Pointer where
  image : Nat
  imageLen : Nat
  config : Nat
  configLen : Nat
  count : Nat
  deriving DecidableEq, Repr

/-- The boot pointer, where it is valid. -/
def State.pointer (s : State) : Option Pointer :=
  let b := s.qspiAt 0 64
  let p : Pointer := ⟨leAt b 8 4, leAt b 12 4, leAt b 16 4, leAt b 20 4, leAt b 24 4⟩
  if leAt b 0 4 = 0x54504251 && leAt b 4 2 = 1 && p.image + p.imageLen ≤ s.qspiSize
      && (p.config = 0 || p.config + p.configLen ≤ s.qspiSize) then some p
  else none

/-! ### Firmware images (R498, R499) -/

abbrev fwPrefix : Nat := 5376
def fwSlot (b : List Byte) : Nat := leAt b 6 1
def fwSecurity (b : List Byte) : Nat := leAt b 7 1
def fwRevoke (b : List Byte) : Nat := leAt b 16 1 % 16
def fwKey (b : List Byte) : List Byte := slice b 64 1952
def fwCode (b : List Byte) : List Byte := b.drop fwPrefix

def fwHeaderOk (b : List Byte) : Bool :=
  leAt b 0 4 == 0x4D495746 && leAt b 4 2 == 1 && fwSlot b ≤ 3 && fwSecurity b ≤ 64
    && within 1 8388608 (leAt b 8 4) && b.length == fwPrefix + leAt b 8 4
def fwSignatureOk (b : List Byte) : Bool :=
  leAt b 2016 1 == fwSlot b && leAt b 2018 2 == 3309
    && Config.verify (fwKey b) (ascii "OUVAC-FW") (b.take 2016 ++ fwCode b) (slice b 2020 3309)

/-- The status of an image in BOOT.QSPI_STATUS: 0 where it is valid (R499). -/
def State.imageStatus (s : State) (b : List Byte) : Nat :=
  if !fwHeaderOk b then 1
  else if (Config.shake256 (fwKey b)).toList != (Config.rootHash (fwSlot b)).toList then 2
  else if bit (s.rd Obj.secRootRevoked) (fwSlot b) then 3
  else if bit (fwRevoke b) (fwSlot b) then 8
  else if fwSecurity b < s.rd Obj.secRollback then 4
  else if !fwSignatureOk b then 5
  else 0

/-- While OTP_UNCORRECTABLE is set, no firmware starts and nothing is signed (R509). -/
def State.otpLost (s : State) : Bool := s.sticky secBlock Src.secOtpUncorrectable

/-! ### The boot record (R508) -/

def State.recordAt (s : State) (o n : Nat) : Nat := s.leMem (bootRecord + o) n
def setRecord (o n v : Nat) (s : State) : State := putBytes (bootRecord + o) (leBytes n v) s
/-- Boot source and result, in BOOT.SOURCE and in the record. -/
def bootOutcome (source result : Nat) (s : State) : State :=
  s |> wr Obj.bootSource source |> setRecord 6 1 source |> setRecord 7 1 result

/-! ### The boot ROM -/

/-- A verified image is copied into the loft and is about to start. -/
def takeImage (b : List Byte) (s : State) : State :=
  s |> putBytes loftBase (fwCode b) |> updBoot (fun x => { x with phase := .verified, image := b })

/-- D1 has come ON after a chip reset: the ROM boots from QSPI, or waits for its host (R494, R495). -/
def bootRom (s : State) : State :=
  let sel := s.rd Obj.bootSelect
  let s := detectIf (sel == 3 || sel == 7) secBlock Src.secBootselReserved s
  if 2 ≤ sel % 4 then bootOutcome 2 1 s
  else if sel % 4 = 1 then bootOutcome 1 1 s
  else
    match s.pointer with
    | none => bootOutcome 1 2 s
    | some p =>
      let b := s.qspiAt p.image p.imageLen
      let st := s.imageStatus b
      let s := wr Obj.bootQspiStatus st s
      if st = 0 && !s.otpLost then s |> takeImage b |> bootOutcome 0 0
      else s |> detect secBlock Src.secFwSignature |> bootOutcome 1 2

/-- Whether the ROM serves transfers of R398, over USB 2.0 or through the mailbox. -/
def State.romServes (s : State) (source : Nat) : Bool :=
  s.isOn 1 && s.boot.phase = .rom && s.rd Obj.bootSource == source

/-- IDENTIFY. -/
def State.identify (s : State) : List Byte :=
  leBytes 8 Config.serial.toNat ++ leBytes 2 0xB0 ++ leBytes 2 (s.rd Obj.bootResetCause) ++ leBytes 4 0
def setRecStatus (n : Nat) (s : State) : State := updBoot (fun b => { b with recStatus := n }) s
/-- The longest image: 5,376 bytes and 8 MiB of firmware. -/
abbrev imageLimit : Nat := 8393984
/-- LOAD: status, and the bytes in the loft. -/
def romLoad (offset limit : Nat) (bytes : List Byte) (s : State) : Nat × State :=
  if limit < bytes.length ∨ imageLimit < offset + bytes.length then (2, setRecStatus 2 s)
  else (0, s |> putBytes (loftBase + offset) bytes |> setRecStatus 0)
/-- BOOT: the image at loft offset 0 is verified and started. -/
def romBoot (len : Nat) (s : State) : Nat × State :=
  if len < fwPrefix + 1 ∨ imageLimit < len then (2, setRecStatus 2 s)
  else
    let b := s.bytesAt loftBase len
    if s.imageStatus b != 0 then (3, setRecStatus 3 s)
    else
      let src := s.rd Obj.bootSource
      let result := if s.recordAt 7 1 = 2 then 2 else 0
      (0, s |> setRecStatus 0 |> takeImage b |> bootOutcome src result)

/-- A response of R398. -/
def romResponse (op status tag : Nat) (data : List Byte) : List Byte :=
  leBytes 4 0x5643524F ++ leBytes 1 op ++ leBytes 1 status ++ leBytes 2 0 ++ leBytes 4 data.length ++ leBytes 4 tag ++ data

/-- One transfer through the mailbox in host boot (R496); no answer to a LOAD or BOOT while the OTP is lost (R509). -/
def romMessage (m : List Byte) (s : State) : Option (List Byte) × State :=
  let op := leAt m 4 1
  let tag := leAt m 12 4
  let data := m.drop 16
  if m.length < 16 ∨ leAt m 0 4 ≠ 0x5643524F ∨ leAt m 8 4 ≠ data.length ∨ !within 1 4 op
      ∨ (op = 2 ∧ data.length < 4) ∨ (op = 3 ∧ data.length ≠ 4) ∨ ((op = 1 ∨ op = 4) ∧ data.length ≠ 0) then
    (some (romResponse op 1 tag []), s)
  else if op = 1 then (some (romResponse 1 0 tag s.identify), s)
  else if op = 4 then (some (romResponse 4 0 tag (leBytes 4 s.boot.recStatus)), s)
  else if s.otpLost then (none, s)
  else
    let (st, s) := if op = 2 then romLoad (leAt data 0 4) 32492 (data.drop 4) s else romBoot (leAt data 0 4) s
    (some (romResponse op st tag []), s)

/-- A transfer over the USB 2.0 recovery port: `run` answers status and data of a good request. -/
def usbTransfer (op : Nat) (h : RecHdr) (run : State → Nat × List Byte × State) (s : State) : State :=
  if !s.romServes 2 then s
  else if !h.good then emit (.recovery op 1 h.tag []) s
  else
    let (st, data, s) := run s
    emit (.recovery op st h.tag data) s

def usbIdentify (h : RecHdr) (s : State) : State := usbTransfer 1 h (fun s => (0, s.identify, s)) s
def usbStatus (h : RecHdr) (s : State) : State := usbTransfer 4 h (fun s => (0, leBytes 4 s.boot.recStatus, s)) s
def usbLoad (h : RecHdr) (offset : Nat) (bytes : List Byte) (s : State) : State :=
  if s.otpLost then s else usbTransfer 2 h (fun s => let (st, s) := romLoad offset 65536 bytes s; (st, [], s)) s
def usbBoot (h : RecHdr) (len : Nat) (s : State) : State :=
  if s.otpLost then s else usbTransfer 3 h (fun s => let (st, s) := romBoot len s; (st, [], s)) s

/-! ### Configuration blocks (R503, R504) -/

/-- The 3,313 bytes of a signature block of the identity key over a message. -/
def identityBlock (context : String) (m : List Byte) : List Byte :=
  leBytes 1 0xFE ++ leBytes 1 0 ++ leBytes 2 3309 ++ padTo 3309 (Config.identitySign (ascii context) m)

/-- The slots whose images a block holds, with the images. -/
def State.blockJobs (s : State) : List (Nat × List Byte) :=
  (s.slotsIn 2 2 ++ s.slotsIn 4 6).filterMap (fun j => (s.slot j).image.map (fun i => (j, i.raw)))

/-- The images of a block one after the other, with their offsets: slot, offset, image. -/
def placeImages : Nat → List (Nat × List Byte) → List (Nat × Nat × List Byte)
  | _, [] => []
  | o, (j, b) :: t => let a := ceilDiv o 64 * 64; (j, a, b) :: placeImages (a + b.length) t

/-- The job table and the images of a block: the bytes from offset 64 on. -/
def blockBody (places : List (Nat × Nat × List Byte)) : List Byte :=
  let table := places.flatMap (fun p => leBytes 1 p.1 ++ leBytes 3 0 ++ leBytes 4 p.2.1 ++ leBytes 4 p.2.2.length ++ leBytes 4 0)
  places.foldl (fun b p => padTo (p.2.1 - 64) b ++ p.2.2) table

/-- The configuration block of the values in force. -/
def State.configBlock (s : State) : List Byte :=
  let jobs := sortBy (fun (a b : Nat × List Byte) => decide (a.1 ≤ b.1)) s.blockJobs
  let body := blockBody (placeImages (64 + 16 * jobs.length) jobs)
  let at' := ceilDiv (64 + body.length) 4 * 4
  let items := configItems s.dict
  let head := leBytes 4 0x42474643 ++ leBytes 2 1 ++ leBytes 1 jobs.length ++ leBytes 1 0 ++ leBytes 8 Config.serial.toNat
    ++ leBytes 8 (s.rd Obj.bootConfigSequence + 1) ++ leBytes 4 (at' + items.length + 3313)
    ++ leBytes 4 (changedObjects s.dict).length ++ leBytes 4 at' ++ leBytes 28 0
  let m := head ++ padTo (at' - 64) body ++ items
  m ++ identityBlock "OUVAC-CFG" m
/-- Whether a block stays within the limits of a bale (R503). -/
def State.blockFits (s : State) : Bool :=
  (changedObjects s.dict).length ≤ 4096 && sumNat ((changedObjects s.dict).map (fun a => leAt (configItem s.dict a) 12 4)) ≤ 67108864

/-- The items of a block: address, first element, count, value bytes. `fuel` is the number of items. -/
def parseItems : Nat → List Byte → List (Nat × Nat × Nat × List Byte)
  | 0, _ => []
  | fuel + 1, b =>
    let n := leAt b 12 4
    (leAt b 0 2 * 256 + leAt b 2 1, leAt b 4 4, leAt b 8 4, slice b 16 n) :: parseItems fuel (b.drop (16 + ceilDiv n 4 * 4))

/-- Stage one item of a block in the boot bale. -/
def stageItem (x : Nat × Nat × Nat × List Byte) (s : State) : Abort × State :=
  let (addr, first, count, b) := x
  match findObj addr with
  | .unknownObject => ((Ab.unknownObject, 0), s)
  | .unknownSub => ((Ab.unknownSub, 0), s)
  | .found o =>
    if o.acc != .rwb then ((Ab.readOnly, 0), s)
    else if count = 0 ∨ o.cnt < first + count then ((Ab.elementRange, 0), s)
    else if !lengthOk addr o count b.length then ((Ab.lengthMismatch, addr), s)
    else
      let vs := valuesOf memNat o count b
      let a := valuesAbort o vs
      if a != Ab.ok then ((a, 0), s)
      else
        let (a, s) := stage (ownerCode .boot) ⟨addr, first, vs.map (keepBits addr), none, 0, false⟩ s
        ((a, 0), s)

def stageItems : List (Nat × Nat × Nat × List Byte) → State → Abort × State
  | [], s => (noAbort, s)
  | x :: t, s =>
    match stageItem x s with
    | ((0, _), s) => stageItems t s
    | (a, s) => (a, s)

/-- Load the job images of a block into their slots. -/
def loadJobs (b : List Byte) : List Nat → State → Abort × State
  | [], s => (noAbort, s)
  | i :: t, s =>
    let e := slice b (64 + 16 * i) 16
    let j := leAt e 0 1
    let img := slice b (leAt e 4 4) (leAt e 8 4)
    if 64 ≤ j then ((Ab.jobRejected, reject rjHeader 0), s)
    else
      match s.loadBad j img img.length with
      | some d => ((Ab.jobRejected, d), s)
      | none => loadJobs b t (acceptLoad j img s)

/-- Whether a block is the device's own. -/
def blockOwn (b : List Byte) : Bool :=
  let n := b.length - 3313
  3313 + 64 ≤ b.length && leAt b 0 4 == 0x42474643 && leAt b 4 2 == 1 && leAt b 24 4 == b.length
    && leAt b n 1 == 0xFE && leAt b (n + 2) 2 == 3309
    && Config.verify Config.idPubkey (ascii "OUVAC-CFG") (b.take n) (slice b (n + 4) 3309)
    && leAt b 8 8 == Config.serial.toNat

/-- Apply a configuration block: jobs, then the items as one bale; the abort where it is refused (R504). -/
def applyBlock (b : List Byte) (s : State) : Abort × State :=
  if !blockOwn b then ((Ab.badSignature, 0), s)
  else
    match loadJobs b (List.range (leAt b 6 1)) s with
    | (a, s) =>
      if a != noAbort then (a, s)
      else
        match stageItems (parseItems (leAt b 28 4) (b.drop (leAt b 32 4))) s with
        | (a, s) =>
          if a != noAbort then (a, s)
          else if (s.bale (ownerCode .boot)).staged.isEmpty then (noAbort, s)
          else
            let (a, _, s) := commitBale ⟨ownerCode .boot, none⟩ s
            (a, updBoot (fun x => { x with blockPending := a == noAbort }) s)

/-- The configuration block that a QSPI boot finds. -/
def bootBlock (s : State) : State :=
  match s.pointer with
  | none => s
  | some p =>
    if s.rd Obj.bootSource ≠ 0 ∨ p.config = 0 then s
    else
      let b := s.qspiAt p.config p.configLen
      match applyBlock b s with
      | (a, t) =>
        if a = noAbort then
          let seq := leAt b 16 8
          t |> wr Obj.bootConfigSequence seq |> setRecord 32 8 seq
        else s |> wr Obj.bootConfigAbort a.1 |> wr Obj.bootConfigDetail a.2 |> detect secBlock Src.secConfigRejected

/-- FIRMWARE_START: the verified firmware starts its dictionary server (R43, R452, R453, R504). -/
def firmwareStart (s : State) : State :=
  if s.boot.phase = .verified && s.isOn 1 then
    let b := s.boot.image
    let d := (Config.shake256 (fwCode b)).toList
    let s := s |> updBoot (fun x => { x with phase := .running }) |> wr Obj.idFirmware (leAt b 12 4)
      |> wr Obj.secImageSecurity (fwSecurity b) |> wr Obj.powerCpClock 1 |> setRecord 24 4 (leAt b 12 4)
    let s := (List.range 32).foldl (fun s i => wrE Obj.secFwDigest i (d.getD i 0).toNat s) s
    bootBlock { s with power := { s.power with bootVote := false } }
  else s

/-! ### QSPI writes (R501, R502) -/

def failQspi (status : Nat) (s : State) : State :=
  s |> wr Obj.bootQspiState 5 |> wr Obj.bootQspiStatus status |> updBoot (fun b => { b with op := none })

/-- The bytes of a boot pointer. -/
def pointerBytes (image imageLen config configLen count : Nat) : List Byte :=
  leBytes 4 0x54504251 ++ leBytes 2 1 ++ leBytes 2 0 ++ leBytes 4 image ++ leBytes 4 imageLen ++ leBytes 4 config
    ++ leBytes 4 configLen ++ leBytes 4 count ++ leBytes 36 0

/-- Erase sector 0 and write an image, where one is given, and the block behind the image at `place`; the pointer comes last. -/
def startQspi (value : Nat) (image : List Byte) (place imageLen : Nat) (s : State) : State :=
  let block := s.configBlock
  let at' := sectorUp (place + imageLen)
  let count := ((s.pointer.map (·.count)).getD 0 + 1) % 2 ^ 32
  if !s.blockFits || s.qspiSize < at' + block.length then failQspi 7 s
  else
    s |> qspiErase 0 0x10000 |> wr Obj.bootQspiState 3 |> wr Obj.bootQspiStatus 0
      |> updBoot (fun b => { b with op := some ⟨value, image, at', block, pointerBytes place imageLen at' block.length count⟩ })

/-- BOOT.QSPI_WRITE = 1: the image in memory, and a block. -/
def qspiImage (s : State) : State :=
  let a := s.rd Obj.bootImageAddr
  let n := s.rd Obj.bootImageLen
  if !s.imagePlace a n || imageLimit < n then failQspi 1 s
  else
    match memRead a n s with
    | (none, s) => failQspi 1 s
    | (some b, s) =>
      let st := s.imageStatus b
      if st != 0 then failQspi st s
      else if s.otpLost then failQspi 5 s
      else startQspi 1 b 0x10000 n s

/-- BOOT.QSPI_WRITE = 2: a block behind the image there. -/
def qspiConfig (s : State) : State :=
  match s.pointer with
  | none => failQspi 9 s
  | some p =>
    let st := s.imageStatus (s.qspiAt p.image p.imageLen)
    if st != 0 then failQspi st s
    else if s.otpLost then failQspi 5 s
    else startQspi 2 [] p.image p.imageLen s

/-- BOOT.QSPI_WRITE = 3: the boot pointer. -/
def qspiPointer (s : State) : State :=
  s |> qspiErase 0 0x10000 |> wr Obj.bootQspiState 2 |> wr Obj.bootQspiStatus 0
    |> updBoot (fun b => { b with op := some ⟨3, [], 0, [], []⟩ })

/-- A write is in progress. -/
def State.qspiBusy (s : State) : Bool := within 1 3 (s.rd Obj.bootQspiState)
/-- A write to BOOT.QSPI_WRITE. -/
def qspiWrite (v : Nat) (s : State) : Nat × State :=
  if !within 1 3 v then (Ab.valueRange, s)
  else if s.qspiBusy then (Ab.busy, s)
  else if v = 1 then (Ab.ok, qspiImage s)
  else if v = 2 then (Ab.ok, qspiConfig s)
  else (Ab.ok, qspiPointer s)

/-- QSPI_WRITE_DONE. -/
def qspiDone (flashError : Bool) (s : State) : State :=
  match s.boot.op with
  | none => s
  | some op =>
    if flashError then s |> failQspi 6 |> detect secBlock Src.secQspiWriteFail
    else
      let s := s |> updBoot (fun b => { b with op := none }) |> wr Obj.bootQspiState 4
      if op.value = 3 then s
      else
        let s := if op.image.isEmpty then s
          else s |> qspiErase 0x10000 (sectorUp op.image.length) |> qspiProgram 0x10000 op.image
        s |> qspiErase op.at' (sectorUp op.block.length) |> qspiProgram op.at' op.block |> qspiProgram 0 op.pointer
          |> wr Obj.bootConfigSequence (leAt op.block 16 8)

/-! ### Fuses (R500) -/

/-- A write of SEC.ROLLBACK_ADVANCE. -/
def rollbackAdvance (v : Nat) (s : State) : Nat × State :=
  if v ≠ s.rd Obj.secImageSecurity then (Ab.valueRange, s)
  else if s.qspiBusy then (Ab.busy, s)
  else
    (Ab.ok, s |> wr Obj.secRollback (max v (s.rd Obj.secRollback))
      |> wr Obj.secRootRevoked (s.rd Obj.secRootRevoked ||| fwRevoke s.boot.image))

/-- FW_WATCHDOG: the firmware has not serviced its watchdog for 100 ms. -/
def fwWatchdog (s : State) : State := if s.boot.phase = .running then detect cpBlock Src.cpFwWatchdog s else s

/-! ### Attestation (R506) -/

def State.attestJobs (s : State) : List Byte :=
  (List.range 64).flatMap (fun j =>
    beBytes 1 (s.rd (Obj.jobState j)) ++ beBytes 1 (s.rd (Obj.jobSigner j)) ++ beBytes 2 0 ++ beBytes 4 (s.rd (Obj.jobId j))
      ++ (List.range 32).flatMap (fun i => beBytes 1 (s.rdE (Obj.jobDigest j) i)))

/-- The report with its signature block; none where the identity key cannot be read. -/
def State.attest (s : State) (nonce : List Byte) : Option (List Byte) :=
  if s.otpLost then none
  else
    let m := beBytes 4 0x41545354 ++ beBytes 2 1 ++ beBytes 1 (s.rd Obj.bootSource) ++ beBytes 1 (s.rd Obj.secRollback)
      ++ beBytes 8 Config.serial.toNat ++ beBytes 2 (s.rd Obj.nodeNumber) ++ beBytes 1 (s.rd Obj.secRootRevoked) ++ beBytes 1 0
      ++ beBytes 4 (s.rd Obj.idFirmware) ++ beBytes 8 s.openStep ++ beBytes 8 (s.nowNs % 2 ^ 64) ++ padTo 32 nonce
      ++ (List.range 32).flatMap (fun i => beBytes 1 (s.rdE Obj.secFwDigest i)) ++ s.configDigest ++ s.attestJobs
    some (m ++ beBytes 1 0xFE ++ beBytes 1 0 ++ beBytes 2 3309 ++ padTo 3309 (Config.identitySign (ascii "OUVAC-ATT") m))

end Sys2Proof.Machine
end

