-- ==== Sys2Proof/Machine/Resets.lean ====
section
/-!
DEFINITION. Resets and reactions: BLOCK_RESET of each fault block (R44 and the blocks' own rules), the chip reset (R43,
R454, R482, R508), power-on (R31, R523), RESET_N (R519), start-up (R452, R453, R494), the reactions that a command has
caused (R473 to R475), and the end of sleep (R459).
-/
namespace Sys2Proof.Machine

/-! ### Block resets -/

/-- The RO objects of stall i at their defaults. -/
def clearStallStatus (i : Nat) (s : State) : State :=
  let own := [0x3100 + i, 0x3400 + i, 0x3500 + i, 0x3600 + i]
  { s with dict := s.dict.filter (fun p =>
      let a := p.1 / 2 ^ 24
      !(own.contains (a / 256) && isStatus a)) }

/-- BLOCK_RESET of stall i (R202, R44): its counters and status are cleared, it fails, and its stores are cleared. -/
def resetStall (i : Nat) (s : State) : State :=
  s |> clearStallStatus i |> failStall i |> discardStallEvents i |> updStall i (fun _ => Stall.reset)
    |> zeroRange (0x1100000000 + i * 0x1000000) 0x1000000

/-- BLOCK_RESET of fault block b; the force bits of the block return to 0 (R477). -/
def blockReset (b : Nat) (s : State) : State :=
  let s := wr (Obj.faultForce b) 0 s
  if b < 36 then resetGate b s
  else if b < 68 then resetStall (b - 36) s
  else if b = 72 then resetPaddock s
  else if b = 73 then resetGroom s
  else if b = 74 then resetSieve s
  else if 75 ≤ b && b < 83 then resetEngine (b - 75) s
  else if b = 83 then resetTroughs s
  else if b = 84 then resetHost s
  else if b = 85 || b = 86 then resetPort (b - 85) s
  else if b = 90 then resetMuck s
  else s

/-! ### Chip reset (R43, R454, R482, R508) -/

/-- The objects that a chip reset keeps (R43), the fuses and what was found of the part. -/
def keptAtReset (a : Nat) : Bool :=
  (0x7000 ≤ a / 256 && a / 256 < 0x705D && (a % 256 = 1 || a % 256 = 0x10))
    || [Obj.muckOutOfService, Obj.muckPosition, Obj.gsyncEdges, Obj.gsyncEdgeTime, Obj.timeNowNs, Obj.timeNowFrac,
        Obj.bootSelect, Obj.bootQspiSize, Obj.secRollback, Obj.secRootRevoked].contains a
/-- The objects that outlast a loss of D0's power: fuses, and what was found of the part (R31, R32). -/
def keptWithoutPower (a : Nat) : Bool := [Obj.bootQspiSize, Obj.secRollback, Obj.secRootRevoked].contains a
def keepObjects (keep : Nat → Bool) (d : Store) : Store := d.filter (fun p => keep (p.1 / 2 ^ 24))

/-- Bytes behind the host window, which are not the device's. -/
abbrev isHostByte (a : Nat) : Bool := decide (2 ^ 64 ≤ a)
/-- Bytes of the granary, which lies in D0. -/
abbrev isGranaryByte (a : Nat) : Bool := decide (granaryBase ≤ a) && decide (a < granaryBase + 0x40000)

/-- Every fault block whose sticky word is not 0 shows that its bits came through a chip reset (R482). -/
def markKept (s : State) : State :=
  (List.range 93).foldl (fun s b =>
    if s.rdZ (Obj.faultSticky b) = 0 then s else wr (Obj.faultFlags b) (setBit (s.rdZ (Obj.faultFlags b)) 1) s) s

/-- Every domain but D0 goes OFF without quiescing, every vote is cleared, and every object but those of R43 takes its
default. The default grid's next boundary is the first that has not passed. -/
def chipCore (s : State) : State :=
  let t : State := { State.reset with
    now := s.now, dict := keepObjects keptAtReset s.dict, draws := s.draws, out := s.out, pending := s.pending,
    mem := s.mem.filter (fun c => isHostByte c.1 || isGranaryByte c.1), poison := s.poison.filter (fun p => isHostByte (p * 64)),
    keptPins := (List.range 93).foldl (fun m b => sset (0, 0) b (s.rdZ (Obj.faultSticky b), s.pinned b) m) [],
    memctl := { MemCtl.reset with granaryBad := s.memctl.granaryBad, sweptAt := s.memctl.sweptAt },
    power := { Power.reset with
      domains := [], bootVote := false, pgood := s.power.pgood, railCut := s.power.railCut, trims := s.power.trims },
    time := { TimeUnit.reset with nextBoundary := ceilDiv s.now (1000000 * nsUnit) },
    boot := { Boot.reset with
      phase := .held, qspi := s.boot.qspi } }
  markKept t

/-- Rewrite the boot record and BOOT.RESET_CAUSE: cause, fault block and source, wake pin (R508). -/
def setCause (cause fb fs pin : Nat) (s : State) : State :=
  s |> wr Obj.bootResetCause cause |> setRecord 0 2 cause |> setRecord 2 1 fb |> setRecord 3 1 fs |> setRecord 4 1 pin
    |> setRecord 16 8 (s.nowNs % 2 ^ 64) |> setRecord 24 8 0 |> setRecord 32 8 0
/-- One more chip reset since D0 has power. -/
def countReset (s : State) : State := setRecord 8 4 (s.recordAt 8 4 + 1) s

/-- The boot source that BOOTSEL selects: 0 QSPI, 1 host, 2 recovery (R494). -/
def selectSource (sel : Nat) : Nat := if 2 ≤ sel % 4 then 2 else sel % 4

/-- Start-up under R452: BOOTSEL is latched, and D1 and D2 rise. -/
def startUp (bootsel : Nat) (s : State) : State :=
  let sel := bootsel % 8
  let s := s |> wr Obj.bootSelect sel |> wr Obj.powerStartMode (boolNat (4 ≤ sel && sel < 7)) |> setRecord 5 1 sel
    |> bootOutcome (selectSource sel) 1 |> updBoot (fun b => { b with phase := .rom })
  powerSettle { s with power := { s.power with bootVote := true } }

/-- A chip reset that the device makes itself. BOOTSEL is static (R518), so the latch takes the value it holds; while
RESET_N is low the reset lasts until it rises. -/
def chipReset (cause fb fs pin : Nat) (s : State) : State :=
  let t := s |> chipCore |> setCause cause fb fs pin |> countReset
  if s.boot.resetNLow then t else startUp (s.rd Obj.bootSelect) t

/-! ### RESET_N and power-on -/

/-- A low level of RESET_N of at least 1 µs: the chip reset begins and lasts until RESET_N rises. -/
def heldReset (s : State) : State := s |> chipCore |> setCause 2 0xFF 0xFF 0xFF |> countReset

/-- POWER_ON_RESET: D0 loses its state. QSPI, fuses and the host's memory keep theirs (R31, R32, R33). -/
def powerOnReset (s : State) : State :=
  { State.reset with
    dict := keepObjects keptWithoutPower s.dict, draws := s.draws, out := s.out, pending := s.pending,
    mem := s.mem.filter (fun c => isHostByte c.1), poison := s.poison.filter (fun p => isHostByte (p * 64)),
    power := { Power.reset with domains := [], bootVote := false, pgood := s.power.pgood },
    boot := { Boot.reset with phase := .held, qspi := s.boot.qspi } }

/-- POWER_ON_RESET_RELEASE: D0 runs with device time at 0 and the HOLD pairs in HOLD. -/
def powerOnRelease (high : Bool) (bootsel : Nat) (s : State) : State :=
  let s := setCause 1 0xFF 0xFF 0xFF s
  if high then startUp bootsel s else s

/-! ### Reactions (R473 to R475) -/

/-- Whether reaction bit `n` of a source is chosen by the routing in force. -/
def State.reacts? (s : State) (n : Nat) (r : Nat × Nat) : Bool := bit (s.rdE (Obj.faultReact r.1) r.2) n

/-- The power controller follows the votes; the wait of R459 ends once both memory halves are ON. -/
def settle (s : State) : State :=
  if s.boot.phase = .held then s
  else
    let s := powerSettle s
    if s.power.busyServer && s.isOn 12 && s.isOn 13 then updPower (fun p => { p with busyServer := false }) s else s

/-- One round: interrupts are logged, then the chip is reset, or each block that is to be; the votes follow. -/
def reactRound (rs : List (Nat × Nat)) (s : State) : State :=
  let s := (rs.filter (s.reacts? 0)).foldl (fun s r => logInterrupt r.1 r.2 0 s) s
  let s := (rs.filter (s.reacts? 1)).foldl (fun s r => logInterrupt r.1 r.2 1 s) s
  match rs.find? (s.reacts? 3) with
  | some (b, i) => chipReset 3 b i 0xFF s
  | none =>
    let bs := dedup ((rs.filter (s.reacts? 2)).map (·.1))
    if bs.isEmpty then s else settle (bs.foldl (fun s b => blockReset b s) s)

/-- Perform the reactions that wait, and those that they cause in turn. -/
def reactFuel : Nat → State → State
  | 0, s => s
  | n + 1, s => if s.reacts.isEmpty then s else reactFuel n (reactRound s.reacts { s with reacts := [] })
def react (s : State) : State := if s.reacts.isEmpty then s else reactFuel 16 s

/-! ### Commands with their reactions -/

/-- What comes from outside the block and no command's effect changes: the queue, and the levels that the VDD_AON monitor
(`power`: held in power-on reset) and RESET_N (`low`) have. Either of them holds the control processor (R519, R523). -/
def setPins (s : State) (power low : Bool) (t : State) : State :=
  { t with pending := s.pending, boot := { t.boot with powerReset := power, resetNLow := low, phase := if power || low then .held else t.boot.phase } }
def outside (s t : State) : State := setPins s s.boot.powerReset s.boot.resetNLow t

/-- A command that acts while D0 has power: its effect, then the reactions it has caused. -/
def run (f : State → State) (s : State) : Host.Outcome State Fault Refusal :=
  if s.boot.powerReset then .next s else .next (outside s (react (f s)))
/-- The same, for a command that can change votes or domains. -/
def runPower (f : State → State) (s : State) : Host.Outcome State Fault Refusal :=
  run (fun s => s |> settle |> f |> settle |> react |> settle) s

/-- A command that names a unit which the CT32 does not have changes nothing (log entry 13). -/
def runIf (c : Bool) (f : State → State) (s : State) : Host.Outcome State Fault Refusal := if c then run f s else .next s
def runPowerIf (c : Bool) (f : State → State) (s : State) : Host.Outcome State Fault Refusal :=
  if c then runPower f s else .next s

/-! ### D1 comes ON -/

/-- DOMAIN_PHASE_READY of any domain; when D1 comes ON after a reset the boot ROM runs, on CCLK in a native start. -/
def phaseReady (d : Nat) (s : State) : State :=
  let was := s.isOn 1
  let s := domainPhaseReady d s
  if !was && s.isOn 1 && s.boot.phase = .rom then
    bootRom (if s.rdZ Obj.powerStartMode = 0 then wr Obj.powerCpClock 1 s else s)
  else s

/-! ### Sleep and wake (R457, R459) -/

/-- WAKE_INPUT: a wake event ends sleep. -/
def wakeUp (n : Nat) (w : WakeSignal) (s : State) : State :=
  match wakeInput n w s with
  | (false, s) => s
  | (true, s) =>
    if s.power.sleep = 1 then updPower (fun p => { p with sleep := 0, busyServer := true }) s
    else if s.power.sleep = 2 then chipReset 4 0xFF 0xFF n s
    else s

/-- PCLK_TRIM (R530): the oscillator is trimmed; nothing that the model holds but the count follows from it. -/
def pclkTrim (s : State) : State := updPower (fun p => { p with trims := p.trims + 1 }) s

end Sys2Proof.Machine
end

