-- ==== Sys2Proof/Machine/WriteOps.lean ====
section
/-!
DEFINITION. Writes that take effect at once (R40 to R42): the commands of RW and WO objects, the CLEAR objects, the checks of
a written item (R64, R535), and the writable registers of BAR0 (R388, R389).
-/
namespace Sys2Proof.Machine

/-! ### Clears (R41) -/

/-- Objects lo to hi at their defaults. -/
def clearRange (lo hi : Nat) (s : State) : State :=
  { s with dict := s.dict.filter (fun p => !(decide (dkey lo 0 ≤ p.1) && decide (p.1 < dkey (hi + 1) 0))) }

/-- The subindices that the CLEAR object of an index clears. -/
def clearSubs (i : Nat) : List (Nat × Nat) :=
  if 0x2100 ≤ i ∧ i < 0x2124 then [(0x12, 0x15)]
  else if 0x3100 ≤ i ∧ i < 0x3120 then [(0x04, 0x04), (0x07, 0x0B)]
  else if 0x3400 ≤ i ∧ i < 0x3420 then [(0x03, 0x0F)]
  else if 0x3500 ≤ i ∧ i < 0x3520 then [(0x02, 0x0B)]
  else if i = 0x4000 then [(0x1C, 0x23), (0x25, 0x25)]
  else if i = 0x5200 then [(0x23, 0x26)]
  else if i = 0x5800 then [(0x0C, 0x0F)]
  else if i = 0x5900 then [(0x0B, 0x0F)]
  else if i = 0x6000 then [(0x0C, 0x0C), (0x0E, 0x0E)]
  else if i = 0x6800 then [(0x0C, 0x0D)]
  else if i = 0x8000 then [(0x02, 0x04)]
  else if i = 0x8800 then [(0x07, 0x0B)]
  else if i = 0x9000 then [(0x09, 0x17)]
  else if i = 0xA000 then [(0x05, 0x05), (0x08, 0x0C)]
  else if i = 0xC000 then [(0x0A, 0x0D)]
  else []
/-- The subindex of the CLEAR object of an index, 0 where it has none. -/
def clearSub (i : Nat) : Nat :=
  if 0x2100 ≤ i ∧ i < 0x2124 then 0x16
  else if (0x3100 ≤ i ∧ i < 0x3120) ∨ (0x3500 ≤ i ∧ i < 0x3520) ∨ i = 0x8800 then 0x0C
  else if 0x3400 ≤ i ∧ i < 0x3420 then 0x10
  else if 0x3600 ≤ i ∧ i < 0x3620 then 0x12
  else if i = 0x4000 ∨ i = 0x5200 then 0x27
  else if i = 0x5800 ∨ i = 0x5900 then 0x10
  else if i = 0x6000 then 0x0F
  else if i = 0x6800 ∨ i = 0xC000 then 0x0E
  else if i = 0x8000 then 0x05
  else if i = 0x9000 then 0x18
  else if i = 0xA000 then 0x0D
  else 0
def isClear (addr : Nat) : Bool := addr % 256 != 0 && addr % 256 == clearSub (addr / 256)

/-- A write of 1 to a block's CLEAR object. -/
def counterClear (addr : Nat) (s : State) : State :=
  let i := addr / 256
  if !isClear addr then s
  else if 0x3600 ≤ i && i < 0x3620 then clearWinnow (i - 0x3600) s
  else (clearSubs i).foldl (fun s r => clearRange (i * 256 + r.1) (i * 256 + r.2) s) s

/-! ### Commands -/

/-- The abort of an object with its detail word (R75). -/
def abortAt (code addr : Nat) : Abort :=
  if code = Ab.lengthMismatch ∨ code = Ab.inconsistent ∨ code = Ab.blockRunning ∨ code = Ab.baleConflict then (code, addr)
  else (code, 0)
def withDetail (addr : Nat) (r : Nat × State) : Abort × State := (abortAt r.1 addr, r.2)
def withDomain (d : Nat) (r : Nat × State) : Abort × State := (if r.1 = Ab.domainOff then (r.1, d) else (r.1, 0), r.2)

/-- BALE.COMMIT: 1 COMMIT, 2 DISCARD. -/
def baleCommand (who : Committer) (n : Nat) (s : State) : Abort × State :=
  if n = 1 then let r := commitBale who s; (r.1, r.2.2) else (noAbort, discardBale who.owner s)

/-- CHAN.CMD of channel c. -/
def chanCommand (c n : Nat) (s : State) : Nat × State :=
  if n = 1 then chanStart c s else if n = 2 then chanPause c s else if n = 3 then chanResume c s else chanStop c s

/-- POWER.SLEEP. -/
def sleepCommand (v : Nat) (s : State) : Abort × State :=
  let r := startSleep v s
  (if r.1 = Ab.blockRunning then (r.1, Obj.powerSleep) else (r.1, r.2.1), r.2.2)

/-- BOOT.RESET: the chip reset follows the response. -/
def bootResetCommand (s : State) : Abort × State := (noAbort, updBoot (fun b => { b with resetAfterResponse := true }) s)

/-- Commands of jobs, yards, groom and fault records, at an index that units repeat. -/
def unitCommand (addr n : Nat) (s : State) : Option (Abort × State) :=
  let i := addr / 256
  if 0x3000 ≤ i ∧ i < 0x3100 then some (withDetail addr (yardReadmit (i - 0x3000) n s))
  else if 0x3200 ≤ i ∧ i < 0x3240 then
    some (withDetail addr (if n = 1 then jobLoad (i - 0x3200) s else jobUnload (i - 0x3200) s))
  else if 0x7000 ≤ i ∧ i < 0x705D then
    let b := i - 0x7000
    if addr = Obj.faultClear b then some (withDetail addr (faultClear b n s))
    else if addr = Obj.faultForce b then some (withDomain (blockDomain b) (faultForce b n s))
    else some (noAbort, if n = 1 then faultClearCounts b s else s)
  else none

/-- The other commands of one value. -/
def scalarCommand (who : Committer) (addr n : Nat) (s : State) : Abort × State :=
  if addr = Obj.baleCommit then baleCommand who n s
  else if addr = Obj.groomAccept then withDetail addr (groomAccept n s)
  else if addr = Obj.timeSet then withDetail addr (timeSet n s)
  else if addr = Obj.powerSleep then sleepCommand n s
  else if addr = Obj.wakeClear then (noAbort, wakeClear n s)
  else if addr = Obj.muckRequest then withDetail addr (muckRequest n s)
  else if addr = Obj.muckRelease then withDomain (stallDomain n) (muckRelease n s)
  else if addr = Obj.bootReset then bootResetCommand s
  else if addr = Obj.bootQspiWrite then withDetail addr (qspiWrite n s)
  else if addr = Obj.secRollbackAdvance then withDetail addr (rollbackAdvance n s)
  else (noAbort, wr addr n s)

/-- A write of element e of an RW or WO object. -/
def commandWrite (who : Committer) (addr e : Nat) (v : Val) (s : State) : Abort × State :=
  let n := v.toNat
  if isClear addr then (noAbort, if n = 1 then counterClear addr s else s)
  else if 0x200018 ≤ addr && addr < 0x20001E then withDetail addr (i2cXfer (addr - 0x200018) v.toBytes s)
  else if addr = Obj.chanDesc then (noAbort, wrE addr e n s)
  else if addr = Obj.chanCmd then withDetail addr (chanCommand e n s)
  else (unitCommand addr n s).getD (scalarCommand who addr n s)

/-- Writes of consecutive elements, in order; the first refusal ends them, and then only what it counts takes effect. -/
def commandWrites (who : Committer) (addr : Nat) : Nat → List Val → State → State → Abort × State
  | _, [], _, s => (noAbort, s)
  | e, v :: t, s0, s =>
    match commandWrite who addr e v s with
    | ((0, _), s) => commandWrites who addr (e + 1) t s0 s
    | (a, _) => (a, (commandWrite who addr e v s0).2)

/-! ### Written values (R40, R64, R535) -/

/-- The access right of an object; the votes of D0 are fixed (R444). -/
def accessOf (addr : Nat) (o : ObjRow) : Access :=
  if addr = Obj.domainVoteHost 0 ∨ addr = Obj.domainVoteNet 0 then .ro else o.acc
def ObjRow.writable (o : ObjRow) (addr : Nat) : Bool := accessOf addr o != .const && accessOf addr o != .ro

/-- R359: the descriptor and the trough of a channel that is not IDLE. -/
def State.chanHeld (s : State) (addr first n : Nat) : Bool :=
  (addr == Obj.chanDesc || addr == Obj.chanTrough) && (List.range n).any (fun i => s.chanState (first + i) != 0)

/-- HEAD writes of consecutive troughs: each is accepted or refused on its own, and the item reports a refusal when any was
refused (R338). -/
def headWrites : Nat → List Val → State → Abort × State
  | _, [], s => (noAbort, s)
  | t, v :: vs, s =>
    let r := writeHead t v.toNat s
    let q := headWrites (t + 1) vs r.2
    (if r.1 = Ab.ok then q.1 else (r.1, 0), q.2)

/-- A write that has passed its item checks: staged for RWB, at once otherwise. `cs` are the chunks that brought the value. -/
def writeChunks (who : Committer) (addr : Nat) (o : ObjRow) (first : Nat) (vs : List Val) (cs : Option Chunks) (s : State) :
    Abort × State :=
  if s.chanHeld addr first vs.length then ((Ab.blockRunning, addr), s)
  else if o.acc = .rwb then
    let (a, s) := stage who.owner ⟨addr, first, vs.map (keepBits addr), cs, 0, false⟩ s
    ((a, 0), s)
  else if addr = Obj.troughHead then headWrites first vs s
  else commandWrites who addr first vs s s

def writeValues (who : Committer) (addr : Nat) (o : ObjRow) (first : Nat) (vs : List Val) (s : State) : Abort × State :=
  writeChunks who addr o first vs none s

/-! ### Diagnostics objects (R9) -/

abbrev isDiag (addr : Nat) : Bool := decide (0xF00000 ≤ addr)
/-- The abort codes of R75. -/
def abortCodes : List Nat :=
  [Ab.ok, Ab.unknownObject, Ab.unknownSub, Ab.elementRange, Ab.readOnly, Ab.writeOnly, Ab.notAuthorised, Ab.typeMismatch,
    Ab.lengthMismatch, Ab.pairMismatch, Ab.valueRange, Ab.inconsistent, Ab.blockRunning, Ab.baleConflict, Ab.baleEmpty,
    Ab.domainOff, Ab.badSignature, Ab.staleSequence, Ab.busy, Ab.graveFault, Ab.jobRejected]
/-- The answer of an object of 0xF000 to 0xFFFF: an abort of the table and value bytes, both open (log entry 101). -/
def State.diagAnswer (s : State) (room : Nat) : Abort × List Byte :=
  let r := Config.diagAnswer s.draws
  let a := abortCodes.getD (r.1 % 21) Ab.ok
  if a = Ab.ok then (noAbort, r.2.take room) else ((a, 0), [])
/-- A write of such an object: its answer is open, and its effect on the objects of this manual is none (log entry 101). -/
def diagWrite (s : State) : Abort × State := ((s.diagAnswer 0).1, drawn s)

/-- Whether elements first to first + count − 1 exist. -/
def ObjRow.inRange (o : ObjRow) (first count : Nat) : Bool := count != 0 && first + count ≤ o.cnt

/-- The abort of values that are checked at the write. -/
def valueCheck (addr : Nat) (o : ObjRow) (count : Nat) (b : List Byte) (vs : List Val) : Abort :=
  if !lengthOk addr o count b.length then (Ab.lengthMismatch, addr) else (valuesAbort o vs, 0)

/-- An item to be written: object, type, range, access, length and values are checked in this order. -/
def writeBytes (number : Ty → List Byte → Nat) (who : Committer) (addr ty first count : Nat) (b : List Byte) (s : State) :
    Abort × State :=
  if isDiag addr then diagWrite s else
  match findObj addr with
  | .unknownObject => ((Ab.unknownObject, 0), s)
  | .unknownSub => ((Ab.unknownSub, 0), s)
  | .found o =>
    if ty != 0 && ty != o.code then ((Ab.typeMismatch, 0), s)
    else if !o.inRange first count then ((Ab.elementRange, 0), s)
    else if !o.writable addr then ((Ab.readOnly, 0), s)
    else
      let vs := valuesOf number o count b
      let a := valueCheck addr o count b vs
      if a != noAbort then (a, s) else writeValues who addr o first vs s

/-! ### The server (R43, R459, R496) -/

/-- The dictionary server runs. -/
def State.serverUp (s : State) : Bool := s.isOn 1 && s.boot.phase = .running
/-- It answers every request with BUSY: a configuration block has not applied, or the device wakes. -/
def State.serverBusy (s : State) : Bool := s.boot.blockPending || s.power.busyServer

/-! ### Counting of refusals (R69, R74, AUTH_BURST) -/

def countRefusal (code : Nat) (s : State) : State :=
  if code = Ab.staleSequence then inc 32 Obj.sdpStale s
  else if code = Ab.notAuthorised ∨ code = Ab.badSignature then
    let times := (s.now :: s.sdp.authTimes).filter (fun t => decide (s.now < t + 1000000000 * nsUnit))
    s |> inc 32 Obj.sdpAuthFails |> updSdp (fun d => { d with authTimes := times.take 17 })
      |> detectIf (decide (16 < times.length)) dictBlock Src.dictAuthBurst
  else s

/-! ### Single commands -/

/-- A write that reaches the server as a command of its own; its abort is put out. -/
def serverDo (f : State → Abort × State) (s : State) : State :=
  if !s.serverUp then s
  else if s.serverBusy then emit (.abort Ab.busy 0) s
  else let r := f s; emit (.abort r.1.1 r.1.2) (countRefusal r.1.1 r.2)
/-- The host as the writer of such a command. -/
abbrev hostWriter : Committer := ⟨0, none⟩
/-- The chip reset that a write of BOOT.RESET asks for, once the response is out. -/
def afterResponse (s : State) : State := if s.boot.resetAfterResponse then chipReset 5 0xFF 0xFF 0xFF s else s

/-! ### BAR0 (R388, R389) -/

def badAccess (s : State) : State := inc 32 Obj.hostBadAccess s

/-- A write of a 32-bit register of a trough block. -/
def troughRegister (t o n : Nat) (s : State) : State :=
  if o = 4 then (writeHead t n s).2
  else if o = 0x1C then
    (if n = 1 then [Obj.troughDropped, Obj.troughHeadRefused, Obj.troughHighWater].foldl (fun s a => wrE a t 0 s) s else s)
  else if 0x20 ≤ o then badAccess s
  else s

end Sys2Proof.Machine
end

