-- ==== Sys2Proof/Machine/SdpOps.lean ====
section
/-!
DEFINITION. Requests: SDP datagrams and their reassembly (R55 to R58), responses (R60, R62), sessions (R68), signatures and
sequences (R59, R61, R69 to R71), the form of a request (R536), and the mailbox (R73, R74, R388, R389).
-/
namespace Sys2Proof.Machine

/-! ### Responses (R55, R60, R62) -/

/-- The SDP header of a response. -/
def State.rspHeader (s : State) (op session seq len : Nat) : List Byte :=
  beBytes 2 0x5344 ++ beBytes 1 1 ++ beBytes 1 op ++ beBytes 2 5 ++ beBytes 2 (s.rd Obj.nodeNumber) ++ beBytes 4 session
    ++ beBytes 8 seq ++ beBytes 4 len
/-- The header of a response datagram that is not the last. -/
def State.rspHeaderMore (s : State) (op session seq len : Nat) : List Byte :=
  beBytes 2 0x5344 ++ beBytes 1 1 ++ beBytes 1 op ++ beBytes 2 1 ++ beBytes 2 (s.rd Obj.nodeNumber) ++ beBytes 4 session
    ++ beBytes 8 seq ++ beBytes 4 len

/-- The outcome of an op: abort, apply step where the op is an accepted COMMIT, body. -/
structure Reply where
  abort : Abort
  step : Option Nat
  body : List Byte
  deriving DecidableEq, Repr

/-- Preamble and body. -/
def State.replyMessage (s : State) (r : Reply) : List Byte :=
  beBytes 2 r.abort.1 ++ beBytes 2 0 ++ beBytes 4 r.abort.2 ++ beBytes 8 (r.step.getD s.openStep) ++ r.body

/-- The datagrams of a response message from offset o on; `fuel` bounds their number. -/
def sendParts (q : Request) (lim : Nat) : Nat → Nat → List Byte → State → State
  | 0, _, _, s => s
  | fuel + 1, o, m, s =>
    let c := m.take lim
    let last := m.length ≤ lim
    let h := if last then s.rspHeader q.op q.session q.seq (4 + c.length) else s.rspHeaderMore q.op q.session q.seq (4 + c.length)
    let s := emit (.sdp q.port q.source (h ++ beBytes 4 o ++ c)) s
    if last then s else sendParts q lim fuel (o + c.length) (m.drop lim) s

/-- Send a response message, or hand it to the mailbox. -/
def respond (q : Request) (m : List Byte) (s : State) : State :=
  if q.mailbox then { s with mbx := { s.mbx with answer := some (s.rspHeader q.op q.session q.seq m.length ++ m) } }
  else let lim := max 1 (s.rd Obj.sdpRspDatagram - 28); sendParts q lim (m.length / lim + 1) 0 m s

/-! ### Sessions (R68) -/

def State.session? (s : State) (id : Nat) : Option Session := sfind s.sdp.sessions id
def updSession (id : Nat) (f : Session → Session) (s : State) : State :=
  updSdp (fun d => { d with sessions := d.sessions.map (fun p => if p.1 = id then (p.1, f p.2) else p) }) s

/-- A session ends: its bale is discarded, with what it had assembled. -/
def endSession (id : Nat) (s : State) : State :=
  let o := ownerCode (.session id)
  let s := discardBale o s
  updSdp (fun d => { d with sessions := serase id d.sessions, bales := serase o d.bales }) s

/-- Open a session; the identifier is not used again until all others have been. -/
def openSession (keySlot : Option Nat) (timeoutS : Nat) (s : State) : Nat × State :=
  let id := s.sdp.nextId
  (id, updSdp (fun d => { d with
    nextId := if id + 1 = 2 ^ 32 then 1 else id + 1, sessions := sput id ⟨keySlot, timeoutS, s.now, 0, none, 0, []⟩ d.sessions }) s)

/-- SESSION_TIMEOUT. -/
def sessionTimeout (id : Nat) (s : State) : State :=
  match s.session? id with
  | none => s
  | some x =>
    if !s.serverUp then s
    else
      let t := if x.timeoutS = 0 then s.rd Obj.sdpSessionTimeout else x.timeoutS
      match s.dueAt (x.lastUse + t * 1000000000 * nsUnit) with
      | none => s
      | some s => endSession id s

/-! ### Signatures (R61, R69) -/

/-- The 18 signed bytes of a header. -/
def signedHeader (q : Request) : List Byte :=
  beBytes 2 0x5344 ++ beBytes 1 1 ++ beBytes 1 q.op ++ beBytes 2 q.node ++ beBytes 4 q.session ++ beBytes 8 q.seq
abbrev sigBlock : Nat := 3313
def Request.signed (q : Request) : Bool := bit q.flags 1
/-- The message bytes before the signature block. -/
def Request.payload (q : Request) : List Byte := if q.signed then q.msg.take (q.msg.length - sigBlock) else q.msg

/-- Verify a signed request against the slots that `allowed` names: the abort, or the slot. -/
def verifyRequest (q : Request) (allowed : Nat → Bool) (s : State) : Nat × Option Nat :=
  let n := q.msg.length - sigBlock
  if q.msg.length < sigBlock || q.lastLen < sigBlock || beAt q.msg (n + 2) 2 != 3309 then (Ab.badSignature, none)
  else
    let k := beAt q.msg n 1
    match (if allowed k then operatorKey s.dict k else none) with
    | none => (Ab.notAuthorised, none)
    | some key =>
      if Config.verify key (ascii "OUVAC-SDP") (signedHeader q ++ q.msg.take n) (slice q.msg (n + 4) 3309) then (Ab.ok, some k)
      else (Ab.badSignature, none)

/-- Whether an op must be signed, by the op table; `slot` says whether the session has a key slot. -/
def State.mustSign (s : State) (op : Nat) (slot : Bool) : Bool :=
  op == 2 || op == 4 || op == 5 || op == 6
    || ((op == 1 || op == 3 || op == 7) && s.rd Obj.sdpReadSigned == 1) || (op == 9 && slot)

/-- Authorisation of a request: the abort, or the slot that signed it. -/
def authorise (q : Request) (must : Bool) (allowed : Nat → Bool) (s : State) : Nat × Option Nat :=
  if q.signed then verifyRequest q allowed s else (if must then Ab.notAuthorised else Ab.ok, none)

/-! ### Items and the form of a request (R63, R536) -/

structure Item where
  addr : Nat
  flags : Nat
  first : Nat
  count : Nat
  ty : Nat
  bytes : List Byte
  deriving DecidableEq, Repr

/-- The items of a payload; none where it does not divide into at most `fuel` whole items. -/
def parseMsgItems : Nat → List Byte → Option (List Item)
  | _, [] => some []
  | 0, _ => none
  | fuel + 1, b =>
    let n := beAt b 16 4
    let all := 20 + ceilDiv n 4 * 4
    if b.length < all then none
    else
      (parseMsgItems fuel (b.drop all)).map (fun t =>
        ⟨beAt b 0 2 * 256 + beAt b 2 1, beAt b 3 1 % 4, beAt b 4 4 % 2 ^ 24, beAt b 8 4, beAt b 14 1, slice b 20 n⟩ :: t)

/-- Whether a payload has the form that its op requires. -/
def formOk (op : Nat) (b : List Byte) : Bool :=
  if op = 1 ∨ op = 2 then (parseMsgItems 256 b).isSome
  else if op = 3 then b.length == 16
  else if op = 4 then 16 ≤ b.length && b.length == 16 + beAt b 12 4
  else if op = 5 ∨ op = 6 ∨ op = 9 then b.isEmpty
  else if op = 7 ∨ op = 8 then b.length == 4
  else if op = 10 then b.length == 32
  else true

/-! ### Serving one request -/

/-- What an op does: the request, its payload, who asks, and the outcome. -/
abbrev OpAct := Request → List Byte → Committer → State → Reply × State

/-- A session remembers the response to its last accepted request (R71). -/
def storeReply (q : Request) (m : List Byte) (s : State) : State :=
  updSession q.session (fun x => { x with lastSeq := some q.seq, lastOp := q.op, stored := m }) s
/-- The sequence of an accepted request advances (R70). -/
def noteSequence (q : Request) (slot : Option Nat) (s : State) : State :=
  match slot with
  | some k => wrE Obj.sdpSlotSequence k q.seq s
  | none => updSession q.session (fun x => { x with unsigned := q.seq }) s

/-- Refuse a request as a whole; the response to a refused SESSION_OPEN carries session 0 (R536). -/
def refuse (q : Request) (code : Nat) (s : State) : State :=
  s |> countRefusal code |> respond q (s.replyMessage ⟨(code, 0), none, if q.op = 8 then beBytes 4 0 else []⟩)
/-- Execute an accepted request and answer it. -/
def accept (q : Request) (who : Committer) (act : OpAct) (keep : Bool) (s : State) : State :=
  let (r, s) := act q q.payload who s
  let m := s.replyMessage r
  let s := if keep then storeReply q m s else s
  s |> countRefusal r.abort.1 |> respond q m

/-- Whether the sequence of a request is not newer than the last accepted one. -/
def State.staleSeq (s : State) (x : Session) (q : Request) (slot : Option Nat) : Bool :=
  match slot with
  | some k => q.seq ≤ s.rdE Obj.sdpSlotSequence k
  | none => q.seq ≤ x.unsigned

/-- Authorisation of a request within a session (R69). -/
def authSession (q : Request) (x : Session) (s : State) : Nat × Option Nat :=
  if q.signed && x.keySlot.isNone then (Ab.notAuthorised, none)
  else authorise q (s.mustSign q.op x.keySlot.isSome) (fun k => x.keySlot == some k) s

/-- A request within an open session: the signature is judged first, then whether it repeats the last accepted one (R69, R71),
then its sequence and last its form. Where a request fails in several ways, the order is the model's choice (log entry 69). -/
def serveSession (q : Request) (x : Session) (act : OpAct) (s : State) : State :=
  let (a, slot) := authSession q x s
  if a ≠ Ab.ok then refuse q a s
  else if x.lastSeq = some q.seq ∧ x.lastOp = q.op then respond q x.stored s
  else if s.staleSeq x q slot then refuse q Ab.staleSequence s
  else if !formOk q.op q.payload then refuse q Ab.lengthMismatch s
  else accept q ⟨ownerCode (.session q.session), slot⟩ act true (noteSequence q slot s)

/-- A request with session 0 over SDP (R59). -/
def serveOutside (q : Request) (act : OpAct) (s : State) : State :=
  if q.signed then refuse q Ab.notAuthorised s
  else if !formOk q.op q.payload then refuse q Ab.lengthMismatch s
  else accept q ⟨ownerCode (.session 0), none⟩ act false s

/-- The length checks of a mailbox request (R74). -/
def State.mbxLengthBad (s : State) (q : Request) : Bool :=
  !(24 ≤ s.mbx.latched.length && s.mbx.latched.length ≤ 32512) || q.payloadLen != q.msg.length

/-- A request of the mailbox (R74). -/
def serveMailbox (q : Request) (act : OpAct) (s : State) : State :=
  if q.session ≠ 0 then refuse q Ab.valueRange s
  else if s.mbxLengthBad q then refuse q Ab.lengthMismatch s
  else if q.op = 8 ∨ q.op = 9 then refuse q Ab.unknownObject s
  else
    let (a, slot) := authorise q (s.rd Obj.mbxRequireSigned == 1 && s.mustSign q.op false) (fun _ => true) s
    if a ≠ Ab.ok then refuse q a s
    else if (match slot with | some k => decide (q.seq ≤ s.rdE Obj.sdpSlotSequence k) | none => false) then
      refuse q Ab.staleSequence s
    else if !formOk q.op q.payload then refuse q Ab.lengthMismatch s
    else
      let s := match slot with | some k => wrE Obj.sdpSlotSequence k q.seq s | none => s
      accept q ⟨ownerCode .mailbox, slot⟩ act false s

def dropDatagram (s : State) : State := inc 32 Obj.sdpRxDropped s

/-- Serve a request with `act`. -/
def serveRequest (q : Request) (act : OpAct) (s : State) : State :=
  if s.serverBusy then refuse q Ab.busy s
  else if q.mailbox then serveMailbox q act s
  else if q.session = 0 then serveOutside q act s
  else
    match s.session? q.session with
    | none => dropDatagram s
    | some x => serveSession q x act s

/-- An op of the table is executed: the request at the front of the server's queue, where it asks for that op. -/
def serveOp (op : Nat) (act : OpAct) (s : State) : State :=
  match s.sdp.queue with
  | [] => s
  | q :: rest =>
    if q.op ≠ op || !s.serverUp then s
    else
      let s := serveRequest q act (updSdp (fun d => { d with queue := rest }) s)
      if q.mailbox then s else afterResponse s

/-- A request whose op is none of the table's: the checks of its path, then UNKNOWN_OBJECT; it is not accepted (log entry
69). -/
def serveUnknown (q : Request) (s : State) : State :=
  if s.serverBusy then refuse q Ab.busy s
  else if q.mailbox then
    if q.session ≠ 0 then refuse q Ab.valueRange s
    else if s.mbxLengthBad q then refuse q Ab.lengthMismatch s
    else refuse q Ab.unknownObject s
  else
    match s.session? q.session with
    | none => dropDatagram s
    | some x =>
      let (a, _) := authSession q x s
      refuse q (if a = Ab.ok then Ab.unknownObject else a) s

/-- A complete request enters the queue; it is answered at once where the queue is full or its op is none of the table's. The
queue is full with 64 waiting, so that the 65th is refused: R72 does not say whether the request that arrives counts among the
64 (the model's choice, log entry 99). -/
def enqueue (q : Request) (s : State) : State :=
  if 64 ≤ s.sdp.queue.length then refuse q Ab.busy s
  else if !within 1 10 q.op then serveUnknown q s
  else updSdp (fun d => { d with queue := d.queue ++ [q] }) s

/-! ### Datagrams (R55 to R58) -/

/-- Whether a datagram is to be dropped (R55 to R59). The model's choice (log entry 99): one too short for its fragment offset, and
one whose fragment reaches beyond 1,048,576 bytes, are dropped as well. -/
def State.badDatagram (s : State) (b : List Byte) : Bool :=
  let op := beAt b 3 1
  let id := beAt b 8 4
  s.rd Obj.sdpEnable == 0 || b.length < 28 || 9000 < b.length || beAt b 0 2 != 0x5344 || beAt b 2 1 != 1
    || beAt b 6 2 != s.rd Obj.nodeNumber || beAt b 20 4 != b.length - 24 || bit (beAt b 4 2) 0
    || (if id = 0 then op != 8 && op != 10 else (s.session? id).isNone) || 1048576 < beAt b 24 4 + (b.length - 28)

/-- The message being collected that a datagram belongs to. The model's choice (log entry 99): the fragments of one message come
from one sender at one port. -/
def samePartial (p q : Partial) : Bool :=
  p.source == q.source && p.port == q.port && p.op == q.op && p.session == q.session && p.seq == q.seq

/-- A complete message as a request. -/
def Partial.request (p : Partial) (e : Nat × Nat) : Request :=
  ⟨false, p.port, p.source, p.op, p.flags, p.node, p.session, p.seq, e.2, e.1 + e.2, joinParts (e.1 + e.2) p.parts⟩

/-- Add the fragment to the message. The model's choice (log entry 99): the flags of its fragments are joined, so that the message
counts as signed where any of them says so. -/
def addFragment (p : Partial) (off : Nat) (frag : List Byte) (flags : Nat) : Partial :=
  { p with flags := p.flags ||| flags, parts := p.parts ++ [(off, frag)],
           last := if bit flags 2 then some (off, frag.length) else p.last }

/-- SDP_DATAGRAM_RX. -/
def sdpDatagram (port source : Nat) (b : List Byte) (s : State) : State :=
  if !s.serverUp || !s.portUp port then s
  else if s.badDatagram b then dropDatagram s
  else
    let new : Partial := ⟨source, port, beAt b 3 1, 0, beAt b 6 2, beAt b 8 4, beAt b 12 8, s.now, [], none⟩
    let old := s.sdp.partials.find? (samePartial new)
    let p := addFragment (old.getD new) (beAt b 24 4) (b.drop 28) (beAt b 4 2)
    let keep := updSdp (fun d => { d with
      partials := if old.isSome then d.partials.map (fun x => if samePartial new x then p else x) else d.partials ++ [p] }) s
    let others := s.sdp.partials.filter (fun x => !samePartial new x)
    match p.last with
    | some e =>
      if e.1 + e.2 ≤ covered p.parts then
        s |> updSdp (fun d => { d with partials := others }) |> updSession p.session (fun x => { x with lastUse := s.now })
          |> enqueue (p.request e)
      else keep
    | none => keep

/-- SDP_REASSEMBLY_TIMEOUT: the oldest partly received message of a sender is given up 200 ms after its first datagram. -/
def reassemblyTimeout (source : Nat) (s : State) : State :=
  match s.sdp.partials.find? (fun p => p.source == source) with
  | none => s
  | some p =>
    if !s.serverUp then s
    else
      match s.dueAt (p.since + 200000000 * nsUnit) with
      | none => s
      | some s => s |> updSdp (fun d => { d with partials := d.partials.erase p }) |> dropDatagram

/-! ### The mailbox (R73, R74) -/

def updMbx (f : Mbx → Mbx) (s : State) : State := { s with mbx := f s.mbx }
/-- The request that the mailbox has latched. R74 names no check of magic and version: the model's choice (log entry 99) accepts any
and signs with 0x5344 and 1. -/
def State.mbxRequest (s : State) : Request :=
  let b := s.mbx.latched
  ⟨true, 0, 0, beAt b 3 1, beAt b 4 2, beAt b 6 2, beAt b 8 4, beAt b 12 8, b.length - 24, beAt b 20 4, b.drop 24⟩

/-- MBX_GO: the request is latched and, where the server runs, queued; the boot ROM takes it otherwise (R496). -/
def mbxGo (s : State) : State :=
  if !s.barsUp then s
  else if s.mbx.state = 1 then updMbx (fun m => { m with ignored := (m.ignored + 1) % 2 ^ 32 }) s
  else
    let b := (List.range (min s.mbx.reqLen 32513)).map (fun i => sget (0 : Byte) s.mbx.reqBuf i)
    let s := updMbx (fun m => { m with state := 1, latched := b, busyTag := m.tag, answer := none, rspBuf := [] }) s
    if s.serverUp then enqueue s.mbxRequest s else s

/-- The firmware has started: a request that the ROM left unanswered comes to the server. -/
def mbxHandOver (s : State) : State :=
  if s.serverUp && s.mbx.state = 1 && s.mbx.answer.isNone then enqueue s.mbxRequest s else s

/-- Write a response: buffer, length and tag, then DONE (R73). -/
def mbxDone (b : List Byte) (s : State) : State :=
  updMbx (fun m => { m with state := 2, rspBuf := b, rspLen := b.length, rspTag := m.busyTag, answer := none }) s

/-- MBX_RESPONSE. In host boot the boot ROM answers the transfer in the buffer. -/
def mbxResponse (s : State) : State :=
  if s.mbx.state ≠ 1 || !s.barsUp then s
  else
    match s.mbx.answer with
    | some b => s |> mbxDone b |> afterResponse
    | none =>
      if s.romServes 1 then
        match romMessage s.mbx.latched s with
        | (some b, s) => mbxDone b s
        | (none, s) => s
      else s

/-! ### Writes of BAR0 registers (R388, R389) -/

/-- A write of n at a mailbox register. -/
def mailboxRegister (o n : Nat) (s : State) : State :=
  if o = 0 then (if n = 1 || s.mbx.state = 1 then mbxGo s else s)
  else if o = 8 then updMbx (fun m => { m with reqLen := n }) s
  else if o = 0x10 then updMbx (fun m => { m with tag := n }) s
  else if o = 4 || o = 0xC || o = 0x14 || o = 0x18 then s
  else badAccess s
/-- Bytes of the request buffer. -/
def writeReqBuf (o : Nat) (b : List Byte) (s : State) : State :=
  updMbx (fun m => { m with
    reqBuf := ((List.range b.length).zip b).foldl (fun q p => sset (0 : Byte) (o + p.1) p.2 q) m.reqBuf }) s

/-- A host write of bytes at an offset of BAR0. -/
def bar0Write (o : Nat) (b : List Byte) (s : State) : State :=
  let n := b.length
  let v := leNat b
  if !s.barsUp || n = 0 then s
  else if o % 4 ≠ 0 || n % 4 ≠ 0 || 0x1000000 < o + n then badAccess s
  else if o < 0x100000 then (if n = 4 then troughRegister (o / 64) (o % 64) v s else badAccess s)
  else if o < 0x200000 then s
  else if o < 0x200100 then (if n = 4 then mailboxRegister (o - 0x200000) v s else badAccess s)
  else if o < 0x208000 then (if o + n ≤ 0x208000 then writeReqBuf (o - 0x200100) b s else badAccess s)
  else if o < 0x210000 then s
  else if o < 0x220000 then s
  else badAccess s

end Sys2Proof.Machine
end

