-- ==== Sys2Proof/Machine/ServerOps.lean ====
section
/-!
DEFINITION. The ops of the dictionary server: READ and WRITE (R46, R47, R63, R64), READ_BLOCK and WRITE_BLOCK (R65), COMMIT
and DISCARD (R50, R54), LIST (R66), SESSION_OPEN and SESSION_CLOSE (R68), ATTEST (R506).
-/
namespace Sys2Proof.Machine

/-! ### Staged and waiting values (R47) -/

/-- What a collection that lacks bytes holds of element e: a DOMAIN with open bytes in its gaps, an element of an ARRAY once all
its bytes are there (log entry 101). -/
def Chunks.value (c : Chunks) (addr e : Nat) : Option Val :=
  match findObj addr with
  | .found r =>
    let m := joinParts c.total c.parts
    let z := max 1 r.ty.size
    if r.ty = .domain then
      some (.bytes (((List.range c.total).zip m).map (fun p => if c.has p.1 then p.2 else Config.gapByte addr p.1)))
    else if (List.range z).all (fun i => c.has (e * z + i)) then some (.num (wireNat r.ty (slice m (e * z) z))) else none
  | _ => none
/-- What a staged write holds of element e of an object. -/
def Staged.value (w : Staged) (addr e : Nat) : Option Val :=
  if w.addr != addr then none
  else
    match w.chunks with
    | some c => if c.lacks then c.value addr e else if w.first ≤ e then w.vals[e - w.first]? else none
    | none => if w.first ≤ e then w.vals[e - w.first]? else none
/-- The newest of a list of writes that holds element e of an object. -/
def heldValue (ws : List Staged) (addr e : Nat) : Option Val := ws.reverse.findSome? (fun w => w.value addr e)
/-- An element as a READ with item flags shows it to owner o: 1 STAGED, 2 PENDING, 3 both. -/
def State.shown (s : State) (o flags addr e : Nat) : Val :=
  let own := if bit flags 0 then heldValue (s.bale o).staged addr e else none
  let waiting := if bit flags 1 then heldValue (s.sdp.waiting.flatMap (·.writes)) addr e else none
  ((own <|> waiting).getD (s.view o addr e))

/-- The response room of a message: over SDP, and through the mailbox behind the 24-byte header (R64). -/
def room (q : Request) : Nat := if q.mailbox then 32768 - 24 else 1048576

/-! ### READ (R63, R64) -/

/-- The value bytes of a READ item, or its abort. -/
def readItem (o : Nat) (i : Item) (left : Nat) (s : State) : Abort × List Byte :=
  if isDiag i.addr then s.diagAnswer left else
  match findObj i.addr with
  | .unknownObject => ((Ab.unknownObject, 0), [])
  | .unknownSub => ((Ab.unknownSub, 0), [])
  | .found r =>
    if i.ty != 0 && i.ty != r.code then ((Ab.typeMismatch, 0), [])
    else if !r.inRange i.first i.count then ((Ab.elementRange, 0), [])
    else if r.acc = .wo then ((Ab.writeOnly, 0), [])
    else
      let es := (List.range i.count).map (· + i.first)
      match es.findSome? (s.unreadable i.addr) with
      | some d => ((Ab.domainOff, d), [])
      | none =>
        let b := es.flatMap (fun e => valueBytes wireBytes r.ty (s.shown o i.flags i.addr e))
        if left < ceilDiv b.length 4 * 4 then ((Ab.lengthMismatch, i.addr), []) else (noAbort, b)

/-- The type code that a response item carries. -/
def Item.code (i : Item) : Nat :=
  match findObj i.addr with
  | .found r => r.code
  | _ => if isDiag i.addr then Config.diagType i.addr % 256 else i.ty
/-- An item of a response. -/
def responseItem (i : Item) (a : Abort) (b : List Byte) : List Byte :=
  beBytes 2 (i.addr / 256) ++ beBytes 1 (i.addr % 256) ++ beBytes 1 i.flags ++ beBytes 4 i.first ++ beBytes 4 i.count
    ++ beBytes 2 a.1 ++ beBytes 1 i.code ++ beBytes 1 0 ++ beBytes 4 b.length ++ padTo (ceilDiv b.length 4 * 4) b

/-- The first abort of two. -/
def firstAbort (a b : Abort) : Abort := if a.1 = Ab.ok then b else a

/-- The items of a READ in order. -/
def readItems (o : Nat) : List Item → Nat → Abort → List Byte → State → Abort × List Byte × State
  | [], _, a, out, s => (a, out, s)
  | i :: t, left, a, out, s =>
    let (x, b) := readItem o i left s
    let s := if i.addr = Obj.timeNowSec ∧ x.1 = Ab.ok then latchNow s else if isDiag i.addr then drawn s else s
    readItems o t (left - ceilDiv b.length 4 * 4) (firstAbort a x) (out ++ responseItem i x b) s

def opRead : OpAct := fun q b who s =>
  let items := (parseMsgItems 256 b).getD []
  let (a, out, s) := readItems who.owner items (room q - 16 - 20 * items.length) noAbort [] s
  (⟨a, none, out⟩, s)

/-! ### WRITE (R46, R64) -/

def writeItems (who : Committer) : List Item → Abort → List Byte → State → Abort × List Byte × State
  | [], a, out, s => (a, out, s)
  | i :: t, a, out, s =>
    let (x, s) := writeBytes wireNat who i.addr i.ty i.first i.count i.bytes s
    writeItems who t (firstAbort a x) (out ++ responseItem i x []) s

def opWrite : OpAct := fun _ b who s =>
  let (a, out, s) := writeItems who ((parseMsgItems 256 b).getD []) noAbort [] s
  (⟨a, none, out⟩, s)

/-! ### READ_BLOCK and WRITE_BLOCK (R65) -/

structure BlockHdr where
  addr : Nat
  flags : Nat
  off : Nat
  total : Nat
  len : Nat
  deriving DecidableEq, Repr
def blockHdr (b : List Byte) : BlockHdr :=
  ⟨beAt b 0 2 * 256 + beAt b 2 1, beAt b 3 1 % 4, beAt b 4 4, beAt b 8 4, beAt b 12 4⟩
def BlockHdr.bytes (h : BlockHdr) : List Byte :=
  beBytes 2 (h.addr / 256) ++ beBytes 1 (h.addr % 256) ++ beBytes 1 h.flags ++ beBytes 4 h.off ++ beBytes 4 h.total ++ beBytes 4 h.len

/-- Whether an object is moved by the block ops. -/
def ObjRow.blocky (o : ObjRow) : Bool := o.ty == .domain || o.arr

/-- Bytes off to off + n of a value, element by element in the order of an item (log entry 70). -/
def State.blockBytes (s : State) (o flags addr : Nat) (r : ObjRow) (off n : Nat) : List Byte :=
  if r.ty = .domain then slice (s.shown o flags addr 0).toBytes off n
  else
    let z := max 1 r.ty.size
    let es := (List.range (if n = 0 then 0 else (off + n - 1) / z + 1 - off / z)).map (· + off / z)
    slice (es.flatMap (fun e => valueBytes wireBytes r.ty (s.shown o flags addr e))) (off % z) n
def State.blockLength (s : State) (o flags addr : Nat) (r : ObjRow) : Nat :=
  if r.ty = .domain then (s.shown o flags addr 0).toBytes.length else r.cnt * r.ty.size

/-- The domain that keeps some element of an object from being read. -/
def State.unreadableObject (s : State) (addr : Nat) (r : ObjRow) : Option Nat :=
  (List.range r.cnt).findSome? (s.unreadable addr)

/-- A READ_BLOCK: abort, total length and chunk. -/
def readChunk (o : Nat) (h : BlockHdr) (limit : Nat) (s : State) : Abort × Nat × List Byte :=
  if isDiag h.addr then let r := s.diagAnswer (min h.len limit); (r.1, r.2.length, r.2) else
  match findObj h.addr with
  | .unknownObject => ((Ab.unknownObject, 0), 0, [])
  | .unknownSub => ((Ab.unknownSub, 0), 0, [])
  | .found r =>
    if !r.blocky then ((Ab.typeMismatch, 0), 0, [])
    else if r.acc = .wo then ((Ab.writeOnly, 0), 0, [])
    else
      match s.unreadableObject h.addr r with
      | some d => ((Ab.domainOff, d), 0, [])
      | none =>
        let total := s.blockLength o h.flags h.addr r
        if total < h.off then ((Ab.elementRange, 0), total, [])
        else (noAbort, total, s.blockBytes o h.flags h.addr r h.off (min (min h.len (total - h.off)) limit))

def opReadBlock : OpAct := fun q b who s =>
  let h := blockHdr b
  let (a, total, chunk) := readChunk who.owner h (room q - 32) s
  (⟨a, none, ({ h with total := total, len := chunk.length } : BlockHdr).bytes ++ chunk⟩, if isDiag h.addr then drawn s else s)

/-- The elements of an array that the parts cover and that a chunk has brought bytes of. -/
def chunkAbort (r : ObjRow) (c : Chunks) (off len : Nat) : Nat :=
  if r.ty = .domain then Ab.ok
  else
    let z := max 1 r.ty.size
    let whole := joinParts c.total c.parts
    let es := (List.range ((off + len + z - 1) / z - off / z)).map (· + off / z)
    let full := es.filter (fun e => (List.range z).all (fun i => c.has (e * z + i)))
    valuesAbort r (full.map (fun e => .num (wireNat r.ty (slice whole (e * z) z))))

/-- What a requester has collected of an object. -/
def State.collected (s : State) (o addr : Nat) (r : ObjRow) : Option Chunks :=
  if r.acc = .rwb then (((s.bale o).staged.find? (fun w => w.addr == addr && w.chunks.isSome)).bind (·.chunks))
  else (s.sdp.assemblies.find? (fun a => a.1 == o && a.2.1 == addr)).map (·.2.2)
/-- Forget what a requester has collected of an object; a new chunk at offset 0 restarts the staged value as a whole. -/
def dropCollected (o addr : Nat) (restart : Bool) (s : State) : State :=
  let s := updSdp (fun d => { d with assemblies := d.assemblies.filter (fun a => !(a.1 == o && a.2.1 == addr)) }) s
  updBale o (fun b => { b with staged := b.staged.filter (fun w => !(w.addr == addr && (w.chunks.isSome || restart))) }) s

/-- The values of a complete assembly. -/
def assembled (r : ObjRow) (c : Chunks) : List Val :=
  let m := joinParts c.total c.parts
  if r.ty = .domain then [.bytes m] else valuesOf wireNat r (c.total / max 1 r.ty.size) m

/-- Whether a declared total length suits an object. The model's choice (log entry 99): that of an ARRAY is a multiple of the
element size. -/
def totalOk (addr : Nat) (r : ObjRow) (n : Nat) : Bool :=
  if r.ty = .domain then lengthOk addr r 1 n else n % max 1 r.ty.size == 0 && n ≤ r.cnt * r.ty.size

/-- Keep a collection that lacks bytes. -/
def keepChunks (o addr : Nat) (r : ObjRow) (c : Chunks) (s : State) : Abort × State :=
  if r.acc = .rwb then let (a, s) := stage o ⟨addr, 0, [], some c, 0, false⟩ s; ((a, 0), s)
  else (noAbort, updSdp (fun d => { d with assemblies := d.assemblies ++ [(o, addr, c)] }) s)

/-- The staged values of an address have been held since n (R53). -/
def heldSince (o addr : Nat) (n : Option Nat) (s : State) : State :=
  match n with
  | none => s
  | some n => updBale o (fun b => { b with staged := b.staged.map (fun w => if w.addr = addr then { w with order := n } else w) }) s

/-- A chunk that fits: it is kept, or its value is whole and written. A refusal leaves everything as it was. -/
def takeChunk (who : Committer) (addr : Nat) (r : ObjRow) (c : Chunks) (s0 : State) : Abort × State :=
  let s := dropCollected who.owner addr (c.parts.length == 1) s0
  let (a, s) := if c.lacks then keepChunks who.owner addr r c s
    else writeChunks who addr r 0 (assembled r c) (if r.acc = .rwb then some c else none) s
  let s := heldSince who.owner addr (((s0.bale who.owner).staged.find? (fun w => w.addr == addr && !w.stale)).map (·.order)) s
  if a.1 != Ab.ok && r.acc = .rwb then (a, s0) else (a, s)

/-- A WRITE_BLOCK. -/
def writeChunk (who : Committer) (h : BlockHdr) (chunk : List Byte) (s : State) : Abort × State :=
  if isDiag h.addr then diagWrite s else
  match findObj h.addr with
  | .unknownObject => ((Ab.unknownObject, 0), s)
  | .unknownSub => ((Ab.unknownSub, 0), s)
  | .found r =>
    if !r.blocky then ((Ab.typeMismatch, 0), s)
    else if !r.writable h.addr then ((Ab.readOnly, 0), s)
    else
      let have? := if h.off = 0 then some ⟨h.total, []⟩ else s.collected who.owner h.addr r
      match have? with
      | none => ((Ab.lengthMismatch, h.addr), s)
      | some c =>
        let c : Chunks := { c with parts := c.parts ++ [(h.off, chunk)] }
        if c.total < h.off + chunk.length || !totalOk h.addr r c.total then ((Ab.lengthMismatch, h.addr), s)
        else
          let a := chunkAbort r c h.off chunk.length
          if a != Ab.ok then ((a, 0), s) else takeChunk who h.addr r c s

def opWriteBlock : OpAct := fun _ b who s =>
  let h := blockHdr b
  let (a, s) := writeChunk who h (b.drop 16) s
  (⟨a, none, h.bytes⟩, s)

/-! ### COMMIT and DISCARD -/

def opCommit : OpAct := fun _ _ who s =>
  let (a, j, s) := commitBale who s
  (⟨a, if a.1 = Ab.ok then some j else none, []⟩, s)
def opDiscard : OpAct := fun _ _ who s => (⟨noAbort, none, []⟩, discardBale who.owner s)

/-! ### LIST (R66) -/

/-- The entry of one object. -/
def listEntry (index sub : Nat) (r : ObjRow) : List Byte :=
  beBytes 2 index ++ beBytes 1 sub ++ beBytes 1 r.code ++ beBytes 1 (accessOf (index * 256 + sub) r).code ++ beBytes 3 0 ++ beBytes 4 r.cnt
/-- The entries of an index. -/
def indexEntries (b : ObjBlock) (index : Nat) : List Byte :=
  (List.range (b.maxSub + 1)).flatMap (fun sub =>
    match findObj (index * 256 + sub) with
    | .found r => listEntry index sub r
    | _ => [])
/-- The entries of an index of 0xF000 to 0xFFFF, which change between firmware releases. -/
def diagEntries (index : Nat) : List Byte :=
  (Config.diagIndex index).flatMap (fun o =>
    beBytes 2 index ++ beBytes 1 o.1 ++ beBytes 1 o.2.1 ++ beBytes 1 o.2.2.1 ++ beBytes 3 0 ++ beBytes 4 o.2.2.2)
/-- The indices that exist in a range, ascending. -/
def indicesIn (lo hi : Nat) : List (Nat × ObjBlock) :=
  sortBy (fun (a b : Nat × ObjBlock) => decide (a.1 ≤ b.1))
    (objBlocks.flatMap (fun b => ((List.range b.units).map (fun u => (b.base + u, b))).filter (fun p => lo ≤ p.1 && p.1 ≤ hi)))
/-- Whole indices as far as they fit; the first index that does not, if any. -/
def listFit : List (Nat × List Byte) → Nat → List Byte → List Byte × Option Nat
  | [], _, out => (out, none)
  | (i, e) :: t, left, out =>
    if left < e.length then (out, some i) else listFit t (left - e.length) (out ++ e)

/-- The indices of a range with their entries, those of the diagnostics objects among them (R9). -/
def listedIndices (lo hi : Nat) : List (Nat × List Byte) :=
  (indicesIn lo hi).map (fun p => (p.1, indexEntries p.2 p.1))
    ++ ((List.range (hi + 1 - max lo 0xF000)).map (· + max lo 0xF000)).map (fun i => (i, diagEntries i))

def opList : OpAct := fun q b _ s =>
  let (out, rest) := listFit (listedIndices (beAt b 0 2) (beAt b 2 2)) (room q - 16) []
  (⟨(Ab.ok, rest.getD 0), none, out⟩, s)

/-! ### Sessions and attestation -/

/-- SESSION_OPEN. The model's choice (log entry 99): within an open session it opens a further one. -/
def opSessionOpen : OpAct := fun _ b _ s =>
  let k := beAt b 0 1
  if 8 ≤ k && k ≤ 0xFE then (⟨(Ab.valueRange, 0), none, beBytes 4 0⟩, s)
  else if 16 ≤ s.sdp.sessions.length then (⟨(Ab.busy, 0), none, beBytes 4 0⟩, s)
  else
    let (id, s) := openSession (if k = 0xFF then none else some k) (beAt b 2 2) s
    (⟨noAbort, none, beBytes 4 id⟩, s)
def opSessionClose : OpAct := fun q _ _ s => (⟨noAbort, none, []⟩, endSession q.session s)

def opAttest : OpAct := fun _ b _ s =>
  match s.attest b with
  | some m => (⟨noAbort, none, m⟩, s)
  | none => (⟨(Ab.graveFault, secBlock), none, []⟩, s)

end Sys2Proof.Machine
end

