-- ==== Sys2Proof/Machine/BootCommands.lean ====
section
/-!
DEFINITION. Boot, QSPI and fuses (one meaning for each row).
-/
namespace Sys2Proof.Machine

/-- The firmware starts, and takes over the mailbox (R496). -/
def startFirmware (s : State) : State :=
  if s.boot.phase = .verified then s |> firmwareStart |> mbxHandOver else s

/-- FIRMWARE_START: Verified firmware starts its dictionary server and applies any valid configuration block (R504). -/
def execFirmwareStart (s : State) : Host.Outcome State Fault Refusal :=
  runPower startFirmware s

/-- BOOT_RESET: A write of 1 to BOOT.RESET causes a chip reset after the response (R454). -/
def execBootReset (s : State) : Host.Outcome State Fault Refusal :=
  run (fun s => afterResponse (serverDo bootResetCommand s)) s

/-- QSPI_WRITE_IMAGE: BOOT.QSPI_WRITE 1 writes a firmware image and a configuration block to QSPI (R501). -/
def execQspiWriteImage (s : State) : Host.Outcome State Fault Refusal :=
  run (serverDo (fun s => withDetail Obj.bootQspiWrite (qspiWrite 1 s))) s

/-- QSPI_WRITE_CONFIG: BOOT.QSPI_WRITE 2 writes a new configuration block after the existing image (R501). -/
def execQspiWriteConfig (s : State) : Host.Outcome State Fault Refusal :=
  run (serverDo (fun s => withDetail Obj.bootQspiWrite (qspiWrite 2 s))) s

/-- QSPI_ERASE_POINTER: BOOT.QSPI_WRITE 3 erases the boot pointer (R501). -/
def execQspiErasePointer (s : State) : Host.Outcome State Fault Refusal :=
  run (serverDo (fun s => withDetail Obj.bootQspiWrite (qspiWrite 3 s))) s

/-- QSPI_WRITE_DONE: A QSPI write ends done, or failed with its status (R502). -/
def execQspiWriteDone (flashError : Bool) (s : State) : Host.Outcome State Fault Refusal :=
  run (qspiDone flashError) s

/-- ROLLBACK_ADVANCE: A write of SEC.ROLLBACK_ADVANCE blows anti-rollback and revocation fuses (R500). -/
def execRollbackAdvance (value : Nat) (s : State) : Host.Outcome State Fault Refusal :=
  run (serverDo (fun s => withDetail Obj.secRollbackAdvance (rollbackAdvance value s))) s

/-- FW_WATCHDOG: The firmware does not service its hardware watchdog within 100 ms, and FW_WATCHDOG fires a chip reset
(R475). -/
def execFwWatchdog (s : State) : Host.Outcome State Fault Refusal :=
  run fwWatchdog s

end Sys2Proof.Machine
end

