-- ==== Sys2Proof/Machine/DictCommands.lean ====
section
/-!
DEFINITION. SDP, the dictionary server's ops, the mailbox and single writes (one meaning for each row).
-/
namespace Sys2Proof.Machine

/-- A write by the host that carries no signature: refused while MBX.REQUIRE_SIGNED is 1 (R74). -/
def hostDo (f : State → Abort × State) (s : State) : State :=
  serverDo (fun s => if s.rd Obj.mbxRequireSigned = 1 then ((Ab.notAuthorised, 0), s) else f s) s

/-- A write of 1 or 2 to BALE.COMMIT by the owner of a bale: the mailbox, or an open session. A session with a key slot has
signed it; one without may not write (R69). -/
def ownBale (who : Owner) (n : Nat) (s : State) : State :=
  match who with
  | .mailbox => hostDo (baleCommand hostWriter n) s
  | .session id =>
    match s.session? id with
    | some x =>
      serverDo (fun s => match x.keySlot with
        | some k => baleCommand ⟨ownerCode (.session id), some k⟩ n s
        | none => ((Ab.notAuthorised, 0), s)) s
    | none => s
  | _ => s

/-- A read of TIME.NOW_SEC (R406). -/
def timeNowRead (s : State) : State :=
  if !s.serverUp || s.serverBusy then s else s |> latchNow |> emit (.bytes (beBytes 8 (s.nowNs / 1000000000)))

/-- A write of values to an object of the dictionary, with the checks of an item. -/
def objectWrite (addr e : Nat) (vs : List Nat) (s : State) : Abort × State :=
  if isDiag addr then diagWrite s else
  match findObj addr with
  | .unknownObject => ((Ab.unknownObject, 0), s)
  | .unknownSub => ((Ab.unknownSub, 0), s)
  | .found o =>
    if o.ty = .str ∨ o.ty = .domain then ((Ab.typeMismatch, 0), s)
    else if !o.inRange e vs.length then ((Ab.elementRange, 0), s)
    else if !o.writable addr then ((Ab.readOnly, 0), s)
    else
      let xs : List Val := vs.map (fun v => .num (v % 2 ^ (8 * o.ty.size)))
      let a := valuesAbort o xs
      if a != Ab.ok then ((a, 0), s) else writeValues hostWriter addr o e xs s

/-- A REGISTER_WRITE at its target. -/
def registerWrite : RegTarget → State → State
  | .object addr e vs, s => hostDo (objectWrite addr e vs) s
  | .domain addr b, s => hostDo (writeBytes wireNat hostWriter addr 0 0 1 b) s
  | .bar0 o b, s => bar0Write o b s

/-- SDP_DATAGRAM_RX: An SDP datagram is received and its fragment is stored toward its message, or it is dropped and
counted (R56). -/
def execSdpDatagramRx (port source : Nat) (payload : List Byte) (s : State) : Host.Outcome State Fault Refusal :=
  runIf (port < 2) (sdpDatagram port source payload) s

/-- SDP_REASSEMBLY_TIMEOUT: A partly received message is discarded 200 ms after its first datagram (R57). -/
def execSdpReassemblyTimeout (source : Nat) (s : State) : Host.Outcome State Fault Refusal :=
  run (reassemblyTimeout source) s

/-- SESSION_TIMEOUT: An SDP session with no request within its timeout ends and its bale is discarded (R68). -/
def execSessionTimeout (id : Nat) (s : State) : Host.Outcome State Fault Refusal :=
  run (sessionTimeout id) s

/-- READ: A READ request returns the values in force, staged or pending of its items (R47). -/
def execRead (s : State) : Host.Outcome State Fault Refusal :=
  run (serveOp 1 opRead) s

/-- WRITE: A WRITE request stages RWB values in the writer's bale, or acts at once on RW and WO objects (R46). -/
def execWrite (s : State) : Host.Outcome State Fault Refusal :=
  runPower (serveOp 2 opWrite) s

/-- READ_BLOCK: A READ_BLOCK request returns one chunk of a DOMAIN or ARRAY value (R65). -/
def execReadBlock (s : State) : Host.Outcome State Fault Refusal :=
  run (serveOp 3 opReadBlock) s

/-- WRITE_BLOCK: A WRITE_BLOCK request stages or assembles one chunk of a DOMAIN or ARRAY value (R65). -/
def execWriteBlock (s : State) : Host.Outcome State Fault Refusal :=
  run (serveOp 4 opWriteBlock) s

/-- COMMIT: A COMMIT runs the checks on the requester's bale and, if they pass, makes it waiting for its apply step
(R48). -/
def execCommit (s : State) : Host.Outcome State Fault Refusal :=
  runPower (serveOp 5 opCommit) s

/-- DISCARD: A DISCARD empties the requester's bale and releases its claims (R54). -/
def execDiscard (s : State) : Host.Outcome State Fault Refusal :=
  run (serveOp 6 opDiscard) s

/-- LIST: A LIST request returns the entries of the existing objects in an index range (R66). -/
def execList (s : State) : Host.Outcome State Fault Refusal :=
  run (serveOp 7 opList) s

/-- SESSION_OPEN: A SESSION_OPEN request opens a new SDP session, or is refused (R68). -/
def execSessionOpen (s : State) : Host.Outcome State Fault Refusal :=
  run (serveOp 8 opSessionOpen) s

/-- SESSION_CLOSE: A SESSION_CLOSE request ends the session and discards its bale (R68). -/
def execSessionClose (s : State) : Host.Outcome State Fault Refusal :=
  run (serveOp 9 opSessionClose) s

/-- ATTEST: An ATTEST request returns the attestation report signed by the identity key (R506). -/
def execAttest (s : State) : Host.Outcome State Fault Refusal :=
  run (serveOp 10 opAttest) s

/-- BALE_COMMIT: A write of 1 to BALE.COMMIT commits the requester's own bale (R48). -/
def execBaleCommit (who : Owner) (s : State) : Host.Outcome State Fault Refusal :=
  runPower (ownBale who 1) s

/-- BALE_DISCARD: A write of 2 to BALE.COMMIT discards the requester's own bale (R54). -/
def execBaleDiscard (who : Owner) (s : State) : Host.Outcome State Fault Refusal :=
  run (ownBale who 2) s

/-- MBX_GO: A host write of MBX_GO latches and starts the request in the mailbox, or is ignored and counted while BUSY
(R74). -/
def execMbxGo (s : State) : Host.Outcome State Fault Refusal :=
  run mbxGo s

/-- MBX_RESPONSE: The mailbox response is written, then MBX_STATE becomes DONE (R73). -/
def execMbxResponse (s : State) : Host.Outcome State Fault Refusal :=
  runPower mbxResponse s

/-- REGISTER_WRITE: A write to an RW object or BAR0 register that has no row of its own takes effect, or is ignored and
counted as a bad access (R40). -/
def execRegisterWrite (target : RegTarget) (s : State) : Host.Outcome State Fault Refusal :=
  runPower (registerWrite target) s

/-- COUNTER_CLEAR: A write of 1 to a block's CLEAR object clears the counters that the object names (R41). -/
def execCounterClear (addr : Nat) (s : State) : Host.Outcome State Fault Refusal :=
  run (serverDo (fun s => (noAbort, counterClear addr s))) s

/-- TIME_NOW_LATCH: A read of TIME.NOW_SEC latches TIME.NOW_NS and TIME.NOW_FRAC (R406). -/
def execTimeNowLatch (s : State) : Host.Outcome State Fault Refusal :=
  run timeNowRead s

end Sys2Proof.Machine
end

