-- ==== Sys2Proof/Machine/FaultCommands.lean ====
section
/-!
DEFINITION. Fault records and muck-out (one meaning for each row).
-/
namespace Sys2Proof.Machine

/-- PADDOCK_RESET_DONE: The paddock reset ends and fusion resumes from the oldest step not DONE (R335). -/
def execPaddockResetDone (s : State) : Host.Outcome State Fault Refusal :=
  run paddockResetDone s

/-- FAULT_CLEAR: A write of FAULT.CLEAR clears the named sticky bits, or is refused for a GRAVE bit (R476). -/
def execFaultClear (b mask : Nat) (s : State) : Host.Outcome State Fault Refusal :=
  runPower (serverDo (fun s => withDetail (Obj.faultClear b) (faultClear b (mask % 2 ^ 32) s))) s

/-- FAULT_FORCE: A write of FAULT.FORCE forces sources to act as lasting states (R477). -/
def execFaultForce (b mask : Nat) (s : State) : Host.Outcome State Fault Refusal :=
  runPower (serverDo (fun s => withDomain (blockDomain b) (faultForce b (mask % 2 ^ 32) s))) s

/-- FAULT_CLEAR_COUNTS: A write of FAULT.CLEAR_COUNTS clears a block's counts and first and last fields (R471). -/
def execFaultClearCounts (b : Nat) (s : State) : Host.Outcome State Fault Refusal :=
  run (serverDo (fun s => (noAbort, faultClearCounts b s))) s

/-- MUCK_PASS_START: A unit's muck-out pass starts when its period allows, and a late pass is counted (R488). -/
def execMuckPassStart (u : Nat) (s : State) : Host.Outcome State Fault Refusal :=
  runIf (u < 87) (muckPassStart u) s

/-- SLICE_START: A slice starts on an idle unit whose domain is ON with target ON, under a MUCK ON vote (R485). -/
def execSliceStart (u : Nat) (s : State) : Host.Outcome State Fault Refusal :=
  runPowerIf (u < 87) (sliceStart u) s

/-- SLICE_PREEMPT: Work for the unit pre-empts the slice at its next pre-emption point, and the slice is discarded and
counted (R486). -/
def execSlicePreempt (u : Nat) (why : PreemptCause) (s : State) : Host.Outcome State Fault Refusal :=
  runPowerIf (u < 87) (slicePreempt u why) s

/-- SLICE_END: A slice ends and its signature is compared, giving a pass, failure, transient or confirmed failure
(R489). -/
def execSliceEnd (u : Nat) (observed : Nat) (s : State) : Host.Outcome State Fault Refusal :=
  runPowerIf (u < 87) (sliceEnd u observed) s

/-- MUCK_REQUEST: A write of MUCK.REQUEST queues a pass of the named unit at once (R488). -/
def execMuckRequest (u : Nat) (s : State) : Host.Outcome State Fault Refusal :=
  run (serverDo (fun s => withDetail Obj.muckRequest (muckRequest u s))) s

/-- MUCK_RELEASE: A write of MUCK.RELEASE runs a full pass of an out-of-service stall and clears its mark if every slice
passes (R491). -/
def execMuckRelease (s : Nat) (st : State) : Host.Outcome State Fault Refusal :=
  run (serverDo (fun st => withDomain (stallDomain s) (muckRelease s st))) st

end Sys2Proof.Machine
end

