-- ==== Sys2Proof/Machine/GateCommands.lean ====
section
/-!
DEFINITION. Gates: packets, words, silence, staging and tables (one meaning for each row).
-/
namespace Sys2Proof.Machine

/-- CSI2_PACKET: A CSI-2 packet is received whole on a gate, checked and routed by virtual channel (R80). -/
def execCsi2Packet (g : Nat) (p : Packet) (s : State) : Host.Outcome State Fault Refusal :=
  runIf (g < 36) (csi2Packet g p) s

/-- EV_NEG: A decoded EV_NEG word yields one negative event through the gate pipeline (R84). -/
def execEvNeg (g : Nat) (s : State) : Host.Outcome State Fault Refusal :=
  runIf (g < 36) (evWord g false) s

/-- EV_POS: A decoded EV_POS word yields one positive event through the gate pipeline (R84). -/
def execEvPos (g : Nat) (s : State) : Host.Outcome State Fault Refusal :=
  runIf (g < 36) (evWord g true) s

/-- VEC_NEG: A VEC_NEG word and its mask word expand into negative events (R87). -/
def execVecNeg (g : Nat) (s : State) : Host.Outcome State Fault Refusal :=
  runIf (g < 36) (vecWord g false) s

/-- VEC_POS: A VEC_POS word and its mask word expand into positive events (R87). -/
def execVecPos (g : Nat) (s : State) : Host.Outcome State Fault Refusal :=
  runIf (g < 36) (vecWord g true) s

/-- TIME_HIGH: A TIME_HIGH word extends the gate's span count TH and advances its watermark (R85). -/
def execTimeHigh (g : Nat) (s : State) : Host.Outcome State Fault Refusal :=
  runIf (g < 36) (timeHighWord g) s

/-- MARKER: A MARKER word is paired with a GSYNC edge and its residual is stored and passed to the groom (R94). -/
def execMarker (g : Nat) (s : State) : Host.Outcome State Fault Refusal :=
  runIf (g < 36) (markerWord g) s

/-- PAD: A PAD word is ignored (R84). -/
def execPad (g : Nat) (s : State) : Host.Outcome State Fault Refusal :=
  runIf (g < 36) (padWord g) s

/-- STATUS: A STATUS word is passed to the groom and kept in GROOM.SENSOR_STATUS (R121). -/
def execStatus (g : Nat) (s : State) : Host.Outcome State Fault Refusal :=
  runIf (g < 36) (statusWordIn g) s

/-- RESERVED_WORD: A word of a reserved type is counted and discarded (R88). -/
def execReservedWord (g : Nat) (s : State) : Host.Outcome State Fault Refusal :=
  runIf (g < 36) (reservedWord g) s

/-- STAGING_FLUSH_TIMEOUT: A staging block is flushed 20 µs after its first event (R104). -/
def execStagingFlushTimeout (g : Nat) (s : State) : Host.Outcome State Fault Refusal :=
  runIf (g < 36) (stagingFlush g) s

/-- BLOCK_RELEASE: A stall releases a ring block it has consumed, and a block waiting in staging may then be written
(R105). -/
def execBlockRelease (g block : Nat) (s : State) : Host.Outcome State Fault Refusal :=
  runIf (g < 36) (blockRelease g block) s

/-- TABLE_LOAD_LATE_SWITCH: A gate whose watermark already passed B_j switches banks as soon as the late table load
completes (R108). -/
def execTableLoadLateSwitch (g : Nat) (s : State) : Host.Outcome State Fault Refusal :=
  runIf (g < 36) (tableLoadLate g) s

/-- TABLE_SWITCH_LIMIT: A gate that has not yet switched banks switches at B_{j+SL} (R109). -/
def execTableSwitchLimit (g : Nat) (s : State) : Host.Outcome State Fault Refusal :=
  runIf (g < 36) (tableSwitchLimit g) s

/-- DESKEW_SEQUENCE: A D-PHY deskew sequence arrives on a gate's lanes, and the receiver aligns the lanes or sets
DESKEW_FAIL (R79). -/
def execDeskewSequence (g : Nat) (aligned : Bool) (s : State) : Host.Outcome State Fault Refusal :=
  runIf (g < 36) (deskewSequence g aligned) s

end Sys2Proof.Machine
end

