-- ==== Sys2Proof/Machine/GroomCommands.lean ====
section
/-!
DEFINITION. Groom and sieve (one meaning for each row).
-/
namespace Sys2Proof.Machine

/-- GROOM_CYCLE_START: At a cycle's start boundary the groom freezes its windows and estimates every category for each
gate (R122). -/
def execGroomCycleStart (s : State) : Host.Outcome State Fault Refusal :=
  run groomCycleStart s

/-- GROOM_EPOCH_COMMIT: When its estimates are done, the groom writes its proposals and commits its epoch as a COMMIT of
its own bale (R127). -/
def execGroomEpochCommit (s : State) : Host.Outcome State Fault Refusal :=
  run groomEpochCommit s

/-- GROOM_ACCEPT: A write to GROOM.ACCEPT adds a proposal to a groom epoch committed at once, or is refused (R144). -/
def execGroomAccept (number : Nat) (s : State) : Host.Outcome State Fault Refusal :=
  run (serverDo (fun s => withDetail Obj.groomAccept (groomAccept number s))) s

/-- BIAS_SCRIPT_GIVE_UP: After one cycle of failed queueing the groom gives up the bias script and sets BIAS_SCRIPT_FAIL
(R143). -/
def execBiasScriptGiveUp (g : Nat) (s : State) : Host.Outcome State Fault Refusal :=
  runIf (g < 36) (biasGiveUp g) s

/-- CHAIN_INPUT: An input sample reaches a sieve chain and passes its FIR, decimator and biquads (R148). -/
def execChainInput (c : Nat) (s : State) : Host.Outcome State Fault Refusal :=
  runIf (c < 16) (chainInput c) s

/-- CHAIN_SETTLED: After CHAIN.SETTLE outputs the chain enters RUNNING and its detector starts SEARCHING (R158). -/
def execChainSettled (c : Nat) (s : State) : Host.Outcome State Fault Refusal :=
  runIf (c < 16) (chainSettled c) s

/-- SIEVE_EVALUATION: At the evaluation period the sieve evaluates its detectors and commits a sieve epoch of window
changes (R163). -/
def execSieveEvaluation (s : State) : Host.Outcome State Fault Refusal :=
  run sieveEvaluation s

end Sys2Proof.Machine
end

