-- ==== Sys2Proof/Machine/HostCommands.lean ====
section
/-!
DEFINITION. The host link and the recovery port (one meaning for each row).
-/
namespace Sys2Proof.Machine

/-- USB4_LINK_UP: The USB4 link trains and the link state becomes USB4_UP (R386). -/
def execUsb4LinkUp (rate : Nat) (s : State) : Host.Outcome State Fault Refusal :=
  run (usb4LinkUp rate) s

/-- PCIE_TUNNEL_UP: The host router sets up the PCIe tunnel and the link state becomes PCIE_UP (R386). -/
def execPcieTunnelUp (s : State) : Host.Outcome State Fault Refusal :=
  run pcieTunnelUp s

/-- BUS_MASTER_ENTER: Memory Space and Bus Master Enable are set in D0, and the host window becomes present (R392). -/
def execBusMasterEnter (s : State) : Host.Outcome State Fault Refusal :=
  run busMasterEnter s

/-- BUS_MASTER_EXIT: An enable is cleared or D3hot is entered, and the host window becomes absent (R392). -/
def execBusMasterExit (d3hot : Bool) (s : State) : Host.Outcome State Fault Refusal :=
  run (busMasterExit d3hot) s

/-- PCIE_FUNCTION_RESET: A hot reset or Function Level Reset causes a link loss and resets configuration space (R396).
-/
def execPcieFunctionReset (s : State) : Host.Outcome State Fault Refusal :=
  run (functionReset) s

/-- USB4_LINK_LOSS: The USB4 link or tunnel is lost, or D2 leaves ON, and the link-loss actions run (R396). -/
def execUsb4LinkLoss (s : State) : Host.Outcome State Fault Refusal :=
  run dropLink s

/-- BAR2_ACCESS: A host access through BAR2 reaches device memory, or meets an absent region and is counted (R391). -/
def execBar2Access (isWrite : Bool) (offset len : Nat) (data : List Byte) (s : State) : Host.Outcome State Fault Refusal :=
  run (bar2Access isWrite offset len data) s

/-- TIME_SECONDS_LATCH: A read of status page offset 0x0018 latches device time nanoseconds (R389). -/
def execTimeSecondsLatch (s : State) : Host.Outcome State Fault Refusal :=
  run timeSecondsLatch s

/-- STATUS_CLEAR_ON_READ: A read of a clear-on-read status page word returns and clears HOST.BAD_ACCESS or
HOST.BAR2_ABSENT (R389). -/
def execStatusClearOnRead (offset : Nat) (s : State) : Host.Outcome State Fault Refusal :=
  run (statusClear offset) s

/-- RECOVERY_IDENTIFY: An IDENTIFY transfer returns the serial, silicon revision and reset cause (R398). -/
def execRecoveryIdentify (h : RecHdr) (s : State) : Host.Outcome State Fault Refusal :=
  run (usbIdentify h) s

/-- RECOVERY_LOAD: A LOAD transfer writes image bytes at an offset (R398). -/
def execRecoveryLoad (h : RecHdr) (offset : Nat) (bytes : List Byte) (s : State) : Host.Outcome State Fault Refusal :=
  run (usbLoad h offset bytes) s

/-- RECOVERY_BOOT: A BOOT transfer verifies the loaded image and starts it (R398). -/
def execRecoveryBoot (h : RecHdr) (len : Nat) (s : State) : Host.Outcome State Fault Refusal :=
  run (usbBoot h len) s

/-- RECOVERY_STATUS: A STATUS transfer returns the status of the last LOAD or BOOT (R398). -/
def execRecoveryStatus (h : RecHdr) (s : State) : Host.Outcome State Fault Refusal :=
  run (usbStatus h) s

end Sys2Proof.Machine
end

