-- ==== Sys2Proof/Machine/I2cCommands.lean ====
section
/-!
DEFINITION. The I²C masters: scripts and their records (one meaning for each row).
-/
namespace Sys2Proof.Machine

/-- A write of a script to I2C.XFER_g. -/
def scriptWrite (g : Nat) (b : List Byte) (s : State) : Abort × State :=
  if 4096 < b.length then ((Ab.lengthMismatch, Obj.i2cXfer g), s) else withDetail (Obj.i2cXfer g) (i2cXfer g b s)

/-- I2C_XFER: A write of I2C.XFER_g queues a script on the group's I2C master, or is refused with BUSY (R111). -/
def execI2cXfer (grp : Nat) (script : List Byte) (s : State) : Host.Outcome State Fault Refusal :=
  runIf (grp < 6) (serverDo (scriptWrite grp script)) s

/-- I2C_WRITE: A WRITE record writes bytes to an I2C address (R112). -/
def execI2cWrite (grp : Nat) (answer : I2cAnswer) (s : State) : Host.Outcome State Fault Refusal :=
  runIf (grp < 6) (i2cWrite grp answer) s

/-- I2C_READ: A READ record reads bytes from an I2C address (R112). -/
def execI2cRead (grp : Nat) (answer : I2cAnswer) (s : State) : Host.Outcome State Fault Refusal :=
  runIf (grp < 6) (i2cRead grp answer) s

/-- I2C_WRITE_READ: A WRITE_READ record writes and then reads with a repeated start (R112). -/
def execI2cWriteRead (grp : Nat) (answer : I2cAnswer) (s : State) : Host.Outcome State Fault Refusal :=
  runIf (grp < 6) (i2cWriteRead grp answer) s

/-- I2C_DELAY: A DELAY record waits in units of 10 µs (R112). -/
def execI2cDelay (grp : Nat) (s : State) : Host.Outcome State Fault Refusal :=
  runIf (grp < 6) (i2cDelay grp) s

/-- I2C_END: An END record completes the script and I2C.STATE_g shows done (R113). -/
def execI2cEnd (grp : Nat) (s : State) : Host.Outcome State Fault Refusal :=
  runIf (grp < 6) (i2cEnd grp) s

/-- I2C_TIMEOUT: Clock stretching beyond I2C.TIMEOUT fails the record with status timeout (R110). -/
def execI2cTimeout (grp : Nat) (s : State) : Host.Outcome State Fault Refusal :=
  runIf (grp < 6) (i2cTimeout grp) s

end Sys2Proof.Machine
end

