-- ==== Sys2Proof/Machine/JobCommands.lean ====
section
/-!
DEFINITION. Jobs, yards and halos (one meaning for each row).
-/
namespace Sys2Proof.Machine

/-- A write of YARD.READMIT. -/
def readmitWrite (y i : Nat) (s : State) : Abort × State :=
  if 64 ≤ i then ((Ab.valueRange, 0), s) else withDetail (Obj.yardReadmit y) (yardReadmit y i s)

/-- JOB_LOAD: A write of 1 to JOB.LOAD starts a load from the latched image address and length (R179). -/
def execJobLoad (slot : Nat) (s : State) : Host.Outcome State Fault Refusal :=
  runIf (slot < 64) (serverDo (fun s => withDetail (Obj.jobLoad slot) (jobLoad slot s))) s

/-- JOB_UNLOAD: A write of 0 to JOB.LOAD returns a LOADED or REJECTED slot to EMPTY (R180). -/
def execJobUnload (slot : Nat) (s : State) : Host.Outcome State Fault Refusal :=
  runIf (slot < 64) (serverDo (fun s => withDetail (Obj.jobLoad slot) (jobUnload slot s))) s

/-- JOB_LOAD_DONE: A load ends with the image checked, digested, verified and copied, and the slot LOADED or REJECTED
(R179). -/
def execJobLoadDone (slot : Nat) (s : State) : Host.Outcome State Fault Refusal :=
  runIf (slot < 64) (jobLoadDone slot) s

/-- YARD_READMIT: A write to YARD.READMIT re-admits a failed member through a re-map, or is refused (R199). -/
def execYardReadmit (y member : Nat) (s : State) : Host.Outcome State Fault Refusal :=
  runPowerIf (y < 256) (serverDo (readmitWrite y member)) s

/-- HALO_ARRIVAL: A halo slot tagged with the consumer's step arrives, is used and released (R190). -/
def execHaloArrival (s layer : Nat) (st : State) : Host.Outcome State Fault Refusal :=
  runIf (s < 32) (haloArrival s layer) st

/-- HALO_DEADLINE: A halo still missing at its deadline is zero-filled and HALO_ZERO_FILL is set (R192). -/
def execHaloDeadline (s layer : Nat) (st : State) : Host.Outcome State Fault Refusal :=
  runIf (s < 32) (haloDeadline s layer) st

end Sys2Proof.Machine
end

