-- ==== Sys2Proof/Machine/LeafCommands.lean ====
section
/-!
DEFINITION. The work of a leaf: ingress blocks, the spike engine, the thresher, and its replays (one meaning for each row).
-/
namespace Sys2Proof.Machine

/-- INGRESS_BLOCK_CONSUME: A SPIKE_EVENT layer consumes a late-carry or on-time block of its step (R222). -/
def execIngressBlockConsume (s : Nat) (st : State) : Host.Outcome State Fault Refusal :=
  runIf (s < 32) (ingressBlockConsume s) st

/-- SHEAF_SEAL: A sheaf is sealed once its step's ingress has closed and every block is consumed (R240). -/
def execSheafSeal (s layer : Nat) (st : State) : Host.Outcome State Fault Refusal :=
  runIf (s < 32) (sheafSeal s layer) st

/-- SPIKE_LAYER_START: A SPIKE_CONV layer starts once its source has finished the step on every leaf it reads (R222). -/
def execSpikeLayerStart (s layer : Nat) (st : State) : Host.Outcome State Fault Refusal :=
  runIf (s < 32) (spikeLayerStart s layer) st

/-- DENSE_LAYER_START: A dense layer of step k starts once its sources have finished or its sheaf is sealed (R240). -/
def execDenseLayerStart (s layer : Nat) (st : State) : Host.Outcome State Fault Refusal :=
  runIf (s < 32) (denseLayerStart s layer) st

/-- DETECT_LIST_MERGE: The yard merges the leaves' candidates into the K-best list once every leaf has delivered or is
missing (R258). -/
def execDetectListMerge (slot layer : Nat) (s : State) : Host.Outcome State Fault Refusal :=
  runIf (slot < 64) (mergeLists slot layer) s

/-- GLEAN_VISIT: Gleaning visits an old neuron and leaks it to the reference tick (R213). -/
def execGleanVisit (s layer port y x channel : Nat) (st : State) : Host.Outcome State Fault Refusal :=
  runIf (s < 32) (gleanVisit s layer port y x channel) st

/-- TIMING_ERROR_REPLAY: A detected timing error discards the stage's result and repeats the operation (R288). -/
def execTimingErrorReplay (s successive : Nat) (st : State) : Host.Outcome State Fault Refusal :=
  runIf (s < 32) (timingErrorReplay s successive) st

end Sys2Proof.Machine
end

