-- ==== Sys2Proof/Machine/MemoryCommands.lean ====
section
/-!
DEFINITION. GDDR6 and the granary (one meaning for each row).
-/
namespace Sys2Proof.Machine

/-- GDDR6_TRAINING_DONE: Training of a memory half ends at a passing rate, or fails and sets TRAINING_FAIL (R363). -/
def execGddr6TrainingDone (half : Nat) (rate : Nat) (devices : Nat) (s : State) : Host.Outcome State Fault Refusal :=
  runIf (half < 2) (trainingDone half rate devices) s

/-- GDDR6_ZEROING_DONE: A half finishes zeroing its channels and protected GDDR6 becomes present (R363). -/
def execGddr6ZeroingDone (half : Nat) (s : State) : Host.Outcome State Fault Refusal :=
  runIf (half < 2) (zeroingDone half) s

/-- MEM_RETRAIN: A channel is retrained every 250 ms or after a 10 °C change (R364). -/
def execMemRetrain (channel : Nat) (ok : Bool) (moved10C : Bool) (s : State) : Host.Outcome State Fault Refusal :=
  runIf (channel < 16) (memRetrain channel ok moved10C) s

/-- MEM_SCRUB_READ: The scrubber reads the next codeword, correcting or logging it (R371). -/
def execMemScrubRead (badBytes : Nat) (s : State) : Host.Outcome State Fault Refusal :=
  run (scrubRead badBytes) s

/-- SCRUB_WRITEBACK: A corrected block queued by a demand read is written back (R371). -/
def execScrubWriteback (s : State) : Host.Outcome State Fault Refusal :=
  run scrubWriteback s

/-- CE_LIMIT_EXCEEDED: Corrected codewords of a channel exceed MEM.CE_LIMIT within an hour, setting CHANNEL_DEGRADED
(R372). -/
def execCeLimitExceeded (channel : Nat) (s : State) : Host.Outcome State Fault Refusal :=
  runIf (channel < 16) (ceLimit channel) s

/-- GRANARY_SWEEP: Once per second the granary is swept with correction and write-back (R384). -/
def execGranarySweep (corrected : Nat) (bad : List Nat) (s : State) : Host.Outcome State Fault Refusal :=
  run (granarySweep corrected bad) s

end Sys2Proof.Machine
end

