-- ==== Sys2Proof/Machine/NetCommands.lean ====
section
/-!
DEFINITION. Fieldnet: yard frames, partners, links and plain frames (one meaning for each row).
-/
namespace Sys2Proof.Machine

/-- HEARTBEAT: A received HEARTBEAT frame updates the partner's liveness and the lead's view of R170 (R436). -/
def execHeartbeat (f : YardFrame) (s : State) : Host.Outcome State Fault Refusal :=
  runPower (heartbeatRx f) s

/-- HALO: A HALO frame set lands in the consumer's slot once complete (R434). -/
def execHalo (f : YardFrame) (s : State) : Host.Outcome State Fault Refusal :=
  run (haloRx f) s

/-- DELIVERY: A DELIVERY set delivers a remote member's step to the lead once complete (R434). -/
def execDelivery (f : YardFrame) (s : State) : Host.Outcome State Fault Refusal :=
  runPower (deliveryRx f) s

/-- RECORDS: A RECORDS set places a remote leaf's records in the yard buffer once complete (R434). -/
def execRecords (f : YardFrame) (s : State) : Host.Outcome State Fault Refusal :=
  run (recordsRx f) s

/-- TRACKS: A complete TRACKS set replaces NET.TRACK_TABLE with its source and step (R440). -/
def execTracks (f : YardFrame) (s : State) : Host.Outcome State Fault Refusal :=
  run (tracksRx f) s

/-- REMAP: A REMAP set gives a serving device the new leaf list and apply step (R438). -/
def execRemap (f : YardFrame) (s : State) : Host.Outcome State Fault Refusal :=
  runPower (remapRx f) s

/-- PEER_LOST: A partner with no accepted frame over L steps is lost at a boundary (R437). -/
def execPeerLost (node : Nat) (s : State) : Host.Outcome State Fault Refusal :=
  runPowerIf (node < 4096) (peerLost node) s

/-- REMAP_DEADLINE: A serving device without a complete REMAP set by B_{j-1} sets REMAP_INCOMPLETE and stops serving
from j (R438). -/
def execRemapDeadline (s : State) : Host.Outcome State Fault Refusal :=
  runPower remapDeadline s

/-- PORT_LINK_UP: An Ethernet port's link comes up (R432). -/
def execPortLinkUp (p : Nat) (s : State) : Host.Outcome State Fault Refusal :=
  runIf (p < 2) (portLinkUp p) s

/-- PORT_LINK_DOWN: An Ethernet port's link is lost, setting LINK_DOWN, and frames move to the other port (R432). -/
def execPortLinkDown (p : Nat) (s : State) : Host.Outcome State Fault Refusal :=
  runIf (p < 2) (portLinkDown p) s

/-- ARP_REQUEST: A received ARP request is answered (R426). -/
def execArpRequest (p target : Nat) (s : State) : Host.Outcome State Fault Refusal :=
  runIf (p < 2) (arpRequest p target) s

/-- ICMP_ECHO_REQUEST: A received ICMP or ICMPv6 echo request is answered (R426). -/
def execIcmpEchoRequest (p : Nat) (v6 : Bool) (target source : Nat) (data : List Byte) (s : State) : Host.Outcome State Fault Refusal :=
  runIf (p < 2) (icmpEcho p v6 target source data) s

/-- NEIGHBOUR_SOLICITATION: A received neighbour discovery message is answered (R426). -/
def execNeighbourSolicitation (p target : Nat) (s : State) : Host.Outcome State Fault Refusal :=
  runIf (p < 2) (neighbourSolicitation p target) s

/-- UNWANTED_FRAME: A frame not for the port, or with a foreign VLAN tag, PAUSE or PFC, is dropped (R427). -/
def execUnwantedFrame (p : Nat) (why : Unwanted) (s : State) : Host.Outcome State Fault Refusal :=
  runIf (p < 2) (unwantedFrame p why) s

/-- FRAME_ERROR_RX: An Ethernet frame fails its FCS or length check, or is lost for want of buffer, and is counted in
PORT.RX_ERRORS or PORT.RX_DROPPED with RX_ERROR or RX_OVERFLOW set (R426). -/
def execFrameErrorRx (p : Nat) (why : FrameError) (s : State) : Host.Outcome State Fault Refusal :=
  runIf (p < 2) (frameErrorRx p why) s

end Sys2Proof.Machine
end

