-- ==== Sys2Proof/Machine/PowerCommands.lean ====
section
/-!
DEFINITION. Power domains, wake, sleep and resets (one meaning for each row).
-/
namespace Sys2Proof.Machine

/-- DOMAIN_PHASE_READY: A rising phase of a domain becomes ready and the next phase starts, or the domain becomes ON
(R447). -/
def execDomainPhaseReady (d : Nat) (s : State) : Host.Outcome State Fault Refusal :=
  runPower (phaseReady d) s

/-- DOMAIN_SWITCHES_OPEN: A SAVING or FALLING domain's switches open and it becomes RET or OFF (R447). -/
def execDomainSwitchesOpen (d : Nat) (s : State) : Host.Outcome State Fault Refusal :=
  runPower (switchesOpen d) s

/-- QUIESCE_DONE: A quiescing domain reports idle and its sequence continues (R448). -/
def execQuiesceDone (d : Nat) (s : State) : Host.Outcome State Fault Refusal :=
  runPower (quiesceDone d) s

/-- QUIESCE_TIMEOUT: Quiescing exceeds POWER.QUIESCE_US, the domain is isolated anyway and QUIESCE_TIMEOUT is set
(R448). -/
def execQuiesceTimeout (d : Nat) (s : State) : Host.Outcome State Fault Refusal :=
  runPower (quiesceTimeout d) s

/-- SWITCH_FAIL: A power switch does not report within 10 times its nominal time, and the domain becomes blocked (R447).
-/
def execSwitchFail (d : Nat) (s : State) : Host.Outcome State Fault Refusal :=
  runPower (switchFail d) s

/-- WAKE_INPUT: A wake level or edge on WAKE[n] sets FW ON votes for its domains and ends sleep (R457). -/
def execWakeInput (n : Nat) (w : WakeSignal) (s : State) : Host.Outcome State Fault Refusal :=
  runPowerIf (n < 4) (wakeUp n w) s

/-- WAKE_RELEASE: A level-mode WAKE[n] pin leaves its asserted level, and the FW ON votes for the domains in
WAKE.DOMAINS element n are withdrawn (R457). -/
def execWakeRelease (n : Nat) (s : State) : Host.Outcome State Fault Refusal :=
  runPowerIf (n < 4) (wakeRelease n) s

/-- WAKE_CLEAR: A write to WAKE.CLEAR clears latched edge wakes (R457). -/
def execWakeClear (mask : Nat) (s : State) : Host.Outcome State Fault Refusal :=
  runPower (serverDo (fun s => (noAbort, wakeClear mask s))) s

/-- RETAINED_SLEEP: POWER.SLEEP 1 replaces the FW ON votes with RET votes (R459). -/
def execRetainedSleep (s : State) : Host.Outcome State Fault Refusal :=
  runPower (serverDo (sleepCommand 1)) s

/-- DEEP_SLEEP: POWER.SLEEP 2 withdraws every FW vote other than wake votes (R459). -/
def execDeepSleep (s : State) : Host.Outcome State Fault Refusal :=
  runPower (serverDo (sleepCommand 2)) s

/-- PCLK_TRIM: Once per second PCLK is trimmed against the 32.768 kHz clock (R530). -/
def execPclkTrim (s : State) : Host.Outcome State Fault Refusal :=
  run pclkTrim s

/-- POWER_ON_RESET: VDD_AON below its threshold holds the device in power-on reset and loses D0 state (R523). -/
def execPowerOnReset (s : State) : Host.Outcome State Fault Refusal :=
  .next (setPins s true s.boot.resetNLow (powerOnReset s))

/-- POWER_ON_RESET_RELEASE: VDD_AON rises above the monitor threshold, D0 leaves power-on reset with device time at 0,
and the HOLD pairs are driven to HOLD; if RESET_N is already high, start-up under R452 begins (R523). -/
def execPowerOnResetRelease (resetNHigh : Bool) (bootsel : Nat) (s : State) : Host.Outcome State Fault Refusal :=
  if s.boot.powerReset then .next (setPins s false (!resetNHigh) (powerOnRelease resetNHigh bootsel s)) else .next s

/-- RESET_N_ASSERT: RESET_N held low for 1 µs resets the chip (R519). -/
def execResetNAssert (lowNs : Nat) (s : State) : Host.Outcome State Fault Refusal :=
  if lowNs < 100 || s.boot.resetNLow then .next s
  else if s.boot.powerReset then .next (setPins s true true s)
  else if lowNs < 1000 then .fault .resetPulseUnspecified
  else .next (setPins s false true (heldReset s))

/-- RESET_N_RELEASE: RESET_N rises and the power controller starts D1 and the boot ROM (R452). -/
def execResetNRelease (bootsel : Nat) (s : State) : Host.Outcome State Fault Refusal :=
  if !s.boot.resetNLow then .next s
  else if s.boot.powerReset then .next (setPins s true false s)
  else .next (setPins s false false (startUp bootsel s))

end Sys2Proof.Machine
end

