-- ==== Sys2Proof/Machine/StepCommands.lean ====
section
/-!
DEFINITION. Steps and HOLD: the commands of boundaries, of a step's ingress, compute and fusion, and of the HOLD drivers (one meaning for each row).
-/
namespace Sys2Proof.Machine

/-- STEP_BOUNDARY: The time unit signals boundary B_k with its 64-bit step number to every block once device time
reaches B_k (R403). -/
def execStepBoundary (s : State) : Host.Outcome State Fault Refusal :=
  runPower stepBoundary s

/-- INGRESS_CLOSE: Once every gate that holds steps open has a watermark of at least B_{k+1}, the ingress of step k
closes and its sheaves are sealed (R20). -/
def execIngressClose (k : Nat) (s : State) : Host.Outcome State Fault Refusal :=
  run (ingressClose k) s

/-- STRETCH_LIMIT_CLOSE: At B_{k+SL} the ingress of step k closes at its limit and STEP.LIMIT_CLOSED is incremented
(R20). -/
def execStretchLimitClose (k : Nat) (s : State) : Host.Outcome State Fault Refusal :=
  run (stretchLimitClose k) s

/-- COMPUTE_LIMIT: At B_{k+SL+1}, every yard member that has not delivered step k is marked missing and the step becomes
partial (R21). -/
def execComputeLimit (k : Nat) (s : State) : Host.Outcome State Fault Refusal :=
  runPower (computeLimit k) s

/-- GATE_SILENT: A gate with no word for 2·P becomes silent and stops holding steps open (R19). -/
def execGateSilent (g : Nat) (s : State) : Host.Outcome State Fault Refusal :=
  runIf (g < 36) (gateSilent g) s

/-- STALL_DELIVER: A yard member finishes and delivers its outputs for a step (R21). -/
def execStallDeliver (s k : Nat) (st : State) : Host.Outcome State Fault Refusal :=
  runIf (s < 32) (stallDeliver s k) st

/-- FUSION_START: The paddock starts fusing step k once its slot has passed, every member has delivered or is missing,
and step k-1 is DONE (R22). -/
def execFusionStart (k : Nat) (s : State) : Host.Outcome State Fault Refusal :=
  run (fusionStart k) s

/-- SOLVE_CAPPED: The step's solve budget runs out: later tiles stay unsolved and the SOLVE_CAPPED flag and source are
set (R317). -/
def execSolveCapped (s : State) : Host.Outcome State Fault Refusal :=
  run solveCapped s

/-- FUSION_COMPLETE: The fusion of step k ends: the step becomes DONE and STEP.FUSED takes k (R331). -/
def execFusionComplete (s : State) : Host.Outcome State Fault Refusal :=
  runPower fusionComplete s

/-- STEP_DONE_UNFUSED: A step with PADDOCK.RUN 0 at its start reaches DONE without fusion at the instant R22 would give
(R537). -/
def execStepDoneUnfused (k : Nat) (s : State) : Host.Outcome State Fault Refusal :=
  runPower (stepDoneUnfused k) s

/-- HOLD_RESULT_RECEIVE: D0 receives a fused demand word, checks its complement and step number, and drives the HOLD
pairs (R329). -/
def execHoldResultReceive (demandErr complementErr stepErr rearmErr : Nat) (s : State) : Host.Outcome State Fault Refusal :=
  run (holdResult demandErr complementErr stepErr rearmErr) s

/-- HOLD_WATCHDOG_TRIP: No fused result reaches D0 within the watchdog window: every pair is forced to HOLD and WATCHDOG
is set (R328). -/
def execHoldWatchdogTrip (s : State) : Host.Outcome State Fault Refusal :=
  run holdWatchdog s

/-- HOLD_READBACK_MISMATCH: A HOLD pin lies outside its driven level for more than 5 µs, which sets PIN_READBACK (R527).
-/
def execHoldReadbackMismatch (pair : Nat) (_negative : Bool) (outNs : Nat) (s : State) : Host.Outcome State Fault Refusal :=
  runIf (pair < 16) (holdReadback pair outNs) s

end Sys2Proof.Machine
end

