-- ==== Sys2Proof/Machine/SupplyCommands.lean ====
section
/-!
DEFINITION. The adaptive supply and the PMBus rails (one meaning for each row).
-/
namespace Sys2Proof.Machine

/-- The level of a PGOOD input, which the device follows in power-on reset too. -/
def pinGood (r : Nat) (high : Bool) (s : State) : State :=
  updPower (fun p => { p with pgood := if high then setBit p.pgood r else clrBit p.pgood r }) s

/-- REPLAY_EMERGENCY: More than 8 replays in 8,192 active cycles request +50 mV, throttle the stall and start the
hold-off (R292). -/
def execReplayEmergency (s : Nat) (st : State) : Host.Outcome State Fault Refusal :=
  runIf (s < 32) (replayEmergency s) st

/-- SUPPLY_WINDOW_END: At the end of a measuring window the loop steps VDD_CORE up, down or not at all (R291). -/
def execSupplyWindowEnd (s : State) : Host.Outcome State Fault Refusal :=
  run supplyWindowEnd s

/-- SUPPLY_CONFIRM_TIMEOUT: No confirmation within 2 ms sets SUPPLY_PMBUS (R293). -/
def execSupplyConfirmTimeout (s : State) : Host.Outcome State Fault Refusal :=
  run supplyConfirmTimeout s

/-- SUPPLY_SETTLED: After SUPPLY.SETTLE_US the next measuring window opens (R291). -/
def execSupplySettled (s : State) : Host.Outcome State Fault Refusal :=
  run supplySettled s

/-- THROTTLE_END: A stall's throttle ends 1 ms after the rail confirms the request, unless the emergency recurs (R292).
-/
def execThrottleEnd (s : Nat) (st : State) : Host.Outcome State Fault Refusal :=
  runIf (s < 32) (throttleEnd s) st

/-- HOLDOFF_END: The downward hold-off of SUPPLY.HOLDOFF_MS expires (R292). -/
def execHoldoffEnd (s : State) : Host.Outcome State Fault Refusal :=
  run holdoffEnd s

/-- OPERATION_ON: OPERATION 0x80 switches a managed rail on (R465). -/
def execOperationOn (slot : Nat) (a : PmbAnswer) (s : State) : Host.Outcome State Fault Refusal :=
  runIf (slot < 4) (operationOn slot a) s

/-- OPERATION_OFF: OPERATION 0x00 switches a managed rail off (R465). -/
def execOperationOff (slot : Nat) (a : PmbAnswer) (s : State) : Host.Outcome State Fault Refusal :=
  runIf (slot < 4) (operationOff slot a) s

/-- VOUT_COMMAND: A clamped VOUT_COMMAND sets a regulator target (R464). -/
def execVoutCommand (slot : Nat) (a : PmbAnswer) (s : State) : Host.Outcome State Fault Refusal :=
  runIf (slot < 4) (voutCommand slot a) s

/-- READ_VOUT: READ_VOUT reads the rail and confirms the target if within 10 mV (R293). -/
def execReadVout (slot : Nat) (word : Nat) (a : PmbAnswer) (s : State) : Host.Outcome State Fault Refusal :=
  runIf (slot < 4) (readVout slot word a) s

/-- STATUS_WORD: STATUS_WORD is read from a slot into RAIL.STATUS (R466). -/
def execStatusWord (slot : Nat) (word : Nat) (a : PmbAnswer) (s : State) : Host.Outcome State Fault Refusal :=
  runIf (slot < 4) (statusWord slot word a) s

/-- PMBUS_STRETCH_TIMEOUT: A clock stretch beyond 25 ms sets PMBUS_TIMEOUT (R464). -/
def execPmbusStretchTimeout (s : State) : Host.Outcome State Fault Refusal :=
  run pmbusStretchTimeout s

/-- PMB_ALERT: PMB_ALERT_N low starts STATUS_WORD reads of every enabled slot, at most once per 10 ms (R466). -/
def execPmbAlert (s : State) : Host.Outcome State Fault Refusal :=
  run pmbAlert s

/-- PGOOD_RISE: PGOOD of a slot goes high and the waiting supply phase becomes ready (R465). -/
def execPgoodRise (slot : Nat) (s : State) : Host.Outcome State Fault Refusal :=
  if slot < 4 then (if s.boot.powerReset then .next (pinGood slot true s) else run (pgoodRise slot) s) else .next s

/-- PGOOD_FALL: PGOOD falls while its rail should be on, setting PGOOD_LOST_CORE or PGOOD_LOST (R466). -/
def execPgoodFall (slot : Nat) (s : State) : Host.Outcome State Fault Refusal :=
  if slot < 4 then (if s.boot.powerReset then .next (pinGood slot false s) else run (pgoodFall slot) s) else .next s

/-- PGOOD_TIMEOUT: PGOOD stays low beyond its timeout, and the domain returns to OFF blocked (R465). -/
def execPgoodTimeout (slot : Nat) (s : State) : Host.Outcome State Fault Refusal :=
  runPowerIf (slot < 4) (pgoodTimeout slot) s

end Sys2Proof.Machine
end

