-- ==== Sys2Proof/Machine/TimeCommands.lean ====
section
/-!
DEFINITION. The time unit and PTP (one meaning for each row).
-/
namespace Sys2Proof.Machine

/-- TIME_SET: A write of TIME.SET steps device time when no schedule is active, or is refused (R402). -/
def execTimeSet (ns : Nat) (s : State) : Host.Outcome State Fault Refusal :=
  runPower (serverDo (fun s => withDetail Obj.timeSet (timeSet (ns % 2 ^ 64) s))) s

/-- SYNC_RX: A received Sync is stamped, forwarded and used by the servo as an offset sample (R414). -/
def execSyncRx (h : PtpHdr) (twoStep : Bool) (origin : Nat) (s : State) : Host.Outcome State Fault Refusal :=
  runPower (syncRx h twoStep origin) s

/-- FOLLOW_UP_RX: A Follow_Up is paired with its two-step Sync (R413). -/
def execFollowUpRx (h : PtpHdr) (preciseOrigin : Nat) (s : State) : Host.Outcome State Fault Refusal :=
  runPower (followUpRx h preciseOrigin) s

/-- DELAY_RESP_RX: A Delay_Resp updates the filtered mean path delay (R414). -/
def execDelayRespRx (h : PtpHdr) (receive : Nat) (s : State) : Host.Outcome State Fault Refusal :=
  runPower (delayRespRx h receive) s

/-- ANNOUNCE_RX: An Announce enters the best master clock algorithm (R408). -/
def execAnnounceRx (h : PtpHdr) (a : AnnounceData) (s : State) : Host.Outcome State Fault Refusal :=
  run (announceRx h a) s

/-- DELAY_REQ_RX: As master, a received Delay_Req is answered by a Delay_Resp with its receive stamp (R410). -/
def execDelayReqRx (h : PtpHdr) (s : State) : Host.Outcome State Fault Refusal :=
  run (delayReqRx h) s

/-- PDELAY_REQ_RX: A Pdelay_Req is answered by a one-step Pdelay_Resp with the turnaround time (R410). -/
def execPdelayReqRx (h : PtpHdr) (txStamp : Nat) (s : State) : Host.Outcome State Fault Refusal :=
  run (pdelayReqRx h txStamp) s

/-- PDELAY_RESP_RX: A Pdelay_Resp updates the port's filtered link delay (R414). -/
def execPdelayRespRx (h : PtpHdr) (s : State) : Host.Outcome State Fault Refusal :=
  run (pdelayRespRx h) s

/-- MANAGEMENT_RX: A management message is forwarded by the transparent clock or ignored (R411). -/
def execManagementRx (h : PtpHdr) (s : State) : Host.Outcome State Fault Refusal :=
  run (managementRx h) s

/-- SYNC_TX: As master, the clock sends a one-step Sync each sync interval (R410). -/
def execSyncTx (txStamp : Nat) (s : State) : Host.Outcome State Fault Refusal :=
  run (syncTx txStamp) s

/-- ANNOUNCE_TX: As master, the clock sends Announce each announce interval (R408). -/
def execAnnounceTx (s : State) : Host.Outcome State Fault Refusal :=
  run announceTx s

/-- DELAY_REQ_TX: As slave, the clock sends Delay_Req on the upstream port (R408). -/
def execDelayReqTx (txStamp : Option Nat) (s : State) : Host.Outcome State Fault Refusal :=
  run (delayReqTx txStamp) s

/-- PDELAY_REQ_TX: Under P2P a Pdelay_Req is sent every 2^LOG_DELAY_REQ s (R414). -/
def execPdelayReqTx (port : Nat) (txStamp : Option Nat) (s : State) : Host.Outcome State Fault Refusal :=
  runIf (port < 2) (pdelayReqTx port txStamp) s

/-- ANNOUNCE_TIMEOUT: No Announce within the timeout makes the clock free-run in HOLDOVER (R416). -/
def execAnnounceTimeout (s : State) : Host.Outcome State Fault Refusal :=
  run announceTimeout s

/-- SYNC_TIMEOUT: No usable Sync within 3 sync intervals makes the clock free-run in HOLDOVER (R416). -/
def execSyncTimeout (s : State) : Host.Outcome State Fault Refusal :=
  run syncTimeout s

/-- FOLLOW_UP_TIMEOUT: A two-step Sync whose Follow_Up does not arrive within one sync interval is discarded (R413). -/
def execFollowUpTimeout (s : State) : Host.Outcome State Fault Refusal :=
  run followUpTimeout s

/-- QUALIFICATION_TIMEOUT: The PTP port's qualification timer in PRE_MASTER expires and the port becomes MASTER (R408).
-/
def execQualificationTimeout (s : State) : Host.Outcome State Fault Refusal :=
  run qualificationTimeout s

/-- GSYNC_PULSE_END: GSYNC returns inactive after GSYNC.WIDTH_US (R418). -/
def execGsyncPulseEnd (s : State) : Host.Outcome State Fault Refusal :=
  run gsyncPulseEnd s

/-- TOUT_PULSE: A TOUT output goes active at its target time (R421). -/
def execToutPulse (i : Nat) (s : State) : Host.Outcome State Fault Refusal :=
  runIf (i < 8) (toutPulse i) s

/-- TOUT_PULSE_END: A TOUT output returns inactive after TOUT.WIDTH_NS (R421). -/
def execToutPulseEnd (i : Nat) (s : State) : Host.Outcome State Fault Refusal :=
  runIf (i < 8) (toutPulseEnd i) s

/-- TCAP_EDGE: A filtered edge on TCAP is captured with its device time (R423). -/
def execTcapEdge (i : Nat) (rising : Bool) (stableNs : Nat) (s : State) : Host.Outcome State Fault Refusal :=
  runIf (i < 2) (tcapEdge i rising stableNs) s

/-- CLOCK_LOSS: The PCLK monitor finds TCLK or CCLK absent or off frequency (R406). -/
def execClockLoss (c : LostClock) (s : State) : Host.Outcome State Fault Refusal :=
  run (clockLoss c) s

end Sys2Proof.Machine
end

