-- ==== Sys2Proof/Machine/TroughCommands.lean ====
section
/-!
DEFINITION. Troughs and the barrow engines (one meaning for each row).
-/
namespace Sys2Proof.Machine

/-- A write to HEAD of trough t, over BAR0 or through the dictionary. -/
def headWrite (t h : Nat) (s : State) : State :=
  if s.isOn 1 then let r := writeHead t (h % 2 ^ 32) s; emit (.abort r.1 0) r.2 else s
/-- A host read of n bytes at offset o of a pop window. -/
def popWindow (t o n : Nat) (check : ReadCheck) (s : State) : State :=
  if s.barsUp && s.isOn 1 && o + n ≤ 64 && n != 0 then
    let r := popRead t o n check s
    emit (.completion false r.1) r.2
  else s
/-- PAUSE_DRAINED of channel c. -/
def pauseDrained (c moved : Nat) (s : State) : State := if s.chanState c = 3 then pauseAt c moved s else s
/-- The reset of the trough unit ends (R360). -/
def troughResetDone (s : State) : State := { s with troughResetting := false }

/-- TAIL_ADVANCE: Once every entry of a set is written, TAIL advances by the set's size (R343). -/
def execTailAdvance (t : Nat) (s : State) : Host.Outcome State Fault Refusal :=
  runIf (t < 16384) (advanceTail t) s

/-- HEAD_WRITE: A write to HEAD moves it forward, or is refused and counted (R338). -/
def execHeadWrite (t h : Nat) (s : State) : Host.Outcome State Fault Refusal :=
  runIf (t < 16384) (headWrite t h) s

/-- POP: A read of byte 0 of a pop window returns the entry at HEAD and advances HEAD, or returns the idle item (R346).
-/
def execPop (t offset len : Nat) (check : ReadCheck) (s : State) : Host.Outcome State Fault Refusal :=
  runIf (t < 16384) (popWindow t offset len check) s

/-- CHAN_START: CHAN.CMD 1 makes an IDLE channel READY with its first descriptor (R359). -/
def execChanStart (c : Nat) (s : State) : Host.Outcome State Fault Refusal :=
  runIf (c < 256) (serverDo (fun s => withDetail Obj.chanCmd (chanStart c s))) s

/-- CHAN_PAUSE: CHAN.CMD 2 stops new reads of a READY or RUNNING channel (R357). -/
def execChanPause (c : Nat) (s : State) : Host.Outcome State Fault Refusal :=
  runIf (c < 256) (serverDo (fun s => withDetail Obj.chanCmd (chanPause c s))) s

/-- CHAN_RESUME: CHAN.CMD 3 makes a PAUSED channel READY (R357). -/
def execChanResume (c : Nat) (s : State) : Host.Outcome State Fault Refusal :=
  runIf (c < 256) (serverDo (fun s => withDetail Obj.chanCmd (chanResume c s))) s

/-- CHAN_STOP: CHAN.CMD 4 ends the channel's chain at the next descriptor boundary or at once (R358). -/
def execChanStop (c : Nat) (s : State) : Host.Outcome State Fault Refusal :=
  runIf (c < 256) (serverDo (fun s => withDetail Obj.chanCmd (chanStop c s))) s

/-- ENGINE_TURN: An engine takes the next READY channel in round-robin order and starts its descriptor (R349). -/
def execEngineTurn (e : Nat) (s : State) : Host.Outcome State Fault Refusal :=
  runIf (e < 8) (engineTurn e) s

/-- DESCRIPTOR_END: A descriptor ends, writes its BARROW_COMPLETION if needed and the chain continues or ends (R356). -/
def execDescriptorEnd (e : Nat) (how : MoveEnd) (s : State) : Host.Outcome State Fault Refusal :=
  runIf (e < 8) (endMove e how) s

/-- PAUSE_DRAINED: A PAUSING channel's reads in flight are drained, and it becomes PAUSED (R357). -/
def execPauseDrained (c moved : Nat) (s : State) : Host.Outcome State Fault Refusal :=
  runIf (c < 256) (pauseDrained c moved) s

/-- TROUGH_RESET_DONE: A BLOCK_RESET of the trough unit ends, at most 20 µs after it began, and sets are written again
(R360). -/
def execTroughResetDone (s : State) : Host.Outcome State Fault Refusal :=
  run troughResetDone s

end Sys2Proof.Machine
end

