-- ==== Sys2Proof/Machine/Dispatch.lean ====
section
/-! DEFINITION. The meaning of every command: one arm per row of the table, each a direct call. -/
namespace Sys2Proof.Machine

def exec (i : Instr) (s : State) : Host.Outcome State Fault Refusal :=
  match i with
  | .stepBoundary => Sys2Proof.Machine.execStepBoundary s
  | .ingressClose k => Sys2Proof.Machine.execIngressClose k s
  | .stretchLimitClose k => Sys2Proof.Machine.execStretchLimitClose k s
  | .computeLimit k => Sys2Proof.Machine.execComputeLimit k s
  | .gateSilent g => Sys2Proof.Machine.execGateSilent g s
  | .stallDeliver n0 k => Sys2Proof.Machine.execStallDeliver n0 k s
  | .fusionStart k => Sys2Proof.Machine.execFusionStart k s
  | .solveCapped => Sys2Proof.Machine.execSolveCapped s
  | .fusionComplete => Sys2Proof.Machine.execFusionComplete s
  | .stepDoneUnfused k => Sys2Proof.Machine.execStepDoneUnfused k s
  | .holdResultReceive demandErr complementErr stepErr rearmErr => Sys2Proof.Machine.execHoldResultReceive demandErr complementErr stepErr rearmErr s
  | .holdWatchdogTrip => Sys2Proof.Machine.execHoldWatchdogTrip s
  | .holdReadbackMismatch pair negative outNs => Sys2Proof.Machine.execHoldReadbackMismatch pair negative outNs s
  | .sdpDatagramRx port source payload => Sys2Proof.Machine.execSdpDatagramRx port source payload s
  | .sdpReassemblyTimeout source => Sys2Proof.Machine.execSdpReassemblyTimeout source s
  | .sessionTimeout id => Sys2Proof.Machine.execSessionTimeout id s
  | .read => Sys2Proof.Machine.execRead s
  | .write => Sys2Proof.Machine.execWrite s
  | .readBlock => Sys2Proof.Machine.execReadBlock s
  | .writeBlock => Sys2Proof.Machine.execWriteBlock s
  | .commit => Sys2Proof.Machine.execCommit s
  | .discard => Sys2Proof.Machine.execDiscard s
  | .list => Sys2Proof.Machine.execList s
  | .sessionOpen => Sys2Proof.Machine.execSessionOpen s
  | .sessionClose => Sys2Proof.Machine.execSessionClose s
  | .attest => Sys2Proof.Machine.execAttest s
  | .baleCommit who => Sys2Proof.Machine.execBaleCommit who s
  | .baleDiscard who => Sys2Proof.Machine.execBaleDiscard who s
  | .mbxGo => Sys2Proof.Machine.execMbxGo s
  | .mbxResponse => Sys2Proof.Machine.execMbxResponse s
  | .registerWrite target => Sys2Proof.Machine.execRegisterWrite target s
  | .counterClear addr => Sys2Proof.Machine.execCounterClear addr s
  | .csi2Packet g p => Sys2Proof.Machine.execCsi2Packet g p s
  | .evNeg g => Sys2Proof.Machine.execEvNeg g s
  | .evPos g => Sys2Proof.Machine.execEvPos g s
  | .vecNeg g => Sys2Proof.Machine.execVecNeg g s
  | .vecPos g => Sys2Proof.Machine.execVecPos g s
  | .timeHigh g => Sys2Proof.Machine.execTimeHigh g s
  | .marker g => Sys2Proof.Machine.execMarker g s
  | .pad g => Sys2Proof.Machine.execPad g s
  | .status g => Sys2Proof.Machine.execStatus g s
  | .reservedWord g => Sys2Proof.Machine.execReservedWord g s
  | .stagingFlushTimeout g => Sys2Proof.Machine.execStagingFlushTimeout g s
  | .blockRelease g block => Sys2Proof.Machine.execBlockRelease g block s
  | .tableLoadLateSwitch g => Sys2Proof.Machine.execTableLoadLateSwitch g s
  | .tableSwitchLimit g => Sys2Proof.Machine.execTableSwitchLimit g s
  | .i2cXfer grp script => Sys2Proof.Machine.execI2cXfer grp script s
  | .i2cWrite grp answer => Sys2Proof.Machine.execI2cWrite grp answer s
  | .i2cRead grp answer => Sys2Proof.Machine.execI2cRead grp answer s
  | .i2cWriteRead grp answer => Sys2Proof.Machine.execI2cWriteRead grp answer s
  | .i2cDelay grp => Sys2Proof.Machine.execI2cDelay grp s
  | .i2cEnd grp => Sys2Proof.Machine.execI2cEnd grp s
  | .i2cTimeout grp => Sys2Proof.Machine.execI2cTimeout grp s
  | .groomCycleStart => Sys2Proof.Machine.execGroomCycleStart s
  | .groomEpochCommit => Sys2Proof.Machine.execGroomEpochCommit s
  | .groomAccept number => Sys2Proof.Machine.execGroomAccept number s
  | .biasScriptGiveUp g => Sys2Proof.Machine.execBiasScriptGiveUp g s
  | .chainInput c => Sys2Proof.Machine.execChainInput c s
  | .chainSettled c => Sys2Proof.Machine.execChainSettled c s
  | .sieveEvaluation => Sys2Proof.Machine.execSieveEvaluation s
  | .jobLoad slot => Sys2Proof.Machine.execJobLoad slot s
  | .jobUnload slot => Sys2Proof.Machine.execJobUnload slot s
  | .jobLoadDone slot => Sys2Proof.Machine.execJobLoadDone slot s
  | .yardReadmit y member => Sys2Proof.Machine.execYardReadmit y member s
  | .haloArrival n0 layer => Sys2Proof.Machine.execHaloArrival n0 layer s
  | .haloDeadline n0 layer => Sys2Proof.Machine.execHaloDeadline n0 layer s
  | .ingressBlockConsume n0 => Sys2Proof.Machine.execIngressBlockConsume n0 s
  | .sheafSeal n0 layer => Sys2Proof.Machine.execSheafSeal n0 layer s
  | .spikeLayerStart n0 layer => Sys2Proof.Machine.execSpikeLayerStart n0 layer s
  | .denseLayerStart n0 layer => Sys2Proof.Machine.execDenseLayerStart n0 layer s
  | .detectListMerge slot layer => Sys2Proof.Machine.execDetectListMerge slot layer s
  | .gleanVisit n0 layer port y x channel => Sys2Proof.Machine.execGleanVisit n0 layer port y x channel s
  | .timingErrorReplay n0 successive => Sys2Proof.Machine.execTimingErrorReplay n0 successive s
  | .replayEmergency n0 => Sys2Proof.Machine.execReplayEmergency n0 s
  | .supplyWindowEnd => Sys2Proof.Machine.execSupplyWindowEnd s
  | .supplyConfirmTimeout => Sys2Proof.Machine.execSupplyConfirmTimeout s
  | .supplySettled => Sys2Proof.Machine.execSupplySettled s
  | .throttleEnd n0 => Sys2Proof.Machine.execThrottleEnd n0 s
  | .holdoffEnd => Sys2Proof.Machine.execHoldoffEnd s
  | .operationOn slot a => Sys2Proof.Machine.execOperationOn slot a s
  | .operationOff slot a => Sys2Proof.Machine.execOperationOff slot a s
  | .voutCommand slot a => Sys2Proof.Machine.execVoutCommand slot a s
  | .readVout slot word a => Sys2Proof.Machine.execReadVout slot word a s
  | .statusWord slot word a => Sys2Proof.Machine.execStatusWord slot word a s
  | .pmbusStretchTimeout => Sys2Proof.Machine.execPmbusStretchTimeout s
  | .pmbAlert => Sys2Proof.Machine.execPmbAlert s
  | .pgoodRise slot => Sys2Proof.Machine.execPgoodRise slot s
  | .pgoodFall slot => Sys2Proof.Machine.execPgoodFall slot s
  | .pgoodTimeout slot => Sys2Proof.Machine.execPgoodTimeout slot s
  | .tailAdvance t => Sys2Proof.Machine.execTailAdvance t s
  | .headWrite t h => Sys2Proof.Machine.execHeadWrite t h s
  | .pop t offset len check => Sys2Proof.Machine.execPop t offset len check s
  | .chanStart c => Sys2Proof.Machine.execChanStart c s
  | .chanPause c => Sys2Proof.Machine.execChanPause c s
  | .chanResume c => Sys2Proof.Machine.execChanResume c s
  | .chanStop c => Sys2Proof.Machine.execChanStop c s
  | .engineTurn e => Sys2Proof.Machine.execEngineTurn e s
  | .descriptorEnd e how => Sys2Proof.Machine.execDescriptorEnd e how s
  | .pauseDrained c moved => Sys2Proof.Machine.execPauseDrained c moved s
  | .gddr6TrainingDone half rate devices => Sys2Proof.Machine.execGddr6TrainingDone half rate devices s
  | .gddr6ZeroingDone half => Sys2Proof.Machine.execGddr6ZeroingDone half s
  | .memRetrain channel ok moved10C => Sys2Proof.Machine.execMemRetrain channel ok moved10C s
  | .memScrubRead badBytes => Sys2Proof.Machine.execMemScrubRead badBytes s
  | .scrubWriteback => Sys2Proof.Machine.execScrubWriteback s
  | .ceLimitExceeded channel => Sys2Proof.Machine.execCeLimitExceeded channel s
  | .granarySweep corrected bad => Sys2Proof.Machine.execGranarySweep corrected bad s
  | .usb4LinkUp rate => Sys2Proof.Machine.execUsb4LinkUp rate s
  | .pcieTunnelUp => Sys2Proof.Machine.execPcieTunnelUp s
  | .busMasterEnter => Sys2Proof.Machine.execBusMasterEnter s
  | .busMasterExit d3hot => Sys2Proof.Machine.execBusMasterExit d3hot s
  | .pcieFunctionReset => Sys2Proof.Machine.execPcieFunctionReset s
  | .usb4LinkLoss => Sys2Proof.Machine.execUsb4LinkLoss s
  | .bar2Access isWrite offset len data => Sys2Proof.Machine.execBar2Access isWrite offset len data s
  | .timeSecondsLatch => Sys2Proof.Machine.execTimeSecondsLatch s
  | .statusClearOnRead offset => Sys2Proof.Machine.execStatusClearOnRead offset s
  | .timeNowLatch => Sys2Proof.Machine.execTimeNowLatch s
  | .recoveryIdentify h => Sys2Proof.Machine.execRecoveryIdentify h s
  | .recoveryLoad h offset bytes => Sys2Proof.Machine.execRecoveryLoad h offset bytes s
  | .recoveryBoot h len => Sys2Proof.Machine.execRecoveryBoot h len s
  | .recoveryStatus h => Sys2Proof.Machine.execRecoveryStatus h s
  | .timeSet ns => Sys2Proof.Machine.execTimeSet ns s
  | .syncRx h twoStep origin => Sys2Proof.Machine.execSyncRx h twoStep origin s
  | .followUpRx h preciseOrigin => Sys2Proof.Machine.execFollowUpRx h preciseOrigin s
  | .delayRespRx h receive => Sys2Proof.Machine.execDelayRespRx h receive s
  | .announceRx h a => Sys2Proof.Machine.execAnnounceRx h a s
  | .delayReqRx h => Sys2Proof.Machine.execDelayReqRx h s
  | .pdelayReqRx h txStamp => Sys2Proof.Machine.execPdelayReqRx h txStamp s
  | .pdelayRespRx h => Sys2Proof.Machine.execPdelayRespRx h s
  | .managementRx h => Sys2Proof.Machine.execManagementRx h s
  | .syncTx txStamp => Sys2Proof.Machine.execSyncTx txStamp s
  | .announceTx => Sys2Proof.Machine.execAnnounceTx s
  | .delayReqTx txStamp => Sys2Proof.Machine.execDelayReqTx txStamp s
  | .pdelayReqTx port txStamp => Sys2Proof.Machine.execPdelayReqTx port txStamp s
  | .announceTimeout => Sys2Proof.Machine.execAnnounceTimeout s
  | .syncTimeout => Sys2Proof.Machine.execSyncTimeout s
  | .followUpTimeout => Sys2Proof.Machine.execFollowUpTimeout s
  | .gsyncPulseEnd => Sys2Proof.Machine.execGsyncPulseEnd s
  | .toutPulse n => Sys2Proof.Machine.execToutPulse n s
  | .toutPulseEnd n => Sys2Proof.Machine.execToutPulseEnd n s
  | .tcapEdge n rising stableNs => Sys2Proof.Machine.execTcapEdge n rising stableNs s
  | .clockLoss c => Sys2Proof.Machine.execClockLoss c s
  | .heartbeat f => Sys2Proof.Machine.execHeartbeat f s
  | .halo f => Sys2Proof.Machine.execHalo f s
  | .delivery f => Sys2Proof.Machine.execDelivery f s
  | .records f => Sys2Proof.Machine.execRecords f s
  | .tracks f => Sys2Proof.Machine.execTracks f s
  | .remap f => Sys2Proof.Machine.execRemap f s
  | .peerLost node => Sys2Proof.Machine.execPeerLost node s
  | .remapDeadline => Sys2Proof.Machine.execRemapDeadline s
  | .portLinkUp p => Sys2Proof.Machine.execPortLinkUp p s
  | .portLinkDown p => Sys2Proof.Machine.execPortLinkDown p s
  | .arpRequest p target => Sys2Proof.Machine.execArpRequest p target s
  | .icmpEchoRequest p v6 target source data => Sys2Proof.Machine.execIcmpEchoRequest p v6 target source data s
  | .neighbourSolicitation p target => Sys2Proof.Machine.execNeighbourSolicitation p target s
  | .unwantedFrame p why => Sys2Proof.Machine.execUnwantedFrame p why s
  | .domainPhaseReady d => Sys2Proof.Machine.execDomainPhaseReady d s
  | .domainSwitchesOpen d => Sys2Proof.Machine.execDomainSwitchesOpen d s
  | .quiesceDone d => Sys2Proof.Machine.execQuiesceDone d s
  | .quiesceTimeout d => Sys2Proof.Machine.execQuiesceTimeout d s
  | .switchFail d => Sys2Proof.Machine.execSwitchFail d s
  | .wakeInput n w => Sys2Proof.Machine.execWakeInput n w s
  | .wakeClear mask => Sys2Proof.Machine.execWakeClear mask s
  | .retainedSleep => Sys2Proof.Machine.execRetainedSleep s
  | .deepSleep => Sys2Proof.Machine.execDeepSleep s
  | .pclkTrim => Sys2Proof.Machine.execPclkTrim s
  | .powerOnReset => Sys2Proof.Machine.execPowerOnReset s
  | .resetNAssert lowNs => Sys2Proof.Machine.execResetNAssert lowNs s
  | .resetNRelease bootsel => Sys2Proof.Machine.execResetNRelease bootsel s
  | .firmwareStart => Sys2Proof.Machine.execFirmwareStart s
  | .bootReset => Sys2Proof.Machine.execBootReset s
  | .qspiWriteImage => Sys2Proof.Machine.execQspiWriteImage s
  | .qspiWriteConfig => Sys2Proof.Machine.execQspiWriteConfig s
  | .qspiErasePointer => Sys2Proof.Machine.execQspiErasePointer s
  | .qspiWriteDone flashError => Sys2Proof.Machine.execQspiWriteDone flashError s
  | .rollbackAdvance value => Sys2Proof.Machine.execRollbackAdvance value s
  | .fwWatchdog => Sys2Proof.Machine.execFwWatchdog s
  | .paddockResetDone => Sys2Proof.Machine.execPaddockResetDone s
  | .faultClear b mask => Sys2Proof.Machine.execFaultClear b mask s
  | .faultForce b mask => Sys2Proof.Machine.execFaultForce b mask s
  | .faultClearCounts b => Sys2Proof.Machine.execFaultClearCounts b s
  | .muckPassStart u => Sys2Proof.Machine.execMuckPassStart u s
  | .sliceStart u => Sys2Proof.Machine.execSliceStart u s
  | .slicePreempt u why => Sys2Proof.Machine.execSlicePreempt u why s
  | .sliceEnd u observed => Sys2Proof.Machine.execSliceEnd u observed s
  | .muckRequest u => Sys2Proof.Machine.execMuckRequest u s
  | .muckRelease n0 => Sys2Proof.Machine.execMuckRelease n0 s
  | .deskewSequence g aligned => Sys2Proof.Machine.execDeskewSequence g aligned s
  | .powerOnResetRelease resetNHigh bootsel => Sys2Proof.Machine.execPowerOnResetRelease resetNHigh bootsel s
  | .wakeRelease n => Sys2Proof.Machine.execWakeRelease n s
  | .frameErrorRx p why => Sys2Proof.Machine.execFrameErrorRx p why s
  | .qualificationTimeout => Sys2Proof.Machine.execQualificationTimeout s
  | .troughResetDone => Sys2Proof.Machine.execTroughResetDone s

end Sys2Proof.Machine
end

