-- ==== Sys2Proof/Machine/Step.lean ====
section
/-!
DEFINITION. One step of the block: the command at the front of the queue, or, where none waits, one tick of TCLK.
-/
namespace Sys2Proof.Machine

/-- One TCLK tick with an empty queue (R400, R401): device time moves on by 4 ns plus RATE, but not past the next boundary
that has not been signalled, and the power controller follows the votes, with any reaction that this fires (log entry 11). -/
def idleTick (s : State) : State :=
  if s.boot.powerReset then s
  else s |> reach (s.now + (4 * (nsUnit : Int) + s.rdI 32 Obj.timeRate 0).toNat) |> settle |> react |> settle

/-- Take the command at the front of the queue and run it with the queue's rest; with none waiting the block idles. -/
def step (s : State) : Host.Outcome State Fault Refusal :=
  match s.pending with
  | [] => .next (outside s (idleTick s))
  | c :: rest => exec c { s with pending := rest }

/-- Put the command that a word spells at the front of the queue; no word spells one. -/
def State.withFetchWord (s : State) (nbits w : Nat) : State :=
  match decodeTableWord nbits w with
  | some c => { s with pending := c :: s.pending }
  | none => s

end Sys2Proof.Machine
end

