-- ==== Sys2Proof/WellFormed.lean ====
section
/-!
DEFINITION. Well-formed commands: the units that a command names exist (R3, R35), and its fields lie within their widths.
-/
namespace Sys2Proof

/-- A number of n bits. -/
abbrev fits (n v : Nat) : Bool := decide (v < 2 ^ n)

/-- A packet's virtual channel, extension and data type (R80). -/
def Packet.wf (p : Packet) : Bool := p.vc < 4 && p.extVc < 4 && fits 6 p.dataType
/-- Fields of a PTP header (R407). -/
def PtpHdr.wf (h : PtpHdr) : Bool := h.port < 2 && fits 8 h.domain && fits 64 h.clockId && fits 16 h.portNumber && fits 16 h.seq
/-- Fields of an Announce (R408). -/
def AnnounceData.wf (a : AnnounceData) : Bool :=
  fits 64 a.gmId && fits 8 a.priority1 && fits 8 a.clockClass && fits 8 a.accuracy && fits 16 a.variance && fits 8 a.priority2
    && fits 16 a.stepsRemoved
/-- Fields of a yard frame's header (R431). -/
def YardFrame.wf (f : YardFrame) : Bool :=
  f.port < 2 && fits 16 f.magic && fits 8 f.version && fits 8 f.kind && fits 16 f.src && fits 16 f.dst && fits 32 f.seq
    && fits 8 f.leadYard && fits 8 f.memberYard && fits 16 f.part && fits 16 f.parts && fits 64 f.step
/-- The tag of a recovery transfer (R398). -/
def RecHdr.wf (h : RecHdr) : Bool := fits 32 h.tag
def RegTarget.wf : RegTarget → Bool
  | .object addr e vs => fits 24 addr && fits 24 e && !vs.isEmpty
  | .domain addr _ => fits 24 addr
  | .bar0 o b => o + b.length ≤ 0x1000000 && !b.isEmpty
def Owner.wf : Owner → Bool
  | .session id => id != 0 && fits 32 id
  | _ => true

/-- Whether a command is one that can reach the CT32. -/
def Instr.wf : Instr → Bool
  | .stepBoundary => true
  | .ingressClose _ => true
  | .stretchLimitClose _ => true
  | .computeLimit _ => true
  | .gateSilent g => g < 36
  | .stallDeliver s _ => s < 32
  | .fusionStart _ => true
  | .solveCapped => true
  | .fusionComplete => true
  | .stepDoneUnfused _ => true
  | .holdResultReceive d c e r => fits 16 d && fits 16 c && fits 8 e && fits 2 r
  | .holdWatchdogTrip => true
  | .holdReadbackMismatch p _ _ => p < 16
  | .sdpDatagramRx p _ _ => p < 2
  | .sdpReassemblyTimeout _ => true
  | .sessionTimeout id => id != 0 && fits 32 id
  | .read => true
  | .write => true
  | .readBlock => true
  | .writeBlock => true
  | .commit => true
  | .discard => true
  | .list => true
  | .sessionOpen => true
  | .sessionClose => true
  | .attest => true
  | .baleCommit who => who.wf
  | .baleDiscard who => who.wf
  | .mbxGo => true
  | .mbxResponse => true
  | .registerWrite t => t.wf
  | .counterClear addr => fits 24 addr
  | .csi2Packet g p => g < 36 && p.wf
  | .evNeg g => g < 36
  | .evPos g => g < 36
  | .vecNeg g => g < 36
  | .vecPos g => g < 36
  | .timeHigh g => g < 36
  | .marker g => g < 36
  | .pad g => g < 36
  | .status g => g < 36
  | .reservedWord g => g < 36
  | .stagingFlushTimeout g => g < 36
  | .blockRelease g b => g < 36 && b < 16384
  | .tableLoadLateSwitch g => g < 36
  | .tableSwitchLimit g => g < 36
  | .i2cXfer g b => g < 6 && b.length ≤ 4096
  | .i2cWrite g _ => g < 6
  | .i2cRead g _ => g < 6
  | .i2cWriteRead g _ => g < 6
  | .i2cDelay g => g < 6
  | .i2cEnd g => g < 6
  | .i2cTimeout g => g < 6
  | .groomCycleStart => true
  | .groomEpochCommit => true
  | .groomAccept n => fits 32 n
  | .biasScriptGiveUp g => g < 36
  | .chainInput c => c < 16
  | .chainSettled c => c < 16
  | .sieveEvaluation => true
  | .jobLoad j => j < 64
  | .jobUnload j => j < 64
  | .jobLoadDone j => j < 64
  | .yardReadmit y m => y < 256 && m < 64
  | .haloArrival s l => s < 32 && l < 256
  | .haloDeadline s l => s < 32 && l < 256
  | .ingressBlockConsume s => s < 32
  | .sheafSeal s l => s < 32 && l < 256
  | .spikeLayerStart s l => s < 32 && l < 256
  | .denseLayerStart s l => s < 32 && l < 256
  | .detectListMerge j l => j < 64 && l < 256
  | .gleanVisit s l p _ _ _ => s < 32 && l < 256 && p < 4
  | .timingErrorReplay s _ => s < 32
  | .replayEmergency s => s < 32
  | .supplyWindowEnd => true
  | .supplyConfirmTimeout => true
  | .supplySettled => true
  | .throttleEnd s => s < 32
  | .holdoffEnd => true
  | .operationOn r _ => r < 4
  | .operationOff r _ => r < 4
  | .voutCommand r _ => r < 4
  | .readVout r w _ => r < 4 && fits 16 w
  | .statusWord r w _ => r < 4 && fits 16 w
  | .pmbusStretchTimeout => true
  | .pmbAlert => true
  | .pgoodRise r => r < 4
  | .pgoodFall r => r < 4
  | .pgoodTimeout r => r < 4
  | .tailAdvance t => t < 16384
  | .headWrite t h => t < 16384 && fits 32 h
  | .pop t o n _ => t < 16384 && n != 0 && o + n ≤ 64
  | .chanStart c => c < 256
  | .chanPause c => c < 256
  | .chanResume c => c < 256
  | .chanStop c => c < 256
  | .engineTurn e => e < 8
  | .descriptorEnd e _ => e < 8
  | .pauseDrained c _ => c < 256
  | .gddr6TrainingDone h r n => h < 2 && [0, 12, 14, 16].contains r && (n == 8 || n == 16)
  | .gddr6ZeroingDone h => h < 2
  | .memRetrain c _ _ => c < 16
  | .memScrubRead n => n ≤ 72
  | .scrubWriteback => true
  | .ceLimitExceeded c => c < 16
  | .granarySweep _ bad => bad.all (· < 32768)
  | .usb4LinkUp r => 1 ≤ r && r ≤ 3
  | .pcieTunnelUp => true
  | .busMasterEnter => true
  | .busMasterExit _ => true
  | .pcieFunctionReset => true
  | .usb4LinkLoss => true
  | .bar2Access _ o n _ => n != 0 && o + n ≤ 0x800000000
  | .timeSecondsLatch => true
  | .statusClearOnRead o => o == 0x40 || o == 0x44
  | .timeNowLatch => true
  | .recoveryIdentify h => h.wf
  | .recoveryLoad h o _ => h.wf && fits 32 o
  | .recoveryBoot h n => h.wf && fits 32 n
  | .recoveryStatus h => h.wf
  | .timeSet ns => fits 64 ns
  | .syncRx h _ _ => h.wf
  | .followUpRx h _ => h.wf
  | .delayRespRx h _ => h.wf
  | .announceRx h a => h.wf && a.wf
  | .delayReqRx h => h.wf
  | .pdelayReqRx h _ => h.wf
  | .pdelayRespRx h => h.wf
  | .managementRx h => h.wf
  | .syncTx _ => true
  | .announceTx => true
  | .delayReqTx _ => true
  | .pdelayReqTx p _ => p < 2
  | .announceTimeout => true
  | .syncTimeout => true
  | .followUpTimeout => true
  | .gsyncPulseEnd => true
  | .toutPulse i => i < 8
  | .toutPulseEnd i => i < 8
  | .tcapEdge i _ _ => i < 2
  | .clockLoss _ => true
  | .heartbeat f => f.wf
  | .halo f => f.wf
  | .delivery f => f.wf
  | .records f => f.wf
  | .tracks f => f.wf
  | .remap f => f.wf
  | .peerLost n => n < 4096
  | .remapDeadline => true
  | .portLinkUp p => p < 2
  | .portLinkDown p => p < 2
  | .arpRequest p _ => p < 2
  | .icmpEchoRequest p _ _ _ _ => p < 2
  | .neighbourSolicitation p _ => p < 2
  | .unwantedFrame p _ => p < 2
  | .domainPhaseReady d => 1 ≤ d && d < 54
  | .domainSwitchesOpen d => 1 ≤ d && d < 54
  | .quiesceDone d => 1 ≤ d && d < 54
  | .quiesceTimeout d => 1 ≤ d && d < 54
  | .switchFail d => 1 ≤ d && d < 54
  | .wakeInput n _ => n < 4
  | .wakeClear m => fits 8 m
  | .retainedSleep => true
  | .deepSleep => true
  | .pclkTrim => true
  | .powerOnReset => true
  | .resetNAssert _ => true
  | .resetNRelease b => b < 8
  | .firmwareStart => true
  | .bootReset => true
  | .qspiWriteImage => true
  | .qspiWriteConfig => true
  | .qspiErasePointer => true
  | .qspiWriteDone _ => true
  | .rollbackAdvance v => fits 8 v
  | .fwWatchdog => true
  | .paddockResetDone => true
  | .faultClear b m => b < 93 && fits 32 m
  | .faultForce b m => b < 93 && fits 32 m
  | .faultClearCounts b => b < 93
  | .muckPassStart u => u < 87
  | .sliceStart u => u < 87
  | .slicePreempt u _ => u < 87
  | .sliceEnd u o => u < 87 && fits 32 o
  | .muckRequest u => u < 87
  | .muckRelease s => s < 32
  | .deskewSequence g _ => g < 36
  | .powerOnResetRelease _ b => b < 8
  | .wakeRelease n => n < 4
  | .frameErrorRx p _ => p < 2
  | .qualificationTimeout => true
  | .troughResetDone => true

end Sys2Proof
end

