-- ==== Sys2Proof/Safety.lean ====
section
/-!
DEFINITION. The terms in which claims about the CT32 are stated: a device that has power, the state that a command leaves,
which commands move the pins, where the model stops, and what D0 holds while the VDD_AON monitor keeps it in power-on reset.
-/
namespace Sys2Proof.Machine

/-! ### Commands and their outcome -/

/-- D0 is out of power-on reset (R523). -/
abbrev State.powered (s : State) : Prop := s.boot.powerReset = false
/-- No reaction of R473 waits, as between two commands. -/
abbrev State.quiet (s : State) : Prop := s.reacts = []
/-- The dictionary server takes requests (R43, R459, R496). -/
abbrev State.serving (s : State) : Prop := s.serverUp = true ∧ s.serverBusy = false

/-- What a command leaves whose own effect on `s` is `t`: its reactions are performed, and neither the queue nor the
levels of the reset pins are its business. -/
def after (s t : State) : State := outside s (react t)
/-- The same for a command that can move votes or domains: the power controller follows before and after the reactions
(R443). -/
def afterPower (s t : State) : State := after s (settle (react (settle t)))
/-- What a command of the dictionary server leaves that answers abort code `a` with detail `d`: the answer is put out, and a
refusal for want of authority or for an old sequence is counted (R69, R70, R74). -/
def answered (a d : Nat) (t : State) : State := emit (.abort a d) (countRefusal a t)

/-- The end of a request: over SDP a chip reset that it asked for follows its response (R454). -/
def requestEnd (q : Request) (t : State) : State := if q.mailbox then t else afterResponse t

/-- The checks of R68 to R71 and R74 let request q through in `s`: `who` then acts, `keep` says whether the session
remembers the answer, and `v` is `s` with the sequence noted. A request is the mailbox's, one outside every session, or one
of an open session. -/
def Admitted (s : State) (q : Request) (who : Committer) (keep : Bool) (v : State) : Prop :=
  s.serverBusy = false ∧ formOk q.op q.payload = true ∧ ∃ slot,
    (q.mailbox = true ∧ q.session = 0 ∧ 24 ≤ s.mbx.latched.length ∧ s.mbx.latched.length ≤ 32512 ∧ q.payloadLen = q.msg.length ∧
      q.op ≠ 8 ∧ q.op ≠ 9 ∧
      authorise q (s.rd Obj.mbxRequireSigned == 1 && s.mustSign q.op false) (fun _ => true) s = (Ab.ok, slot) ∧
      (∀ k, slot = some k → s.rdE Obj.sdpSlotSequence k < q.seq) ∧
      who = ⟨ownerCode .mailbox, slot⟩ ∧ keep = false ∧
      v = (match slot with | some k => wrE Obj.sdpSlotSequence k q.seq s | none => s)) ∨
    (q.mailbox = false ∧ q.session = 0 ∧ q.signed = false ∧ who = ⟨ownerCode (.session 0), none⟩ ∧ keep = false ∧ v = s) ∨
    (q.mailbox = false ∧ q.session ≠ 0 ∧ ∃ x, s.session? q.session = some x ∧ ¬(x.lastSeq = some q.seq ∧ x.lastOp = q.op) ∧
      (q.signed = true → x.keySlot ≠ none) ∧
      authorise q (s.mustSign q.op x.keySlot.isSome) (fun k => x.keySlot == some k) s = (Ab.ok, slot) ∧
      s.staleSeq x q slot = false ∧
      who = ⟨ownerCode (.session q.session), slot⟩ ∧ keep = true ∧ v = noteSequence q slot s)

/-- The word at the head of the FIFO of gate g is taken; `rest` are the words behind it (R88, R90). -/
def wordTaken (g : Nat) (w : FifoWord) (rest : List FifoWord) (s : State) : State :=
  updGate g (fun gt => { gt with fifo := rest, span := gt.span && !w.brk }) s

/-- The commands that set the levels of the VDD_AON monitor and of RESET_N (R519, R523). -/
def pinCommand : Instr → Bool
  | .powerOnReset => true
  | .powerOnResetRelease _ _ => true
  | .resetNAssert _ => true
  | .resetNRelease _ => true
  | _ => false
/-- The commands that power-on reset does not keep out: those, and the PGOOD inputs of the rails. -/
def pinInput : Instr → Bool
  | .pgoodRise _ => true
  | .pgoodFall _ => true
  | c => pinCommand c

/-- Where the model gives a command no next state: a RESET_N pulse of a length that R519 leaves open. -/
def stops (s : State) : Instr → Bool
  | .resetNAssert n => 100 ≤ n && n < 1000 && !s.boot.resetNLow && !s.boot.powerReset
  | _ => false

/-! ### What statements name -/

/-- Where a byte of a swapped group comes from (the table of R351). -/
def swapSource (mode i : Nat) : Nat :=
  match mode with
  | 1 => i / 2 * 2 + (1 - i % 2)
  | 2 => i / 4 * 4 + (3 - i % 4)
  | 3 => i / 8 * 8 + (7 - i % 8)
  | 4 => i / 4 * 4 + (i % 4 + 2) % 4
  | _ => i

/-- The objects that may change under commands that detect nothing, start nothing and move no domain. -/
def mayChange : Instr → Option (List Nat)
  | .pad _ => some []
  | .holdoffEnd => some []
  | .throttleEnd _ => some []
  | .supplySettled => some [Obj.supplyState]
  | .chanStart _ => some [Obj.chanCurrent, Obj.chanDone, Obj.chanChains, Obj.chanState]
  | .chanPause _ => some [Obj.chanState]
  | .chanResume _ => some [Obj.chanState]
  | .troughResetDone => some []
  | .scrubWriteback => some []
  | .usb4LinkUp _ => some [Obj.hostLinkState, Obj.hostLinkRate]
  | .pcieTunnelUp => some [Obj.hostLinkState, Obj.hostMaxPayload, Obj.hostReadRequest]
  | .busMasterEnter => some [Obj.hostLinkState, Obj.hostLinkEpoch]
  | .timeSecondsLatch => some []
  | .statusClearOnRead _ => some [Obj.hostBadAccess, Obj.hostBar2Absent]
  | .recoveryIdentify _ => some []
  | .recoveryStatus _ => some []
  | .qualificationTimeout => some [Obj.ptpState]
  | .followUpTimeout => some []
  | .gsyncPulseEnd => some []
  | .toutPulse i => some [Obj.toutEdges i]
  | .toutPulseEnd _ => some []
  | .tcapEdge _ _ _ => some [Obj.tcapTime, Obj.tcapCaptures]
  | .portLinkUp _ => some [Obj.portLink]
  | .unwantedFrame _ _ => some [Obj.portRxDropped]
  | .detectListMerge _ _ => some []
  | .paddockResetDone => some []
  | .pgoodRise _ => some []
  | .pclkTrim => some []
  | .muckRequest _ => some []
  | .rollbackAdvance _ => some [Obj.secRollback, Obj.secRootRevoked]
  | .faultClearCounts b => some [Obj.faultCount b, Obj.faultFirstStep b, Obj.faultLastStep b, Obj.faultLastTime b,
      Obj.faultSourceCount b, Obj.faultFirstSource b, Obj.faultLastSource b]
  | _ => none

/-! ### Power-on reset (R31, R32, R523) -/

/-- What is lost in power-on reset: time, settings but for the fuses and what was found of the part, memory but for the
host's, and every unit at its reset state. -/
structure Lost (s : State) : Prop where
  time : s.now = 0
  settings : ∀ addr e, e < 2 ^ 24 → keptWithoutPower addr = false → dget s.dict addr e = objDefault addr e
  memory : ∀ a, a < 2 ^ 64 → s.byteAt a = 0
  steps : s.steps = []
  bales : s.sdp = Sdp.reset ∧ s.mbx = Mbx.reset
  gates : s.gates = [] ∧ s.i2c = []
  engines : s.chains = [] ∧ s.groom = Groom.reset ∧ s.stalls = [] ∧ s.chans = []
  jobs : s.slots = [] ∧ s.yards = [] ∧ s.troughs = []
  tracks : s.paddock = Paddock.reset ∧ s.hold = HoldD0.reset
  domains : s.power.domains = []
  reactions : s.reacts = []

/-- What every command keeps: power-on reset leaves nothing in D0, and the control processor is held as long as either
reset pin holds it. -/
structure Inv (s : State) : Prop where
  lost : s.boot.powerReset = true → Lost s
  held : (s.boot.powerReset = true ∨ s.boot.resetNLow = true) → s.boot.phase = .held

end Sys2Proof.Machine
end

