-- ==== Sys2Proof/Certificates/Slice0/Obligations.lean ====
section
/-!
DEFINITION. The statements about the model for the provers: the machine as a whole, then family by family the effect that
each command has where nothing turns it away, then rules of the manual, then frames.

`after s t` is the state that a command leaves whose own effect on `s` is `t`: the reactions of R473 are performed, and the
queue and the reset pins are not touched. `afterPower s t` is the same where the power controller follows too.
-/
open Sys2Proof Sys2Proof.Machine

/-! ### The machine as a whole -/

/-- A step runs the command at the front of the queue with the queue's rest. -/
def Obligations.StepRunsFront : Prop :=
  ∀ (c : Instr) (rest : List Instr) (s : State), s.pending = c :: rest → step s = exec c { s with pending := rest }

/-- With an empty queue the block idles for one TCLK tick (a choice of the model, log entry 11): the queue stays empty, and
a device in power-on reset stays as it is. -/
def Obligations.IdleStep : Prop :=
  ∀ (s : State), s.pending = [] →
    ∃ t, step s = .next t ∧ t.pending = [] ∧ (Inv s → s.boot.powerReset = true → t = s)

/-- No command puts anything into the queue or takes anything out of it. -/
def Obligations.ExecKeepsQueue : Prop :=
  ∀ (c : Instr) (s t : State), exec c s = .next t → t.pending = s.pending

/-- Only the commands of the VDD_AON monitor and of RESET_N change the levels that these have. -/
def Obligations.OnlyPinCommandsMovePins : Prop :=
  ∀ (c : Instr) (s t : State), pinCommand c = false → exec c s = .next t →
    t.boot.powerReset = s.boot.powerReset ∧ t.boot.resetNLow = s.boot.resetNLow

/-- Every command completes in every state but where `stops` says so, and there it stops by name (R519 leaves the effect of a
RESET_N pulse of that length open). -/
def Obligations.CommandsComplete : Prop :=
  ∀ (c : Instr) (s : State),
    (stops s c = false → ∃ t, exec c s = .next t) ∧
    (stops s c = true → exec c s = .fault .resetPulseUnspecified)

/-- While D0 is held in power-on reset, no command but those of the reset pins and the PGOOD inputs has an effect. -/
def Obligations.PowerOnResetHolds : Prop :=
  ∀ (c : Instr) (s : State), Inv s → s.boot.powerReset = true → pinInput c = false → exec c s = .next s

/-- The invariant holds right after reset. -/
def Obligations.ResetInv : Prop :=
 Inv State.reset

/-- Every step keeps the invariant: power-on reset leaves nothing in D0 but what R31 and R32 keep, and either reset pin
holds the control processor. -/
def Obligations.StepKeepsInv : Prop :=
  ∀ (s t : State), Inv s → step s = .next t → Inv t

/-! ### Gates -/

/-- CSI2_PACKET: a packet whose header is good, at a pipeline that is not STOPPED, goes through the checks of stage 2; an
uncorrectable header is counted, detected, and breaks the span of the port's pipeline. -/
def Obligations.PacketCompletes : Prop :=
  ∀ (g : Nat) (p : Packet) (s : State), g < 36 → s.powered → ¬(g % 2 = 1 ∧ s.ganged g = true) →
    (p.header ≠ .uncorrectable → s.gateState (s.packetGate g p) ≠ 0 →
      exec (.csi2Packet g p) s = .next (after s (takePacket (s.packetGate g p) p s))) ∧
    (p.header = .uncorrectable → s.gateState g ≠ 0 →
      exec (.csi2Packet g p) s
        = .next (after s (s |> countWord g 2 1 |> detect (gateBlock g) Src.gateHeaderEcc |> loseSpan g)))

/-- A packet that passes every check of R80 enters the FIFO, with its words in order behind those that wait, as long as
the FIFO has room (R90). -/
def Obligations.PacketEntersFifo : Prop :=
  ∀ (g : Nat) (p : Packet) (s : State), g < 36 → s.powered → s.quiet → ¬(g % 2 = 1 ∧ s.ganged g = true) →
    p.header = .ok → s.packetGate g p = g → 2 ≤ s.gateState g → p.extVc = 0 → p.vc ≤ 3 → s.vcBit g p.vc = true →
    p.short = false → p.crcOk = true → 0x30 ≤ p.dataType → p.dataType ≤ 0x37 →
    (s.gate g).fifo.length + (payloadWords p.payload).length ≤ 1024 →
    ∃ t, exec (.csi2Packet g p) s = .next t ∧
      (t.gate g).fifo.map (·.word) = (s.gate g).fifo.map (·.word) ++ payloadWords p.payload ∧
      (∀ h, h ≠ g → t.gate h = s.gate h) ∧ (∀ a, t.byteAt a = s.byteAt a)

/-- Event words. EV_NEG and EV_POS leave the FIFO, and with a valid span their event goes through the pipeline; without one it
is dropped and counted (R84, R88). VEC_NEG and VEC_POS with a valid span: the word and its mask word leave the FIFO, the
watermark follows the word's time, and each set bit of the mask is one event (R87); a VEC word that ends its packet is
counted alone (R87, R88). -/
def Obligations.GateWordsComplete : Prop :=
  (∀ (g : Nat) (s : State) (w : FifoWord) (rest : List FifoWord), g < 36 → s.powered → (s.gate g).fifo = w :: rest →
      let u := wordTaken g w rest s
      (tepType w.word = 0 → exec (.evNeg g) s = .next (after s
        (if (u.gate g).span then pipeEvent g (tepX w.word) (tepY w.word) false false ((u.gate g).sensorTime w.word) u
         else drop g 0 u))) ∧
      (tepType w.word = 1 → exec (.evPos g) s = .next (after s
        (if (u.gate g).span then pipeEvent g (tepX w.word) (tepY w.word) true false ((u.gate g).sensorTime w.word) u
         else drop g 0 u)))) ∧
  (∀ (g : Nat) (s : State) (w m : FifoWord) (rest : List FifoWord), g < 36 → s.powered →
      ((s.gate g).fifo = w :: m :: rest → w.last = false → w.brk = false → (s.gate g).span = true →
        let u := updGate g (fun gt => { gt with fifo := rest }) (wordTaken g w (m :: rest) s)
        let time := (u.gate g).sensorTime w.word
        let run := fun (pos : Bool) => (bitsOf 32 m.word.toNat).foldl
          (fun s i => pipeEvent g (tepX w.word + i) (tepY w.word) pos true time s) (rebaseWord g time u).2
        (tepType w.word = 2 → exec (.vecNeg g) s = .next (after s (run false))) ∧
        (tepType w.word = 3 → exec (.vecPos g) s = .next (after s (run true)))) ∧
      ((s.gate g).fifo = w :: rest → w.last = true →
        (tepType w.word = 2 → exec (.vecNeg g) s = .next (after s (countWord g 8 1 (wordTaken g w rest s)))) ∧
        (tepType w.word = 3 → exec (.vecPos g) s = .next (after s (countWord g 8 1 (wordTaken g w rest s))))))

/-- TIME_HIGH, MARKER, STATUS and words of reserved types (R85, R88, R94, R121). -/
def Obligations.OtherWordsComplete : Prop :=
  ∀ (g : Nat) (s : State) (w : FifoWord) (rest : List FifoWord), g < 36 → s.powered → (s.gate g).fifo = w :: rest →
    let u := wordTaken g w rest s
    (tepType w.word = 8 →
      let v := takeSpan g (field w.word.toNat 27 0) u
      exec (.timeHigh g) s = .next (after s (rebaseWord g ((v.gate g).th * 64) v).2)) ∧
    (tepType w.word = 0xA → (u.gate g).span = true →
      exec (.marker g) s = .next (after s (timedMarker g (field w.word.toNat 7 0) ((u.gate g).sensorTime w.word) u))) ∧
    (tepType w.word = 0xA → (u.gate g).span = false → exec (.marker g) s = .next (after s (countWord g 12 1 u))) ∧
    (tepType w.word = 0xF → s.isOn 10 = true → exec (.status g) s
      = .next (after s (wrE Obj.groomSensorStatus g w.word.toNat (countWord g 13 1 u)))) ∧
    (tepType w.word = 0xF → s.isOn 10 = false → exec (.status g) s = .next (after s (countWord g 13 1 u))) ∧
    (tepType w.word ∈ [4, 5, 6, 7, 9, 0xB, 0xC, 0xD] → exec (.reservedWord g) s = .next (after s (countWord g 7 1 u)))

/-- A PAD word leaves the FIFO and changes nothing else: no object, no other gate, no byte of memory. -/
def Obligations.PadIsIgnored : Prop :=
  ∀ (g : Nat) (s : State) (w : FifoWord) (rest : List FifoWord), g < 36 → s.powered → s.quiet → s.boot.resetNLow = false →
    (s.gate g).fifo = w :: rest → tepType w.word = 0xE → exec (.pad g) s = .next (wordTaken g w rest s)

/-- The timeouts of a gate, the release of a ring block, the switches of table banks, and deskew (R19, R79, R104, R105,
R108, R109), each at an instant that has come or that the machine can move on to (`dueAt`). -/
def Obligations.GateEventsComplete : Prop :=
  ∀ (g : Nat) (s u : State), g < 36 → s.powered →
    (s.gateState g ≠ 0 → (s.gate g).enabled = true → s.silent g = false →
      s.dueAt ((s.gate g).lastWordAt + 2 * s.periodUs * 1000 * nsUnit) = some u →
      exec (.gateSilent g) s = .next (after s (u |> putBit Obj.stepSilentGates g true |> loseCover g
        |> updGate g (fun gt => { gt with taps := [none, none, none, none] }) |> detect (gateBlock g) Src.gateSilent
        |> checkCoverage g))) ∧
    (∀ b, minBy (fun b => (b.firstAt : Int)) ((s.gate g).staging.filter (fun b => !b.waiting)) = some b →
      s.dueAt (b.firstAt + 20000 * nsUnit) = some u →
      exec (.stagingFlushTimeout g) s
        = .next (after s (flushWhere g (fun x => !x.waiting && x.firstAt + 20000 * nsUnit ≤ u.now) u))) ∧
    (∀ block, block ∈ (s.gate g).ringUsed →
      s.stalls.any (fun p => p.2.queue.any (fun b => b.gate == g && b.block == block)) = false →
      exec (.blockRelease g block) s = .next (after s (flushWhere g (fun b => b.waiting)
        (updGate g (fun gt => { gt with ringUsed := gt.ringUsed.erase block }) s)))) ∧
    exec (.tableLoadLateSwitch g) s = .next (after s (switchUpTo g (s.rd (Obj.gateWatermark g) : Int)
      (updGate g (fun gt => { gt with loads := gt.loads.map (fun l => { l with complete := true }) }) s))) ∧
    (∀ l, minBy (fun l => (l.limitUs : Int)) (s.gate g).loads = some l → s.dueAt (l.limitUs * 1000 * nsUnit) = some u →
      exec (.tableSwitchLimit g) s = .next (after s
        (((u.gate g).loads.filter (fun l => l.limitUs * 1000 * nsUnit ≤ u.now)).foldl (fun s l => switchBank g l s) u))) ∧
    (s.gateState g ≠ 0 → exec (.deskewSequence g false) s = .next (after s (detect (gateBlock g) Src.gateDeskewFail s))) ∧
    exec (.deskewSequence g true) s = .next (after s s)

/-! ### I²C -/

/-- I2C_XFER: while at most four scripts wait, the script is queued and answered with no abort; else BUSY (R111). The records of
a running script: a transfer goes out on the bus and its status and data enter the result; a delay ends after its time; END
completes the script; a transfer beyond I2C.TIMEOUT fails with status 3 (R110, R112, R113). -/
def Obligations.I2cCompletes : Prop :=
  (∀ (g : Nat) (b : List Byte) (s : State), g < 6 → s.powered → s.serving → b.length ≤ 4096 →
      ((s.i2cm g).queue.length < 4 → exec (.i2cXfer g b) s = .next (after s (answered Ab.ok 0
        (s |> updI2c g (fun m => { m with queue := m.queue ++ [⟨.xfer, b⟩] }) |> i2cNext g)))) ∧
      (4 ≤ (s.i2cm g).queue.length → exec (.i2cXfer g b) s = .next (after s (answered Ab.busy 0 s)))) ∧
  (∀ (g addr n : Nat) (a : I2cAnswer) (s u : State), g < 6 → s.powered →
      (s.i2cHead g = some (1, addr, n) → 1 ≤ n → n ≤ 256 → addr < 0x80 → 4 + n ≤ (s.i2cm g).rest.length →
        exec (.i2cWrite g a) s = .next (after s (s |> emit (.i2c g 1 addr (slice (s.i2cm g).rest 4 n))
          |> i2cRecord g (i2cStatus a) (4 + n) (i2cData 0 a)))) ∧
      (s.i2cHead g = some (2, addr, n) → 1 ≤ n → n ≤ 256 → addr < 0x80 →
        exec (.i2cRead g a) s = .next (after s (s |> emit (.i2c g 2 addr []) |> i2cRecord g (i2cStatus a) 4 (i2cData n a)))) ∧
      (s.i2cHead g = some (3, addr, n) → addr < 0x80 → 4 + n % 256 ≤ (s.i2cm g).rest.length →
        exec (.i2cWriteRead g a) s = .next (after s (s |> emit (.i2c g 3 addr (slice (s.i2cm g).rest 4 (n % 256)))
          |> i2cRecord g (i2cStatus a) (4 + n % 256) (i2cData (n / 256) a)))) ∧
      (s.i2cHead g = some (4, addr, n) → s.dueAt ((s.i2cm g).since + n * 10000 * nsUnit) = some u →
        exec (.i2cDelay g) s = .next (after s (i2cRecord g 0 4 [] u))) ∧
      (s.i2cHead g = some (5, addr, n) → exec (.i2cEnd g) s = .next (after s (i2cFinish g true s))) ∧
      (s.i2cHead g = some (2, addr, n) → s.dueAt ((s.i2cm g).since + s.rd Obj.i2cTimeout * 1000000 * nsUnit) = some u →
        exec (.i2cTimeout g) s = .next (after s (i2cRecord g 3 4 [] u))))

/-! ### Steps, fusion and HOLD -/

/-- STEP_BOUNDARY once B_k has come, with no bale waiting and the schedule unchanged: the pairs in use are checked, steps
that lag stretch, step k opens, GSYNC follows, and the blocks do their boundary work (R10, R20, R26, R403, R418). -/
def Obligations.BoundaryCompletes : Prop :=
  ∀ (s u v : State), s.powered → (settle s).dueAt ((settle s).boundary (settle s).time.nextBoundary) = some u →
    stretchSteps (settle s).time.nextBoundary (checkBoundaryPairs u) = v → v.sdp.waiting = [] →
    sameSchedule u.dict v.dict = true →
    let k := (settle s).time.nextBoundary
    exec .stepBoundary s = .next (afterPower s (v |> openStep k |> gsyncBoundary k |> boundaryWork k))

/-- The steps after their boundary: ingress closes when every gate is past (R20), or at the stretch limit; at the compute
limit the leaves that are awaited are missing (R21); a leaf that has finished delivers (R21). -/
def Obligations.StepEventsComplete : Prop :=
  ∀ (k : Nat) (s u : State) (r : StepRec), s.powered →
    (s.step? k = some r → r.phase.ingressOpen = true → k + 1 < s.time.nextBoundary → s.caughtUp k = true →
      exec (.ingressClose k) s = .next (after s (closeIngress k false s))) ∧
    (s.step? k = some r → r.phase.ingressOpen = true → k + 1 < s.time.nextBoundary → s.caughtUp k = false →
      s.dueAt (s.boundary (k + slOf r.cfg)) = some u →
      exec (.stretchLimitClose k) s = .next (after s (closeIngress k true u))) ∧
    ((settle s).step? k = some r → r.phase = .computing →
      (settle s).dueAt ((settle s).boundary (k + slOf r.cfg + 1)) = some u →
      exec (.computeLimit k) s = .next (afterPower s (serveSteps k
        ((u.jobsOf k).foldl (fun v j => missStep j k (u.boundaryUs (k + slOf r.cfg + 1)) v) u)))) ∧
    (∀ (i : Nat) (f : Leaf), i < 32 → s.leafOf i = some f → s.step? k = some r → r.awaits i = true → s.inRun f.j k = true →
      i ∈ s.cutOf f k → s.leafFinished f k = true →
      exec (.stallDeliver i k) s = .next (after s (s |> updStep k (fun r => { r with delivered := r.delivered ++ [i] })
        |> wr (Obj.stallStepDone i) (newestStep (s.rd (Obj.stallStepDone i)) k s) |> clearMiss f.j i |> serveStep k f.j)))

/-- Fusion: it starts on the oldest step once its slot has passed (R22), its budget may run out (R317), its end publishes
and makes the step DONE (R331, R537), and a step with PADDOCK.RUN 0 becomes DONE without it (R537). -/
def Obligations.FusionCompletes : Prop :=
  ∀ (k : Nat) (s u : State) (r : StepRec) (f : Fusion), s.powered →
    (s.fusable k = some r → s.dueAt (s.boundary (k + 2)) = some u →
      exec (.fusionStart k) s = .next (after s (u |> yardStepWrite k |> fuse r |> updStep k (fun r => { r with phase := .fusing })))) ∧
    (s.paddock.fusion = some f → f.capped = true → f.cappedTold = false →
      exec .solveCapped s = .next (after s (s |> updPaddock (fun p => { p with fusion := some { f with cappedTold := true } })
        |> inc 32 Obj.paddockSolveCapped |> detect padBlock Src.padSolveCapped))) ∧
    ((settle s).paddock.fusion = some f → holdResult 0 0 0 0 (solveCapped (settle s)) = u → u.step? f.k = some r →
      u.now ≤ f.since + 300000 * nsUnit →
      exec .fusionComplete s = .next (afterPower s
        (stepDone f.k (f.coObs.foldl (fun s o => takeCoObs o s)
          (u |> writeFused r f false |> publishFusion f |> sendTracks r f |> wr Obj.stepFused f.k |> trackSamples f))))) ∧
    (∀ later, (settle s).steps = r :: later → r.k = k → r.phase = .computing → cfgN r.cfg Obj.paddockRun ≠ 1 →
      (settle s).allIn r = true → (settle s).dueAt ((settle s).boundary (k + 2)) = some u →
      exec (.stepDoneUnfused k) s = .next (afterPower s (u |> yardStepWrite k |> stepDone k))) ∧
    (s.paddock.resetting = true →
      exec .paddockResetDone s = .next (after s (updPaddock (fun p => { p with resetting := false, rearm := true }) s)))

/-- HOLD_RESULT_RECEIVE of a word that arrives whole and in order, while no rule of R327 forces the pairs: each pair moves
by its zones, its demand and its clear count; the watchdog is re-armed (R328, R329). -/
def Obligations.HoldResultMovesPairs : Prop :=
  ∀ (s : State) (w : DemandWord), s.powered → s.hold.link = some w → w.demand < 2 ^ 16 → w.complement = 0xFFFF - w.demand →
    w.step8 < 256 → w.rearm < 2 → w.rearmN = 1 - w.rearm →
    (∀ r, s.hold.ref = some r → w.rearm = 0 → w.step8 = (r + 1) % 256) →
    pairOk 16 (s.rdE Obj.paddockWatchdog 0) = true → s.holdForced = false →
    exec (.holdResultReceive 0 0 0 0) s = .next (after s ((List.range 16).foldl (fun s n => movePair w n s)
      (updHold (fun h => { h with link := none, ref := some w.step8, lastAt := s.now, tripped := false, everFused := true }) s)))

/-- A demand word whose complement does not fit: PAIR_PATH is detected (R329). HOLD_READBACK_MISMATCH for more than 5 µs sets
PIN_READBACK; for less it does nothing (R527). -/
def Obligations.HoldFaultsComplete : Prop :=
  (∀ (s : State) (w : DemandWord) (e : Nat), s.powered → s.hold.link = some w → w.demand < 2 ^ 16 →
      w.complement = 0xFFFF - w.demand → e % 2 ^ 16 ≠ 0 →
      ∃ u, exec (.holdResultReceive e 0 0 0) s = .next (after s u) ∧
        u.rdE (Obj.faultSourceCount padBlock) Src.padPairPath = satTo 16 (s.rdE (Obj.faultSourceCount padBlock) Src.padPairPath + 1)) ∧
  (∀ (s : State) (pair ns : Nat) (negative : Bool), s.powered → pair < 16 →
      (5000 < ns → exec (.holdReadbackMismatch pair negative ns) s = .next (after s (detect padBlock Src.padPinReadback s))) ∧
      (ns ≤ 5000 → exec (.holdReadbackMismatch pair negative ns) s = .next (after s s)))

/-- HOLD_WATCHDOG_TRIP: with no result for PADDOCK.WATCHDOG × P every pair is in HOLD, and the watchdog has tripped (R328).
Where the source's reactions reset nothing, no byte of memory changes outside the boot record, which may log an interrupt. -/
def Obligations.WatchdogForcesHold : Prop :=
  ∀ (s u : State), s.powered → s.quiet → s.hold.tripped = false → s.hold.everFused = true →
    s.dueAt (s.hold.lastAt + s.pair 16 Obj.paddockWatchdog 0 * s.periodUs * 1000 * nsUnit) = some u →
    s.rdE (Obj.faultReact padBlock) Src.padWatchdog % 16 < 4 →
    ∃ t, exec .holdWatchdogTrip s = .next t ∧ t.hold.tripped = true ∧ (∀ n, n < 16 → t.rd (Obj.holdState n) = 0) ∧
      (∀ a, a < 0x1200033000 ∨ 0x1200034000 ≤ a → t.byteAt a = s.byteAt a)

/-! ### SDP, the dictionary server and the mailbox -/

/-- A datagram that completes a message queues its request; one that does not is kept, in the place of what was there of its message; a bad one is dropped and counted
(R55 to R58). -/
def Obligations.DatagramCompletes : Prop :=
  ∀ (port source : Nat) (b : List Byte) (s : State), port < 2 → s.powered → s.serverUp = true → s.portUp port = true →
    let new : Partial := ⟨source, port, beAt b 3 1, 0, beAt b 6 2, beAt b 8 4, beAt b 12 8, s.now, [], none⟩
    let p := addFragment ((s.sdp.partials.find? (samePartial new)).getD new) (beAt b 24 4) (b.drop 28) (beAt b 4 2)
    let others := s.sdp.partials.filter (fun x => !samePartial new x)
    (s.badDatagram b = true → exec (.sdpDatagramRx port source b) s = .next (after s (dropDatagram s))) ∧
    (s.badDatagram b = false → ∀ e, p.last = some e → e.1 + e.2 ≤ covered p.parts →
      exec (.sdpDatagramRx port source b) s = .next (after s (s |> updSdp (fun d => { d with partials := others })
        |> updSession p.session (fun x => { x with lastUse := s.now }) |> enqueue (p.request e)))) ∧
    (s.badDatagram b = false → (∀ e, p.last = some e → covered p.parts < e.1 + e.2) →
      (s.sdp.partials.find? (samePartial new) = none → exec (.sdpDatagramRx port source b) s
        = .next (after s (updSdp (fun d => { d with partials := d.partials ++ [p] }) s))) ∧
      ((s.sdp.partials.find? (samePartial new)).isSome = true → exec (.sdpDatagramRx port source b) s = .next (after s
        (updSdp (fun d => { d with partials := d.partials.map (fun x => if samePartial new x then p else x) }) s))))

/-- The timeouts of messages and sessions, and the two ends of a mailbox transfer (R57, R68, R73, R74). -/
def Obligations.TransportCompletes : Prop :=
  ∀ (s u : State), s.powered →
    (∀ source p, s.sdp.partials.find? (fun p => p.source == source) = some p → s.serverUp = true →
      s.dueAt (p.since + 200000000 * nsUnit) = some u →
      exec (.sdpReassemblyTimeout source) s
        = .next (after s (u |> updSdp (fun d => { d with partials := d.partials.erase p }) |> dropDatagram))) ∧
    (∀ id x, s.session? id = some x → s.serverUp = true →
      s.dueAt (x.lastUse + (if x.timeoutS = 0 then s.rd Obj.sdpSessionTimeout else x.timeoutS) * 1000000000 * nsUnit) = some u →
      exec (.sessionTimeout id) s = .next (after s (endSession id u))) ∧
    (s.barsUp = true → s.mbx.state = 1 →
      exec .mbxGo s = .next (after s (updMbx (fun m => { m with ignored := (m.ignored + 1) % 2 ^ 32 }) s))) ∧
    (s.barsUp = true → s.mbx.state ≠ 1 → s.serverUp = true →
      let v := updMbx (fun m => { m with
        state := 1, latched := (List.range (min s.mbx.reqLen 32513)).map (fun i => sget (0 : Byte) s.mbx.reqBuf i),
        busyTag := m.tag, answer := none, rspBuf := [] }) s
      exec .mbxGo s = .next (after s (enqueue v.mbxRequest v))) ∧
    (∀ b, (settle s).mbx.state = 1 → (settle s).barsUp = true → (settle s).mbx.answer = some b →
      (settle s).boot.resetAfterResponse = false →
      exec .mbxResponse s = .next (afterPower s (mbxDone b (settle s))))

/-- An op whose request is at the front of the server's queue, and which every check lets through (`Admitted`), is executed
and answered; a request of a session leaves its answer there (R46 to R48, R54, R61, R65 to R71, R74, R506). -/
def Obligations.OpsServed : Prop :=
  ∀ (s v : State) (q : Request) (rest : List Request) (who : Committer) (keep : Bool), s.powered →
    (s.serverUp = true → s.sdp.queue = q :: rest →
      Admitted (updSdp (fun d => { d with queue := rest }) s) q who keep v →
      let done := fun (act : OpAct) => requestEnd q (accept q who act keep v)
      (q.op = 1 → exec .read s = .next (after s (done opRead))) ∧
      (q.op = 3 → exec .readBlock s = .next (after s (done opReadBlock))) ∧
      (q.op = 4 → exec .writeBlock s = .next (after s (done opWriteBlock))) ∧
      (q.op = 6 → exec .discard s = .next (after s (done opDiscard))) ∧
      (q.op = 7 → exec .list s = .next (after s (done opList))) ∧
      (q.op = 8 → exec .sessionOpen s = .next (after s (done opSessionOpen))) ∧
      (q.op = 9 → exec .sessionClose s = .next (after s (done opSessionClose))) ∧
      (q.op = 10 → exec .attest s = .next (after s (done opAttest)))) ∧
    ((settle s).serverUp = true → (settle s).sdp.queue = q :: rest →
      Admitted (updSdp (fun d => { d with queue := rest }) (settle s)) q who keep v →
      (q.op = 2 → exec .write s = .next (afterPower s (requestEnd q (accept q who opWrite keep v)))) ∧
      (q.op = 5 → exec .commit s = .next (afterPower s (requestEnd q (accept q who opCommit keep v)))))

/-- Commands of their own: COMMIT and DISCARD of the mailbox's bale, writes of objects and of BAR0, CLEAR objects, and
TIME.NOW_SEC (R40, R41, R48, R54, R388, R406). Of them, what the host sends without a signature is refused with NOT_AUTHORISED
while MBX.REQUIRE_SIGNED is 1 (R74). -/
def Obligations.SingleWritesComplete : Prop :=
  ∀ (s : State), s.powered →
    ((settle s).serving → (settle s).rd Obj.mbxRequireSigned ≠ 1 →
      exec (.baleCommit .mailbox) s = .next (afterPower s
        (let r := commitBale ⟨0, none⟩ (settle s); answered r.1.1 r.1.2 r.2.2)) ∧
      (∀ addr e vs, exec (.registerWrite (.object addr e vs)) s = .next (afterPower s
        (let r := objectWrite addr e vs (settle s); answered r.1.1 r.1.2 r.2))) ∧
      (∀ addr b, exec (.registerWrite (.domain addr b)) s = .next (afterPower s
        (let r := writeBytes wireNat hostWriter addr 0 0 1 b (settle s); answered r.1.1 r.1.2 r.2)))) ∧
    ((settle s).serving → (settle s).rd Obj.mbxRequireSigned = 1 →
      exec (.baleCommit .mailbox) s = .next (afterPower s (answered Ab.notAuthorised 0 (settle s))) ∧
      (∀ addr e vs, exec (.registerWrite (.object addr e vs)) s = .next (afterPower s (answered Ab.notAuthorised 0 (settle s)))) ∧
      (∀ addr b, exec (.registerWrite (.domain addr b)) s = .next (afterPower s (answered Ab.notAuthorised 0 (settle s))))) ∧
    (∀ id x k, (settle s).serving → (settle s).session? id = some x → x.keySlot = some k →
      exec (.baleCommit (.session id)) s = .next (afterPower s
        (let r := commitBale ⟨ownerCode (.session id), some k⟩ (settle s); answered r.1.1 r.1.2 r.2.2))) ∧
    (s.serving → s.rd Obj.mbxRequireSigned ≠ 1 →
      exec (.baleDiscard .mailbox) s = .next (after s (answered 0 0 (discardBale 0 s)))) ∧
    (∀ o b, exec (.registerWrite (.bar0 o b)) s = .next (afterPower s (bar0Write o b (settle s)))) ∧
    (∀ addr, s.serving → exec (.counterClear addr) s = .next (after s (answered 0 0 (counterClear addr s)))) ∧
    (s.serving → exec .timeNowLatch s = .next (after s (s |> latchNow |> emit (.bytes (beBytes 8 (s.nowNs / 1000000000))))))

/-! ### Groom and sieve -/

/-- The groom's cycle, its epoch, a proposal accepted by hand, and a bias script given up (R122, R127, R143, R144). -/
def Obligations.GroomCompletes : Prop :=
  ∀ (s u : State), s.powered →
    (let bc := s.boundaryAfter s.groom.nextCycle
     let us := bc / (1000 * nsUnit)
     let since : Option Int :=
       if s.groom.nextCycle = s.groom.cycleStart then none else some ((s.groom.cycleStart / (1000 * nsUnit) : Nat) : Int)
     let est := (List.range 36).foldl (fun s g => estimateGate us since g s) (s |> inc 32 Obj.groomCycles |> pruneCoObs (us / 1000000))
     let chk := est.groom.checks.foldl (fun s p => checkPairAlign us p s) est
     s.isOn 10 = true → bc ≤ s.now → s.time.nextBoundary ≠ 0 → bc < s.boundary s.time.nextBoundary → chk.epochWaits = false →
      exec .groomCycleStart s = .next (after s (updGroom (fun gr => { gr with
        cycleStart := bc, nextCycle := bc + chk.rd Obj.groomPeriod * 10 ^ 9 * nsUnit, checks := [], estimated := true, flicked := [],
        samples := gr.samples.filter (fun p => (us : Int) ≤ p.2.2.2) }) chk))) ∧
    (∀ v j, s.groom.estimated = true → s.epochWaits = false → s.groom.drafts ≠ [] →
      s.groom.drafts.all (fun p => p.disposition == 1 && p.category != catTime && p.category != catHot) = true →
      s.groom.drafts.any (fun p => s.claimedByOther (ownerCode .groom) p.writes) = false →
      commitEpoch (ownerCode .groom) Obj.groomEpochsRefused (s.groom.drafts.flatMap (·.writes))
        (updGroom (fun gr => { gr with drafts := [], estimated := false }) s) = (some j, v) →
      exec .groomEpochCommit s = .next (after s (s.groom.drafts.foldl (fun s p => issueProposal j p s) v))) ∧
    (∀ n p, s.serving → s.groom.proposals.find? (fun p => p.number == n) = some p → p.disposition ≠ 1 → p.disposition ≠ 3 →
      p.disposition ≠ 4 → s.proposalCurrent p = true → (p.category = catTime → s.tableAllowed p.gate = true) → s.epochWaits = false →
      s.claimedByOther (ownerCode .groom) p.writes = true →
      let q : Proposal := { p with disposition := 2 }
      exec (.groomAccept n) s = .next (after s (answered Ab.ok 0 (writeProposal q 0
        (updGroom (fun gr => { gr with proposals := gr.proposals.map (fun x => if x.number = n then q else x) }) s))))) ∧
    (∀ n j v, s.serving → ∀ p, s.groom.proposals.find? (fun p => p.number == n) = some p → p.disposition ≠ 1 →
      p.disposition ≠ 3 → p.disposition ≠ 4 → s.proposalCurrent p = true → (p.category = catTime → s.tableAllowed p.gate = true) →
      s.epochWaits = false → s.claimedByOther (ownerCode .groom) p.writes = false →
      commitEpoch (ownerCode .groom) Obj.groomEpochsRefused p.writes s = (some j, v) →
      let q : Proposal := { p with disposition := 1 }
      exec (.groomAccept n) s = .next (after s (answered Ab.ok 0 (writeProposal q j
        (updGroom (fun gr => { gr with proposals := gr.proposals.map (fun x => if x.number = n then q else x) }) v))))) ∧
    (∀ g b, g < 36 → s.groom.bias.find? (fun b => b.gate == g) = some b →
      s.dueAt (b.since + s.rd Obj.groomPeriod * 10 ^ 9 * nsUnit) = some u →
      exec (.biasScriptGiveUp g) s = .next (after s (u |> updGroom (fun gr => { gr with bias := gr.bias.filter (fun x => x != b) })
        |> detect groomBlock Src.groomBiasScriptFail)))

/-- The sieve: a sample goes through its chain, a settled chain runs, and an evaluation follows its period (R148, R158,
R163). -/
def Obligations.SieveCompletes : Prop :=
  ∀ (s : State), s.powered →
    (∀ c t v rest, c < 16 → (s.chain c).inbox = (t, v) :: rest → 2 * ((s.chain c).startUs : Int) ≤ t →
      exec (.chainInput c) s = .next (after s (takeSample c t v (updChain c (fun ch => { ch with inbox := rest }) s)))) ∧
    (∀ c, c < 16 → s.rd (Obj.chainState c) = 1 → s.rd (Obj.chainSettle c) ≤ (s.chain c).made →
      exec (.chainSettled c) s = .next (after s (s |> wr (Obj.chainState c) 2 |> clearDetector c))) ∧
    (let bc := s.boundaryAfter (s.sieveAt + s.rd Obj.sieveUpdatePeriod * 10 ^ 9 * nsUnit)
     s.isOn 10 = true → bc ≤ s.now → s.time.nextBoundary ≠ 0 → bc < s.boundary s.time.nextBoundary →
      s.sdp.waiting.any (fun w => w.owner == ownerCode .sieve) = false →
      exec .sieveEvaluation s
        = .next (after s (sieveEpoch { s with sieveAt := max bc (s.boundary (s.time.nextBoundary - 1)) })))

/-! ### Jobs, yards and halos -/

/-- The commands of a job slot: a load starts from a slot that is EMPTY, LOADED or REJECTED, a load that is done is accepted or
rejected with its reason, an unload empties the slot, and a failed member that is ready comes back through a re-map (R179,
R180, R199). HALO_ARRIVAL: the one slot that waits for a consumer is taken where it carries the consumer's step, and every
slot of that step or an earlier one is released (R190, R191). HALO_DEADLINE: what waits is taken, and every producer still missing is zero-filled
(R192). -/
def Obligations.JobsAndHalosComplete : Prop :=
  (∀ (j : Nat) (s : State), j < 64 → s.powered →
      (s.serving → s.rd (Obj.jobState j) ∈ [0, 2, 3] → exec (.jobLoad j) s = .next (after s (answered Ab.ok 0
        (s |> setJobState j 1 |> wr (Obj.jobAreaKib j) 0
          |> updSlot j (fun _ => { JobSlot.reset with latched := (s.rd (Obj.jobImageAddr j), s.rd (Obj.jobImageLen j)) }))))) ∧
      (s.serving → s.rd (Obj.jobState j) ∈ [2, 3] → exec (.jobUnload j) s = .next (after s (answered Ab.ok 0
        (s |> setJobState j 0 |> wr (Obj.jobAreaKib j) 0 |> updSlot j (fun _ => JobSlot.reset))))) ∧
      (∀ a n b u, s.rd (Obj.jobState j) = 1 → (s.slot j).latched = (a, n) → s.imagePlace a n = true →
        within 128 268435456 n = true → memReadZero a n s = (b, u) →
        exec (.jobLoadDone j) s = .next (after s
          (match u.loadBad j b n with | none => acceptLoad j b u | some e => rejectLoad j e u))) ∧
      (∀ y m, y < 256 → m < 64 → (settle s).serving →
        (settle s).runningSlots.find? (fun k => (settle s).jobYard k < 256 && (yardsBelow (settle s).dict 9 ((settle s).jobYard k)).contains y)
          = some j →
        (settle s).memberFailed j y m = true → (settle s).memberReady j y m = true →
        let ls := (settle s).slotLeaves (settle s).dict y m
        let ms := ((settle s).slotMembers y m).map memberCode
        exec (.yardReadmit y m) s = .next (afterPower s (answered Ab.ok 0
          (scheduleRemap j (settle s).nowUs (if ls.all isLocal && ms.isEmpty then 2 else 8) ls ms (settle s)))))) ∧
  (∀ (i layer n : Nat) (s u : State) (f : Leaf) (h : HaloSlot), i < 32 → s.powered → s.leafOf i = some f →
      s.haloReader f layer = some n →
      let k := (s.stall i).layerStep n
      let mine := fun (h : HaloSlot) => h.layer == layer && h.consumer == i && decide (h.step ≤ k)
      let v := { s with halos := s.halos.filter (fun h => !mine h) }
      let lacks := (f.img.producers (s.cutOf f k) f.gates.length layer i).filter
        (fun p => !(s.stall i).halosIn.contains (layer, k, p)
          && !s.halos.any (fun h => h.layer == layer && h.consumer == i && h.producer == p && h.step == k))
      (s.halos.filter mine = [h] → h.step = k → (s.stall i).halosIn.contains (layer, k, h.producer) = false →
        (s.stall i).finished layer k = false →
        exec (.haloArrival i layer) s
          = .next (after s (takeSlot f (f.img.passed (v.cutOf f k) f.gates.length layer h.producer i) h v))) ∧
      (lacks ≠ [] → s.inRun f.j k = true →
        s.dueAt ((s.boundaryUs (k + slOf (s.cfgOf k) + 1) * 1000 - s.tailNs f (f.img.groupOf n) k) * nsUnit) = some u →
        exec (.haloDeadline i layer) s = .next (after s (lacks.foldl (fun s p => zeroFill f layer k p s) (haloArrival i layer u)))))

/-! ### The work of a leaf -/

/-- The stages of a leaf's step, each once its sources are ready: ingress blocks (blocks of steps that are over are released,
blocks of late events go to the late-carry buffer, and late events are applied before blocks on time), the sheaf,
spike layers and dense layers, and the yard's K-best list; gleaning and replays (R213, R222, R240, R258, R288). -/
def Obligations.LeavesComplete : Prop :=
  (∀ (i n : Nat) (s : State) (f : Leaf), i < 32 → s.powered → s.leafOf i = some f →
      let st := s.stall i
      let k := st.layerStep n
      let l := f.img.layer n
      (∀ b, st.queue.find? (fun b => decide (b.step < st.eventStep)) = some b →
        exec (.ingressBlockConsume i) s = .next (after s (retryStaging (releaseUnread i b s)))) ∧
      (∀ b, st.queue.find? (fun b => decide (b.step < st.eventStep)) = none → st.queue.find? (·.late) = some b →
        exec (.ingressBlockConsume i) s = .next (after s (retryStaging (takeLateBlock f b s)))) ∧
      (∀ b, st.queue.find? (fun b => decide (b.step < st.eventStep)) = none → st.queue.find? (·.late) = none →
        s.inRun f.j st.eventStep = true → (st.eventStep ≤ st.first ∨ s.ingressOpen (st.eventStep - 1) = false) →
        f.img.sheafLayers.all (fun m => decide (st.eventStep ≤ st.layerStep m)) = true → s.olderWork f st.eventStep = false →
        (st.late.any (fun x => x.step == st.eventStep) = true →
          exec (.ingressBlockConsume i) s
            = .next (after s (retryStaging (finishEvents f st.eventStep (applyLate f st.eventStep s))))) ∧
        (st.late.any (fun x => x.step == st.eventStep) = false → st.queue.find? (fun b => b.step == st.eventStep) = some b →
          exec (.ingressBlockConsume i) s
            = .next (after s (retryStaging (finishEvents f st.eventStep (consumeBlock f st.eventStep b s)))))) ∧
      (lyType l = tySheaf → n < f.img.layers.length → k < st.eventStep → s.slotBlocked f n k = false →
        exec (.sheafSeal i n) s = .next (after s (s |> sealCells f n k
          |> storeRows f n k (f.img.computed (s.cutOf f k) f.gates.length f.i n) |> busyFor (Obj.threshBusyCycles i) i
          (16 + ceilDiv ((f.img.owned (s.cutOf f k) f.gates.length i n).length * lyW l * groupWidth (lyOut l)) 64)
          |> finishLayer f n k))) ∧
      (lyType l = tySpikeConv → n < f.img.layers.length → s.inRun f.j k = true →
        (List.range n).all (fun m => !isSpike (f.img.layer m) || st.finished m k) = true → s.sourceReady f (lySource l) k = true →
        s.groupReady f n (lySource l) k = true → s.slotBlocked f n k = false → s.olderWork f k = false →
        let c := s.spikeCtx f n k
        let u := flushContrib f s
        exec (.spikeLayerStart i n) s
          = .next (after s (finishSpike c [lySource l] ((u.convInputs c).foldl (fun s x => addInput c x s) u)))) ∧
      (n < f.img.layers.length → isDense l = true → lyType l ≠ tySheaf → s.inRun f.j k = true → s.denseReady f n k = true →
        s.slotBlocked f n k = false → exec (.denseLayerStart i n) s = .next (after s
          (s |> runDense f n k |> storeRows f n k (s.computedRows f n k) |> finishLayer f n k)))) ∧
  (∀ (i n : Nat) (s : State), s.powered →
      (∀ j img r, j < 64 → (s.slot j).image = some img → n < img.layers.length → lyType (img.layer n) = tyDetect →
        let parts := fun (r : StepRec) => (s.ownCut (s.jobYard j) r.k).map (fun leaf => s.leafBoxes r n leaf)
        s.steps.find? (fun r => s.inRun j r.k && !s.lists.any (fun x => x.1 == j && x.2.1 == n && x.2.2.1 == r.k)
          && (parts r).all (·.isSome)) = some r →
        let far := (s.net.boxesGot.filter (fun b => (remoteMembers s.dict (s.jobYard j)).contains (b.1, b.2.1) && b.2.2.1 == r.k
          && b.2.2.2.1 == n)).flatMap (fun b => b.2.2.2.2)
        exec (.detectListMerge j n) s = .next (after s { s with lists := s.lists
          ++ [(j, n, r.k, (sortBy boxBefore ((parts r).flatMap (fun x => x.getD []) ++ far)).take (deK (img.layer n)))] })) ∧
      (∀ f port y x ch, i < 32 → s.leafOf i = some f → isSpike (f.img.layer n) = true → n < f.img.layers.length →
        port < f.gates.length → y < lyH (f.img.layer n) → x < lyW (f.img.layer n) → ch < lyOut (f.img.layer n) →
        let k := (s.stall i).layerStep n
        let row := port * lyH (f.img.layer n) + y
        s.inRun f.j k = true → f.img.owner (s.cutOf f k) f.gates.length n row = some i →
        exec (.gleanVisit i n port y x ch) s
          = .next (after s (gleanNeuron (s.spikeCtx f n k) (placeOf n row x ch) s))) ∧
      (∀ m, i < 32 → s.isOn (stallDomain i) = true → (s.muckUnit i).running = false → (s.stall i).throttled = none → m ≠ 16 →
        let u := s |> inc 64 (Obj.winnowReplays i) |> addE 64 (Obj.winnowActiveCycles i) 0 3
        exec (.timingErrorReplay i m) s = .next (after s (updStall i (fun st => { st with
          replays := (u.rd (Obj.winnowActiveCycles i) :: st.replays).take 9 }) u))))

/-! ### Supply and rails -/

/-- The adaptive supply: the emergency of a stall, the end of a window, of a change without confirmation, of settling, of a
throttle and of the hold-off (R291 to R293). -/
def Obligations.SupplyCompletes : Prop :=
  ∀ (i : Nat) (s u : State), s.powered →
    (i < 32 → s.isOn (stallDomain i) = true → s.inEmergency i = true →
      let v := s |> inc 32 (Obj.winnowEmergencies i) |> updStall i (fun st => { st with replays := [] })
        |> detect (stallBlock i) Src.stallReplayEmergency
      let l := checkLimits v
      let t := l.rd Obj.supplyTargetMv
      v.rd Obj.supplyState ≠ supDisabled → l.supplyClamp (t + 50) ≠ t →
      let x := l |> inc 32 Obj.supplyEmergencies |> supplyTarget .emergency (t + 50)
      exec (.replayEmergency i) s = .next (after s (x
        |> updSupply (fun p => { p with holdoffUntil := l.now + l.rd Obj.supplyHoldoffMs * 1000000 * nsUnit })
        |> updStall i (fun st => { st with throttled := some 0 })))) ∧
    (s.rd Obj.supplyState = supMeasuring → s.dueAt (s.supply.openedAt + s.rd Obj.supplyPeriod * 1000000 * nsUnit) = some u →
      let w := u.worstStall
      let v := (List.range 32).foldl (fun s i => wr (Obj.winnowReplayRate i) (s.rateOf i) s) u
      exec .supplyWindowEnd s = .next (after s (supplyDecide w
        (v |> wr Obj.supplyWorstStall (w.getD 0xFF) |> wr Obj.supplyWorstRate ((w.map v.rateOf).getD 0))))) ∧
    (s.rd Obj.supplyState = supChanging → s.dueAt (s.supply.changedAt + 2000000 * nsUnit) = some u →
      exec .supplyConfirmTimeout s = .next (after s (u |> wr Obj.supplyState supSettling
        |> updSupply (fun p => { p with confirmedAt := u.now }) |> detect powerBlock Src.powerSupplyPmbus))) ∧
    (s.rd Obj.supplyState = supSettling → s.dueAt (s.supply.confirmedAt + s.rd Obj.supplySettleUs * 1000 * nsUnit) = some u →
      exec .supplySettled s = .next (after s (openWindow u))) ∧
    (∀ t, i < 32 → (s.stall i).throttled = some t → t ≠ 0 → s.dueAt (t + 1000000 * nsUnit) = some u →
      exec (.throttleEnd i) s = .next (after s (updStall i (fun st => { st with throttled := none }) u))) ∧
    (s.supply.holdoffUntil ≠ 0 → s.dueAt s.supply.holdoffUntil = some u →
      exec .holdoffEnd s = .next (after s (updSupply (fun p => { p with holdoffUntil := 0 }) u)))

/-- PMBus transactions and rails. A transaction at the front of the master's queue that is answered within three attempts takes
effect and is counted, as are its NACKs (R293, R464 to R466). A PGOOD level is followed; a fall of the core rail, or of one
that is on, is a fault; a level that does not rise in time ends the sequence of the domains that wait for it; an alert asks
every enabled slot for its status, at most once per 10 ms (R465, R466). -/
def Obligations.RailsComplete : Prop :=
  (∀ (r word : Nat) (a : PmbAnswer) (s : State) (q : PmbReq) (rest : List PmbReq), r < 4 → word < 65536 → s.powered →
      s.power.pmbus = q :: rest → q.slot = r → a.nacks < 3 →
      let u := s |> nextPmb |> inc 32 Obj.railTransactions |> addE 32 Obj.railNacks 0 a.nacks
      (q.kind = .opOn → exec (.operationOn r a) s = .next (after s (u |> wrE Obj.railOn r 1 |> emit (.pmbus 0x01 r 0x80)))) ∧
      (q.kind = .opOff → exec (.operationOff r a) s = .next (after s (u |> wrE Obj.railOn r 0 |> emit (.pmbus 0x01 r 0)))) ∧
      (q.kind = .emergency ∨ q.kind = .vout → exec (.voutCommand r a) s
        = .next (after s (u |> emit (.pmbus 0x21 r (u.voutWord r q.mv)) |> pushPmb ⟨.readVout, r, q.mv⟩))) ∧
      (q.kind = .readVout → u.voutMv r word < 65536 →
        let v := u |> wrE Obj.railReadMv r (u.voutMv r word) |> emit (.pmbus 0x8B r word)
        exec (.readVout r word a) s = .next (after s
          (if r = 0 ∧ u.voutMv r word ≤ v.rd Obj.supplyTargetMv + 10 ∧ v.rd Obj.supplyTargetMv ≤ u.voutMv r word + 10 ∧ v.voutWaits 0 = false
           then supplyConfirmed (u.voutMv r word) v else v))) ∧
      (q.kind = .statusWord → exec (.statusWord r word a) s
        = .next (after s (u |> wrE Obj.railStatus r word |> emit (.pmbus 0x79 r word)))) ∧
      exec .pmbusStretchTimeout s
        = .next (after s (s |> nextPmb |> inc 32 Obj.railTransactions |> detect powerBlock Src.powerPmbusTimeout))) ∧
  (∀ (r : Nat) (s u : State), r < 4 → s.powered →
      exec (.pgoodRise r) s = .next (after s (updPower (fun p => { p with pgood := setBit p.pgood r }) s)) ∧
      (let v := updPower (fun p => { p with pgood := clrBit p.pgood r }) s
       exec (.pgoodFall r) s = .next (after s (if r = 0 then detect powerBlock Src.powerPgoodLostCore v
         else if v.rdE Obj.railOn r = 1 ∨ v.rdE Obj.railRole r = 5 then detect powerBlock Src.powerPgoodLost v else v))) ∧
      (let waits := (List.range 54).filter (fun d => ((settle s).domain d).phase == 1 && ((settle s).domainRails d).contains r)
       let limit := (settle s).rd Obj.railPgoodTimeoutMs * 1000000 * nsUnit
       ∀ d, minBy (fun d => (((settle s).domain d).since : Int)) waits = some d → bit (settle s).power.pgood r = false →
        (settle s).dueAt (((settle s).domain d).since + limit) = some u →
        let late := waits.filter (fun d => decide ((u.domain d).since + u.rd Obj.railPgoodTimeoutMs * 1000000 * nsUnit ≤ u.now))
        exec (.pgoodTimeout r) s = .next (afterPower s
          (detect powerBlock Src.powerPgoodTimeout (late.foldl (fun s d => s |> block d 0 |> domainOff d |> dropRails d) u)))) ∧
      ((∀ t, s.power.alertAt = some t → t + 10000000 * nsUnit ≤ s.now) →
        exec .pmbAlert s = .next (after s (s.enabledSlots.foldl (fun s r => pushPmb ⟨.statusWord, r, 0⟩ s) s
          |> updPower (fun p => { p with alertAt := some s.now }) |> detect powerBlock Src.powerPmbAlert))))

/-! ### Troughs and barrow -/

/-- HEAD_WRITE within COUNT moves HEAD; beyond it, it is refused, counted and reported, and HEAD stays. POP takes the entry
at HEAD, or answers the idle item (R338, R346). -/
def Obligations.TroughReadsComplete : Prop :=
  ∀ (t : Nat) (s : State), t < 16384 → s.powered → s.isOn 1 = true →
    (∀ h, h < 2 ^ 32 → (h + 2 ^ 32 - s.rdE Obj.troughHead t) % 2 ^ 32 ≤ s.troughCount t →
      exec (.headWrite t h) s = .next (after s (answered Ab.ok 0 (wrE Obj.troughHead t h s)))) ∧
    (∀ h, h < 2 ^ 32 → s.troughCount t < (h + 2 ^ 32 - s.rdE Obj.troughHead t) % 2 ^ 32 →
      exec (.headWrite t h) s = .next (after s (answered Ab.valueRange 0
        (s |> incE 32 Obj.troughHeadRefused t |> detect troughBlock Src.troughHeadRefused)))) ∧
    (∀ n, 0 < n → n ≤ 64 → s.barsUp = true → s.troughN t ≠ 0 → inHostWindow (s.troughBase t) = false →
      let a := s.troughBase t + s.rdE Obj.troughHead t % 2 ^ s.troughN t * 64
      (s.troughCount t = 0 → ∀ check, exec (.pop t 0 n check) s = .next (after s
        (s |> updTrough t (fun tr => { tr with latch := List.replicate 64 0 }) |> emit (.completion false (List.replicate n 0))))) ∧
      (s.troughCount t ≠ 0 → s.poisoned a 64 = [] → s.presentAll a 64 = true →
        exec (.pop t 0 n .ok) s = .next (after s (s |> wrE Obj.troughHead t ((s.rdE Obj.troughHead t + 1) % 2 ^ 32)
          |> updTrough t (fun tr => { tr with latch := s.bytesAt a 64 }) |> emit (.completion false ((s.bytesAt a 64).take n))))))

/-- Where the trough's memory is there (a ring begins at a whole block, R347) and a shadow lies in good memory, TAIL_ADVANCE stores the oldest set's entries in the ring's slots from TAIL on and moves TAIL past them, HEAD staying as
it is (R336, R343). Its frame: outside those slots, and the eight bytes of the shadow where there is one, every byte of
memory stays. -/
def Obligations.TailAdvanceStores : Prop :=
  ∀ (t : Nat) (s : State) (es : List (List Byte)) (rest : List (List (List Byte))), t < 16384 → s.powered → s.quiet →
    (s.trough t).sets = es :: rest → (∀ e ∈ es, e.length = 64) →
    s.troughUsable t = true → s.troughBase t % 64 = 0 →
    let tail := s.rdE Obj.troughTail t
    let slot := fun i => s.troughBase t + (tail + i) % 2 ^ s.troughN t * 64
    let sh := s.rdE Obj.troughShadow t
    (∀ i, i < es.length → s.presentAll (slot i) 64 = true) → (sh = 0 ∨ s.presentAll sh 8 = true ∧ s.poisoned sh 8 = []) →
    ∃ u, exec (.tailAdvance t) s = .next u ∧
      u.rdE Obj.troughTail t = (tail + es.length) % 2 ^ 32 ∧ (u.trough t).sets = rest ∧
      u.rdE Obj.troughHead t = s.rdE Obj.troughHead t ∧
      (∀ a, (∀ i, i < es.length → a < s.phys (slot i) ∨ s.phys (slot i) + 64 ≤ a) →
        (sh = 0 ∨ a < s.phys sh ∨ s.phys sh + 8 ≤ a) → u.byteAt a = s.byteAt a) ∧
      (sh = 0 → es.length ≤ 2 ^ s.troughN t → s.troughBase t + 64 * 2 ^ s.troughN t ≤ 0x2000000000 →
        ∀ i j, i < es.length → j < 64 → u.byteAt (slot i + j) = (es.getD i []).getD j 0)

/-- The commands of a barrow channel, each in the states that take it: start from IDLE, pause from READY and RUNNING, resume
from PAUSED, stop of a RUNNING channel (at its descriptor's end) and of a PAUSED one (at once), and a pause that has drained
(R357 to R359). An idle engine takes the next READY channel in round-robin order; a descriptor whose source reads well moves
all its bytes and the chain goes on; a bad read ends the chain with its status; the trough unit's reset ends (R349, R356,
R360). -/
def Obligations.BarrowCompletes : Prop :=
  (∀ (c : Nat) (s : State), c < 256 → s.powered →
      (s.serving → s.chanState c = 0 →
        let u := s |> wrE Obj.chanCurrent c (s.rdE Obj.chanDesc c) |> wrE Obj.chanDone c 0 |> incE 32 Obj.chanChains c
        exec (.chanStart c) s = .next (after s (answered Ab.ok 0 (u
          |> updChan c (fun ch => { ch with desc := none, index := 0, chain := u.rdE Obj.chanChains c }) |> setChan c 1)))) ∧
      (s.serving → s.chanState c = 2 → exec (.chanPause c) s = .next (after s (answered Ab.ok 0 (setChan c 3 s)))) ∧
      (s.serving → s.chanState c = 1 → exec (.chanPause c) s = .next (after s (answered Ab.ok 0 (setChan c 4 s)))) ∧
      (s.serving → s.chanState c = 4 → exec (.chanResume c) s = .next (after s (answered Ab.ok 0 (setChan c 1 s)))) ∧
      (s.serving → s.chanState c = 2 → exec (.chanStop c) s = .next (after s (answered Ab.ok 0 (setChan c 5 s)))) ∧
      (∀ d, s.serving → s.chanState c = 4 → (s.chan c).desc = some d → exec (.chanStop c) s = .next (after s (answered Ab.ok 0
        (s |> complete c d (s.rdE Obj.chanDone c) 7 0 true |> endChain c)))) ∧
      (∀ d moved, s.chanState c = 3 → (s.chan c).desc = some d →
        let done := s.rdE Obj.chanDone c
        let m := max done (min moved (done + s.readablePart d done) / swapUnit d.swap * swapUnit d.swap)
        exec (.pauseDrained c moved) s = .next (after s (advanceMove c d m s |> setChan c 4 |> updEngine (c / 32) (fun e => { e with running := if e.running = some c then none else e.running }))))) ∧
  (∀ (e : Nat) (s : State), e < 8 → s.powered →
      (∀ i, (s.engine e).running = none →
        ((List.range 32).map (fun i => ((s.engine e).last + 1 + i) % 32)).find? (fun i => s.chanState (e * 32 + i) == 1) = some i →
        exec (.engineTurn e) s
          = .next (after s (takeDescriptor (e * 32 + i) (updEngine e (fun en => { en with last := i }) s)))) ∧
      (∀ c d, (s.engine e).running = some c → (s.chan c).desc = some d → s.chanState c = 2 →
        let done := s.rdE Obj.chanDone c
        d.len ≤ done + s.cleanPart d done → (inHostWindow d.dst = true → s.present d.dst = true) →
        exec (.descriptorEnd e .ok) s
          = .next (after s (s |> moveBytes d done d.len |> countMoved c (d.len - done) |> descriptorOk c d))) ∧
      (∀ c d moved, (s.engine e).running = some c → (s.chan c).desc = some d → s.chanState c = 2 → d.still = false →
        exec (.descriptorEnd e (.readUncorrectable moved)) s = .next (after s (advanceMove c d (s.moveLimit c d moved) s
          |> undefineBytes d (s.moveLimit c d moved) |> failChain c d (s.moveLimit c d moved) 5 false))) ∧
      exec .troughResetDone s = .next (after s { s with troughResetting := false }))

/-! ### Memory -/

/-- Training, zeroing and retraining of GDDR6, its scrubber and its write-backs, and the granary's sweep (R363, R364, R371,
R372, R384). -/
def Obligations.MemoryCompletes : Prop :=
  ∀ (s u : State), s.powered →
    (∀ h rate n, h < 2 → s.trains h = true → rate ∈ [0, 12, 14, 16] → n ∈ [8, 16] →
      let v := updMemctl (fun m => { m with trained := setAt m.trained h true, rates := setAt m.rates h rate, fitted := n }) s
        |> wr Obj.memDevices n |> wr Obj.familyGddr6Devices n
      exec (.gddr6TrainingDone h rate n) s
        = .next (after s (settleTraining (if rate = 0 then detect (halfBlock h) Src.memTrainingFail v else v)))) ∧
    (∀ h, h < 2 → s.memctl.trained.getD h false = true → s.memctl.zeroed.getD h false = false → s.memctl.rates.getD h 0 ≠ 0 →
      let mine := fun (a : Nat) => decide (a < 0x700000000) && channelOf a / 8 == h
      exec (.gddr6ZeroingDone h) s = .next (after s
        { s with mem := s.mem.filter (fun c => !mine c.1), poison := s.poison.filter (fun p => !mine (p * 64)),
                 memctl := { s.memctl with zeroed := setAt s.memctl.zeroed h true } })) ∧
    (∀ c ok, c < 16 → s.isOn (12 + c / 8) = true →
      s.dueAt (sget 0 s.memctl.retrainedAt c + 250000000 * nsUnit) = some u →
      let v := u |> inc 32 Obj.memRetrains |> updMemctl (fun m => { m with retrainedAt := sset 0 c u.now m.retrainedAt })
      exec (.memRetrain c ok false) s
        = .next (after s (if ok then v else detect (halfBlock (c / 8)) Src.memRetrainFail v))) ∧
    (s.gddrOn = true → s.dueAt (s.memctl.scrubbedAt + s.scrubGap) = some u → u.poison.contains (u.rd Obj.memScrubAddr / 64) = false →
      u.rd Obj.memScrubAddr + 64 < u.rd Obj.memProtectedTop →
      exec (.memScrubRead 0) s = .next (after s (u |> updMemctl (fun m => { m with scrubbedAt := u.now })
        |> wr Obj.memScrubAddr (u.rd Obj.memScrubAddr + 64)))) ∧
    (s.gddrOn = true →
      exec .scrubWriteback s = .next (after s (updMemctl (fun m => { m with wbQueue := m.wbQueue.drop 1 }) s))) ∧
    (∀ c, c < 16 → s.rd Obj.memCeLimit < ((sget [] s.memctl.ceTimes c).filter (fun t => decide (s.now < t + hourUnit))).length →
      exec (.ceLimitExceeded c) s = .next (after s (detect (halfBlock (c / 8)) Src.memChannelDegraded s))) ∧
    (∀ n, s.dueAt (s.memctl.sweptAt + 10 ^ 9 * nsUnit) = some u →
      let v := u |> updMemctl (fun m => { m with sweptAt := u.now }) |> addE 32 Obj.granaryCorrected 0 n
        |> addE 32 Obj.granaryUncorrectable 0 0
      exec (.granarySweep n []) s = .next (after s (if n = 0 then v else detect granaryBlock Src.granaryGranaryEcc v)))

/-! ### Host link -/

/-- The link's states: each command moves the link on from the state before it, and a loss takes it to DOWN (R386, R392, R396).
BAR2 reads and writes device memory where it is present, the seconds of device time latch its nanoseconds, and the two
counters of the status page clear as they are read (R389, R391). -/
def Obligations.HostLinkCompletes : Prop :=
  (∀ (s : State), s.powered →
      (∀ r, s.isOn 2 = true → s.link = 0 → 1 ≤ r → r ≤ 3 →
        exec (.usb4LinkUp r) s = .next (after s (s |> wr Obj.hostLinkState 1 |> wr Obj.hostLinkRate r))) ∧
      (s.link = 1 → exec .pcieTunnelUp s
        = .next (after s (s |> wr Obj.hostLinkState 2 |> wr Obj.hostMaxPayload 128 |> wr Obj.hostReadRequest 512))) ∧
      (s.link = 2 → exec .busMasterEnter s
        = .next (after s ({ s with host := { s.host with lost := false } } |> wr Obj.hostLinkState 3 |> inc 32 Obj.hostLinkEpoch))) ∧
      (s.link = 3 → exec (.busMasterExit false) s = .next (after s (wr Obj.hostLinkState 2 s))) ∧
      (s.link = 3 → exec (.busMasterExit true) s
        = .next (after s (s |> wr Obj.hostLinkState 2 |> detect hostBlock Src.hostLinkDown))) ∧
      (2 ≤ s.link → exec .pcieFunctionReset s
        = .next (after s (s |> wr Obj.hostLinkState 2 |> leaveMaster s.link |> linkLoss |> resetConfigSpace))) ∧
      (s.link ≠ 0 → exec .usb4LinkLoss s = .next (after s (s |> wr Obj.hostLinkState 0 |> wr Obj.hostLinkRate 0
        |> inc 32 Obj.hostLinkDowns |> leaveMaster s.link |> linkLoss)))) ∧
  (∀ (s : State), s.powered → s.barsUp = true →
      (∀ o n a data, 0 < n → s.bar2Present o = true → s.bar2Present (o + n - 1) = true → bar2Addr o = some a →
        exec (.bar2Access true o n data) s = .next (after s (memWrite a (padTo n data) s)) ∧
        (∀ b u, memRead a n s = (some b, u) → exec (.bar2Access false o n data) s = .next (after s (emit (.completion false b) u)))) ∧
      exec .timeSecondsLatch s = .next (after s ({ s with host := { s.host with nsLatch := s.nowNs % 1000000000 } }
        |> emit (.completion false (leBytes 8 (s.nowNs / 1000000000))))) ∧
      exec (.statusClearOnRead 0x40) s
        = .next (after s (s |> emit (.completion false (leBytes 4 (s.rd Obj.hostBadAccess))) |> wr Obj.hostBadAccess 0)) ∧
      exec (.statusClearOnRead 0x44) s
        = .next (after s (s |> emit (.completion false (leBytes 4 (s.rd Obj.hostBar2Absent))) |> wr Obj.hostBar2Absent 0)))

/-- The recovery port, while the boot ROM waits at it: each transfer is answered with its status and its tag; a header that
is not good is answered with status 1 (R398, R498). -/
def Obligations.RecoveryCompletes : Prop :=
  ∀ (s : State) (h : RecHdr), s.powered → s.romServes 2 = true →
    (h.good = true →
      exec (.recoveryIdentify h) s = .next (after s (emit (.recovery 1 0 h.tag s.identify) s)) ∧
      (∀ o b st u, s.otpLost = false → romLoad o 65536 b s = (st, u) →
        exec (.recoveryLoad h o b) s = .next (after s (emit (.recovery 2 st h.tag []) u))) ∧
      (∀ n st u, s.otpLost = false → romBoot n s = (st, u) →
        exec (.recoveryBoot h n) s = .next (after s (emit (.recovery 3 st h.tag []) u))) ∧
      exec (.recoveryStatus h) s = .next (after s (emit (.recovery 4 0 h.tag (leBytes 4 s.boot.recStatus)) s))) ∧
    (h.good = false →
      exec (.recoveryIdentify h) s = .next (after s (emit (.recovery 1 1 h.tag []) s)) ∧
      exec (.recoveryStatus h) s = .next (after s (emit (.recovery 4 1 h.tag []) s)))

/-! ### PTP and the time unit -/

/-- Received PTP messages, at a port whose link is up: each is counted and forwarded as the transparent clock forwards its
kind; from the master a one-step Sync is a sample, a two-step Sync waits for its Follow_Up, a Delay_Resp and a Pdelay_Resp
give delays; an Announce enters the best master clock algorithm; requests are answered; an event message whose stamp found no
room counts in PTP.STAMP_LOST and is neither used nor forwarded (R408 to R414). -/
def Obligations.PtpReceiveCompletes : Prop :=
  ∀ (h : PtpHdr) (s : State), s.powered →
    ((settle s).portUp h.port = true → h.stamped = true →
      let u := settle s |> frameIn h.port |> forward 0 true ((frameIn h.port (settle s)).syncExtra h.port) h
      u.fromMaster h = true → ∀ t1,
      exec (.syncRx h false t1) s = .next (afterPower s (takeSync h t1 h.correction u)) ∧
      exec (.syncRx h true t1) s = .next (afterPower s (updPtp (fun p => { p with pendingSync := some ⟨h, u.now⟩ }) u))) ∧
    ((settle s).portUp h.port = true →
      let u := settle s |> frameIn h.port |> forward 8 false 0 h
      ∀ q t1, u.ptp.pendingSync = some q → u.fromMaster h = true → q.h.seq = h.seq → q.h.port = h.port → q.h.clockId = h.clockId →
      q.h.portNumber = h.portNumber → u.now ≤ q.at' + u.syncInterval →
      exec (.followUpRx h t1) s = .next (afterPower s
        (u |> updPtp (fun p => { p with pendingSync := none }) |> takeSync q.h t1 (q.h.correction + h.correction)))) ∧
    ((settle s).portUp h.port = true →
      let u := settle s |> frameIn h.port |> forward 9 false 0 h
      ∀ (seq t3 t4 : Nat) (diff : Int), u.ptp.delayReqAt = some (seq, t3) → u.ptp.syncDiff = some diff → u.fromMaster h = true →
      u.p2p = false → seq = h.seq →
      let x := u.filtered (u.rdI 64 Obj.ptpMeanDelay 0) (diff + ((t4 : Int) * 65536 - (t3 : Int) - h.correction))
      exec (.delayRespRx h t4) s = .next (afterPower s
        (u |> wr Obj.ptpMeanDelay (ofSigned 64 x) |> updPtp (fun p => { p with delayReqAt := none })))) ∧
    (s.portUp h.port = true →
      let u := s |> frameIn h.port |> forward 0xB false 0 h
      let same := fun (f : Foreign) => f.port == h.port && f.clockId == h.clockId && f.portNumber == h.portNumber
      ∀ a, u.ownDomain h = true → a.stepsRemoved < 255 → u.fromMaster h = false →
      exec (.announceRx h a) s = .next (after s (selectBest (updPtp (fun p => { p with
        foreign := p.foreign.filter (fun f => !same f)
          ++ [⟨h.port, h.clockId, h.portNumber, a, u.now, (u.ptp.foreign.find? same).map (·.at')⟩] }) u)))) ∧
    (s.portUp h.port = true → h.stamped = true →
      let u := s |> frameIn h.port |> forward 1 true 0 h
      u.ownDomain h = true → u.p2p = false → u.rd Obj.ptpState = ptpMaster →
      exec (.delayReqRx h) s = .next (after s (sendPtp 9 h.port (u.rxTime h) (h.seq : Int) u))) ∧
    (s.portUp h.port = true → h.stamped = true →
      let u := frameIn h.port s
      u.p2p = true → u.ptpOn = true → h.domain = u.rd Obj.ptpDomain → ∀ stamp,
      exec (.pdelayReqRx h stamp) s = .next (after s (sendPtp 3 h.port (u.txTime h.port stamp - u.rxTime h) (h.seq : Int) u))) ∧
    (s.portUp h.port = true → h.stamped = true →
      let u := frameIn h.port s
      ∀ seq t1 : Nat, u.p2p = true → u.ptpOn = true → u.ptp.pdelayAt.getD h.port none = some (seq, t1) → seq = h.seq →
      let x := u.filtered (u.rdI 64 Obj.ptpLinkDelay h.port) (u.rxTime h - (t1 : Int) - h.correction)
      exec (.pdelayRespRx h) s = .next (after s (u |> wrE Obj.ptpLinkDelay h.port (ofSigned 64 x)
        |> updPtp (fun p => { p with pdelayAt := setAt p.pdelayAt h.port none })))) ∧
    (s.portUp h.port = true →
      exec (.managementRx h) s = .next (after s (s |> frameIn h.port |> forward 0xD false 0 h))) ∧
    (h.stamped = false →
      ((settle s).portUp h.port = true → ∀ two t1,
        exec (.syncRx h two t1) s = .next (afterPower s (stampLost (frameIn h.port (settle s))))) ∧
      (s.portUp h.port = true → ∀ stamp,
        let t := after s (stampLost (frameIn h.port s))
        exec (.delayReqRx h) s = .next t ∧ exec (.pdelayReqRx h stamp) s = .next t ∧ exec (.pdelayRespRx h) s = .next t))

/-- What the clock sends when it is due, as master on both ports, as slave upstream, and under P2P on each port; and its
timeouts: without Announce a lost master or, with none ever, the clock's own role; without Sync HOLDOVER; a two-step Sync
without its Follow_Up; the qualification timer (R408, R410, R413, R414, R416). -/
def Obligations.PtpTransmitCompletes : Prop :=
  (∀ (s u : State) (stamp : Nat) (req : Option Nat), s.powered → s.ptpOn = true →
      (s.rd Obj.ptpState = ptpMaster → s.ptpDue 0 s.syncInterval = some u →
        let send := fun (p : Nat) (s : State) => sendPtp 0 p (s.txTime p stamp / 65536) (s.txTime p stamp % 65536) s
        exec (.syncTx stamp) s = .next (after s (u |> send 0 |> send 1 |> noteTx 0))) ∧
      (s.rd Obj.ptpState = ptpMaster → s.ptpDue 0xB s.announceInterval = some u →
        let send := fun (p : Nat) (s : State) => sendPtp 0xB p (s.rd Obj.ptpPriority1 : Int) (s.rd Obj.ptpPriority2 : Int) s
        exec .announceTx s = .next (after s (u |> send 0 |> send 1 |> noteTx 0xB))) ∧
      (∀ m, s.ptp.master = some m → s.isSlave = true → s.p2p = false → s.ptpDue 1 s.delayInterval = some u →
        let v := sendPtp 1 m.port (u.ptp.seq : Int) 0 u
        exec (.delayReqTx req) s = .next (after s (v
          |> updPtp (fun p => { p with delayReqAt := sentAt p.seq m.port req u }) |> noteTx 1 |> leaveStamp req))) ∧
      (∀ p, p < 2 → s.p2p = true → s.ptpDue (16 + p) s.delayInterval = some u →
        let v := sendPtp 2 p (u.ptp.seq : Int) 0 u
        exec (.pdelayReqTx p req) s = .next (after s (v
          |> updPtp (fun q => { q with pdelayAt := setAt q.pdelayAt p (sentAt q.seq p req u) })
          |> noteTx (16 + p) |> leaveStamp req)))) ∧
  (∀ (s u : State), s.powered →
      (s.ptpOn = true → s.rd Obj.ptpState = ptpListening ∨ s.isSlave = true →
        s.dueAt (s.ptp.lastAnnounceAt + s.rd Obj.ptpAnnounceTimeout * s.announceInterval) = some u → u.ptp.master = none →
        let v := u |> dropMaster |> updPtp (fun p => { p with
          foreign := p.foreign.filter (fun f => decide (u.now < f.at' + u.rd Obj.ptpAnnounceTimeout * u.announceInterval)),
          lastAnnounceAt := u.now })
        v.bestForeign = none →
        exec .announceTimeout s
          = .next (after s (if v.rd Obj.ptpSlaveOnly = 1 then wr Obj.ptpState ptpListening v else takeRole ptpMaster v))) ∧
      (s.ptp.master.isSome = true → s.rd Obj.ptpServo ≠ 0 → s.dueAt (s.ptp.lastSyncAt + 3 * s.syncInterval) = some u →
        let v := holdover Src.timeMasterLost u
        exec .syncTimeout s = .next (after s (updPtp (fun p => { p with lastSyncAt := u.now }) v))) ∧
      (∀ q, s.ptp.pendingSync = some q → s.dueAt (q.at' + s.syncInterval) = some u →
        exec .followUpTimeout s = .next (after s (updPtp (fun p => { p with pendingSync := none }) u))) ∧
      (s.rd Obj.ptpState = ptpPreMaster → s.dueAt s.ptp.qualifyAt = some u →
        exec .qualificationTimeout s = .next (after s (wr Obj.ptpState ptpMaster u))))

/-- TIME.SET, the ends of pulses, TOUT, TCAP and the clock monitor (R402, R406, R418, R421, R423). -/
def Obligations.TimeUnitCompletes : Prop :=
  ∀ (s u : State) (i : Nat), s.powered →
    (∀ ns, ns < 2 ^ 64 → (settle s).serving → (settle s).stepBarred = none →
      exec (.timeSet ns) s = .next (afterPower s (answered Ab.ok 0 (stepTime (ns * nsUnit) (settle s))))) ∧
    (s.time.gsyncActive ≠ 0 → s.dueAt s.time.gsyncEnd = some u →
      exec .gsyncPulseEnd s = .next (after s (updTime (fun t => { t with gsyncActive := 0 }) u))) ∧
    (i < 8 → s.rd (Obj.toutMode i) ≠ 0 → (s.rd (Obj.toutMode i) = 1 → (s.tout i).next = 0) →
      s.dueAt (max (s.toutTarget i (s.tout i).next) (if (s.tout i).active then (s.tout i).endAt else 0)) = some u →
      exec (.toutPulse i) s = .next (after s (u |> updTout i (fun t => { t with
        active := true, endAt := u.now + u.rd (Obj.toutWidthNs i) * nsUnit, next := t.next + 1 }) |> inc 64 (Obj.toutEdges i)))) ∧
    (i < 8 → (s.tout i).active = true → s.dueAt (s.tout i).endAt = some u →
      exec (.toutPulseEnd i) s = .next (after s (updTout i (fun t => { t with active := false }) u))) ∧
    (∀ rising ns, i < 2 → 12 ≤ ns → (sget 0 s.time.tcapLast i = 0 ∨ sget 0 s.time.tcapLast i + 24 * nsUnit ≤ s.now + 1) →
      bit (field (s.rd Obj.tcapEdge) (2 * i + 1) (2 * i)) (if rising then 0 else 1) = true →
      let v := updTime (fun t => { t with tcapLast := sset 0 i (s.now + 1) t.tcapLast }) s
      let n := s.rdE Obj.tcapCaptures i
      exec (.tcapEdge i rising ns) s = .next (after s (v
        |> wrE Obj.tcapTime (i * 16 + n % 16) (s.nowNs % 2 ^ 63 + 2 ^ 63 * boolNat rising) |> incE 64 Obj.tcapCaptures i))) ∧
    exec (.clockLoss .tclk) s = .next (after s (detect timeBlock Src.timeTclkLoss s)) ∧
    exec (.clockLoss .cclk) s = .next (after s (detect cpBlock Src.cpCclkLoss s))

/-! ### Fieldnet -/

/-- A yard frame of each kind that comes from a partner, is well formed and is new, is accepted and used; a set is used once
its parts are complete (R433, R434, R436, R438, R440). -/
def Obligations.YardFramesComplete : Prop :=
  ∀ (s : State) (f : YardFrame) (powered : Bool), s.powered →
    let v := if powered then settle s else s
    let u := frameIn f.port v
    v.portUp f.port = true → u.frameBad f = false → f.src ≠ u.rd Obj.nodeNumber → u.partners.contains f.src = true →
    (u.peer f.src).repeated f.seq = false →
    let w := acceptFrame f u
    (powered = true → f.kind = 1 → exec (.heartbeat f) s = .next (afterPower s (takeBeat f w))) ∧
    (∀ ps x, collect f w = (some ps, x) →
      (powered = false → f.kind = 2 → exec (.halo f) s = .next (after s (takeHalo f ps x))) ∧
      (powered = true → f.kind = 3 → exec (.delivery f) s = .next (afterPower s (takeDelivery f ps x))) ∧
      (powered = false → f.kind = 4 → exec (.records f) s = .next (after s (takeRecords f ps x))) ∧
      (powered = false → f.kind = 5 → exec (.tracks f) s = .next (after s (takeTracks f ps x))) ∧
      (powered = true → f.kind = 6 → w.leadOf f.src ≠ [] → exec (.remap f) s = .next (afterPower s (takeRemap f ps x))))

/-- A partner that is lost fails its members (R437); a REMAP that has not come by its boundary ends the serving (R438). -/
def Obligations.PartnersComplete : Prop :=
  ∀ (s : State), s.powered →
    let v := settle s
    let k := v.openStep
    (∀ n, n < 4096 → v.partners.contains n = true → v.rdE Obj.netPeerState n ≠ 2 → v.rd Obj.netLostSteps ≤ k → v.boundary k ≤ v.now →
      (v.peer n).lastAt < v.boundary (k - v.rd Obj.netLostSteps) →
      let w := v |> wrE Obj.netPeerState n 2 |> inc 32 Obj.netLosses |> detect (portBlock 0) Src.portPeerLost
      exec (.peerLost n) s = .next (afterPower s (w.runningSlots.foldl (fun s j =>
        ((remoteMembers s.dict (s.jobYard j)).filter (fun m => m.1 == n)).foldl (fun s m => failRemote j m.1 m.2 (s.boundaryUs k) s) s) w))) ∧
    (let late := v.runningSlots.flatMap (fun j =>
      let y := v.jobYard j
      let lead := v.rd (Obj.yardLead y)
      if lead < 4096 && (v.yard y).serveEnd.isNone then
        ((v.announced lead y).filter (fun k => v.openStep < k && !v.net.remaps.any (fun r => r.1 == k && r.2.1 == lead))).map (fun k => (y, k))
      else [])
     ∀ y j u, minBy (fun x => (x.2 : Int)) late = some (y, j) → v.dueAt (v.boundary (j - 1)) = some u →
      exec .remapDeadline s = .next (afterPower s (detect (portBlock 0) Src.portRemapIncomplete
        (((late.filter (fun x => x.2 == j)).map (·.1)).foldl (fun s y => updYard y (fun yd => { yd with serveEnd := some j }) s) u))))

/-- The Ethernet ports: links, answers to ARP, echo and neighbour solicitations, unwanted frames and errors (R426, R427,
R432). -/
def Obligations.PortsComplete : Prop :=
  ∀ (p : Nat) (s : State), p < 2 → s.powered →
    (s.isOn 3 = true → s.rdE Obj.portMode p ≠ 0 → exec (.portLinkUp p) s = .next (after s (wrE Obj.portLink p 1 s))) ∧
    (s.portUp p = true →
      exec (.portLinkDown p) s = .next (after s (s |> wrE Obj.portLink p 0 |> detect (portBlock p) Src.portLinkDown)) ∧
      (let u := frameIn p s
       (∀ target, target ≠ 0 → target = u.rdE Obj.portIpv4 p →
        exec (.arpRequest p target) s = .next (after s (answer 1 p target (u.macBytes p) u))) ∧
       (∀ target source data, target ≠ 0 → target = u.rdE Obj.portIpv4 p → u.reaches p (mappedPrefix * 2 ^ 32 + source) = true →
        exec (.icmpEchoRequest p false target source data) s = .next (after s (answer 2 p source data u))) ∧
       (∀ target source data, u.ownV6 p target = true → u.reaches p source = true →
        exec (.icmpEchoRequest p true target source data) s = .next (after s (answer 3 p source data u))) ∧
       (∀ target, u.ownV6 p target = true →
        exec (.neighbourSolicitation p target) s = .next (after s (answer 4 p target (u.macBytes p) u)))) ∧
      exec (.unwantedFrame p .notForPort) s = .next (after s s) ∧
      (∀ why, why ≠ .notForPort → exec (.unwantedFrame p why) s = .next (after s (incE 32 Obj.portRxDropped p s))) ∧
      exec (.frameErrorRx p .noBuffer) s
        = .next (after s (s |> incE 32 Obj.portRxDropped p |> detect (portBlock p) Src.portRxOverflow)) ∧
      (∀ why, why ≠ .noBuffer → exec (.frameErrorRx p why) s
        = .next (after s (s |> incE 32 Obj.portRxErrors p |> detect (portBlock p) Src.portRxError))))

/-! ### Power -/

/-- The phases of a domain's sequence, each from the phase before: a rise ends ON with its count, a fall that has quiesced
opens its switches and ends RET or OFF, and a switch that fails blocks the domain (R447, R448). -/
def Obligations.DomainPhasesComplete : Prop :=
  ∀ (d : Nat) (s : State), 2 ≤ d → d < 54 → s.powered →
    let v := settle s
    let ph := (v.domain d).phase
    (v.domState d = 1 ∨ v.domState d = 5 → v.isOn 1 = true →
      (ph = 2 → exec (.domainPhaseReady d) s = .next (afterPower s (updDomain d (fun x => { x with phase := 3 }) v))) ∧
      (ph = 1 → v.supplyReady d = true →
        exec (.domainPhaseReady d) s = .next (afterPower s (updDomain d (fun x => { x with phase := 2 }) v))) ∧
      (ph = 4 → exec (.domainPhaseReady d) s = .next (afterPower s (domainUp d v)))) ∧
    (ph = 5 → exec (.quiesceDone d) s = .next (afterPower s (updDomain d (fun x => { x with phase := 6 }) v))) ∧
    (∀ u, ph = 5 → v.dueAt ((v.domain d).since + v.rd Obj.powerQuiesceUs * 1000 * nsUnit) = some u →
      exec (.quiesceTimeout d) s = .next (afterPower s
        (u |> updDomain d (fun x => { x with phase := 6 }) |> detect powerBlock Src.powerQuiesceTimeout))) ∧
    (ph = 6 → v.domState d = 3 → exec (.domainSwitchesOpen d) s
      = .next (afterPower s (v |> endTransition d 4 |> updPower (fun p => { p with saves := sput d true p.saves })))) ∧
    (ph = 6 → v.domState d ≠ 3 →
      exec (.domainSwitchesOpen d) s = .next (afterPower s (v |> endTransition d 0 |> domainOff d |> dropRails d))) ∧
    (ph = 1 → v.domState d = 1 →
      exec (.switchFail d) s = .next (afterPower s (v |> block d 0 |> dropRails d |> detect powerBlock Src.powerSwitchFail)))

/-- Wake and sleep (R457, R459), and the trim of PCLK (R530). -/
def Obligations.WakeAndSleepComplete : Prop :=
  ∀ (s : State) (n : Nat), s.powered → n < 4 →
    let v := settle s
    (∀ w, wakeSelects (v.rdE Obj.wakeMode n) w = some true → bit v.power.wakeAsserted n = false → v.power.sleep = 0 →
      exec (.wakeInput n w) s = .next (afterPower s
        (v |> updPower (fun p => { p with wakeAsserted := setBit p.wakeAsserted n }) |> wakeEvent n))) ∧
    (∀ w, wakeSelects (v.rdE Obj.wakeMode n) w = some false → v.power.blindUntil ≤ v.now → v.power.sleep = 0 →
      exec (.wakeInput n w) s = .next (afterPower s (v |> putBit Obj.wakeLatched n true |> wakeEvent n))) ∧
    exec (.wakeRelease n) s = .next (afterPower s (updPower (fun p => { p with wakeAsserted := clrBit p.wakeAsserted n }) v)) ∧
    (∀ mask, mask < 16 → v.serving → exec (.wakeClear mask) s
      = .next (afterPower s (answered Ab.ok 0 (wr Obj.wakeLatched (andNot (v.rd Obj.wakeLatched) mask) v)))) ∧
    (v.serving → v.scheduleActive = false → v.rdE Obj.wakeMode n ≠ 0 →
      exec .retainedSleep s = .next (afterPower s (answered Ab.ok 0 (updPower (fun p => { p with sleep := 1 }) v))) ∧
      exec .deepSleep s = .next (afterPower s (answered Ab.ok 0 (updPower (fun p => { p with sleep := 2 }) v)))) ∧
    exec .pclkTrim s = .next (after s (updPower (fun p => { p with trims := p.trims + 1 }) s))

/-- The two reset pins: power-on reset, its release, a RESET_N pulse of 1 µs or more, and its release (R452, R519, R523). -/
def Obligations.ResetPinsComplete : Prop :=
  ∀ (s : State) (sel : Nat),
    exec .powerOnReset s = .next (setPins s true s.boot.resetNLow (powerOnReset s)) ∧
    (∀ high, s.boot.powerReset = true →
      exec (.powerOnResetRelease high sel) s = .next (setPins s false (!high) (powerOnRelease high sel s))) ∧
    (∀ ns, 1000 ≤ ns → s.boot.resetNLow = false → s.boot.powerReset = false →
      exec (.resetNAssert ns) s = .next (setPins s false true (heldReset s))) ∧
    (s.boot.resetNLow = true → s.boot.powerReset = false →
      exec (.resetNRelease sel) s = .next (setPins s false false (startUp sel s)))

/-! ### Boot, faults and muck-out -/

/-- Boot, QSPI and the fuses (R454, R475, R500 to R504). -/
def Obligations.BootCompletes : Prop :=
  ∀ (s : State), s.powered →
    ((settle s).boot.phase = .verified → (settle s).isOn 1 = true →
      exec .firmwareStart s = .next (afterPower s (mbxHandOver (firmwareStart (settle s))))) ∧
    (s.serving → exec .bootReset s = .next (after s
      (chipReset 5 0xFF 0xFF 0xFF (answered Ab.ok 0 (updBoot (fun b => { b with resetAfterResponse := true }) s))))) ∧
    (s.serving → s.qspiBusy = false →
      exec .qspiErasePointer s = .next (after s (answered Ab.ok 0 (s |> qspiErase 0 0x10000 |> wr Obj.bootQspiState 2
        |> wr Obj.bootQspiStatus 0 |> updBoot (fun b => { b with op := some ⟨3, [], 0, [], []⟩ })))) ∧
      (∀ b u, s.imagePlace (s.rd Obj.bootImageAddr) (s.rd Obj.bootImageLen) = true → s.rd Obj.bootImageLen ≤ imageLimit →
        memRead (s.rd Obj.bootImageAddr) (s.rd Obj.bootImageLen) s = (some b, u) → u.otpLost = false →
        exec .qspiWriteImage s = .next (after s (answered Ab.ok 0
          (if u.imageStatus b = 0 then startQspi 1 b 0x10000 (s.rd Obj.bootImageLen) u else failQspi (u.imageStatus b) u)))) ∧
      (∀ p, s.pointer = some p → s.otpLost = false →
        let status := s.imageStatus (s.qspiAt p.image p.imageLen)
        exec .qspiWriteConfig s = .next (after s (answered Ab.ok 0
          (if status = 0 then startQspi 2 [] p.image p.imageLen s else failQspi status s)))) ∧
      (exec (.rollbackAdvance (s.rd Obj.secImageSecurity)) s = .next (after s (answered Ab.ok 0
        (s |> wr Obj.secRollback (max (s.rd Obj.secImageSecurity) (s.rd Obj.secRollback))
          |> wr Obj.secRootRevoked (s.rd Obj.secRootRevoked ||| fwRevoke s.boot.image)))))) ∧
    (∀ op, s.boot.op = some op → op.value ≠ 3 →
      let u := s |> updBoot (fun b => { b with op := none }) |> wr Obj.bootQspiState 4
      let v := if op.image.isEmpty then u else u |> qspiErase 0x10000 (sectorUp op.image.length) |> qspiProgram 0x10000 op.image
      exec (.qspiWriteDone false) s = .next (after s (v |> qspiErase op.at' (sectorUp op.block.length)
        |> qspiProgram op.at' op.block |> qspiProgram 0 op.pointer |> wr Obj.bootConfigSequence (leAt op.block 16 8)))) ∧
    (∀ op, s.boot.op = some op → exec (.qspiWriteDone true) s = .next (after s
      (s |> wr Obj.bootQspiState 5 |> wr Obj.bootQspiStatus 6 |> updBoot (fun b => { b with op := none })
        |> detect secBlock Src.secQspiWriteFail))) ∧
    (s.boot.phase = .running → exec .fwWatchdog s = .next (after s (detect cpBlock Src.cpFwWatchdog s)))

/-- FAULT.CLEAR clears the named bits that are not GRAVE, and lasting states are detected again; FAULT.FORCE makes sources
of the block lasting; FAULT.CLEAR_COUNTS clears the block's counts (R471, R476, R477). -/
def Obligations.FaultCommandsComplete : Prop :=
  ∀ (s : State) (b mask : Nat), s.powered → b < 93 → mask < 2 ^ 32 →
    let v := settle s
    (v.serving → v.rd (Obj.faultSticky b) &&& mask &&& faultGrave b = 0 →
      exec (.faultClear b mask) s = .next (afterPower s (answered Ab.ok 0
        ((bitsOf 32 (v.rd (Obj.faultSticky b) &&& mask)).foldl (fun s i => detectIf (s.forcedSource b i || s.lasting b i) b i s)
          (v |> wr (Obj.faultSticky b) (andNot (v.rd (Obj.faultSticky b)) mask)
            |> unkeepPins b (v.rd (Obj.faultSticky b) &&& mask)))))) ∧
    (v.serving → v.isOn (blockDomain b) = true →
      let new := mask &&& faultPresent b
      exec (.faultForce b mask) s = .next (afterPower s (answered Ab.ok 0
        ((bitsOf 32 (andNot new (v.rd (Obj.faultForce b)))).foldl (fun s i => detect b i s) (wr (Obj.faultForce b) new v))))) ∧
    (s.serving → exec (.faultClearCounts b) s = .next (after s (answered Ab.ok 0 (s |> wr (Obj.faultCount b) 0
      |> wr (Obj.faultFirstStep b) 0 |> wr (Obj.faultLastStep b) 0 |> wr (Obj.faultLastTime b) 0
      |> clearObj (Obj.faultSourceCount b) 32 |> wr (Obj.faultFirstSource b) 0xFF |> wr (Obj.faultLastSource b) 0xFF))))

/-- Muck-out: a pass starts, its slices start on an idle unit, are pre-empted by work or end with the expected signature,
and a pass can be requested, for release too (R485 to R491). -/
def Obligations.MuckCompletes : Prop :=
  ∀ (u : Nat) (s : State), u < 87 → s.powered →
    (s.muckAllowed u = true → s.marked u = false → (s.muckUnit u).active = false →
      ((s.muckUnit u).queued = true → exec (.muckPassStart u) s = .next (after s (beginPass u true false s))) ∧
      (∀ v, (s.muckUnit u).queued = false → (s.muckUnit u).everRan = true →
        s.dueAt ((s.muckUnit u).startedAt + s.rd Obj.muckPassPeriod * 10 ^ 9 * nsUnit) = some v →
        exec (.muckPassStart u) s = .next (after s (beginPass u false false v)))) ∧
    (let v := settle s
     v.muckAllowed u = true → (v.muckUnit u).active = true → (v.muckUnit u).running = false → v.muckRunning < 8 →
      v.unitIdle u = true → v.isOn (muckDomain u) = true → v.target (muckDomain u) = 2 → v.marked u = false →
      let w := updMuck u (fun m => { m with running := true, sliceAt := v.now }) v
      exec (.sliceStart u) s
        = .next (afterPower s { w with power := { w.power with muckVotes := w.power.muckVotes ++ [muckDomain u] } })) ∧
    (let v := settle s
     (v.muckUnit u).running = true → v.unitIdle u = false →
      exec (.slicePreempt u .work) s = .next (afterPower s
        (endSlice u v |> inc 64 Obj.muckPreemptions |> updMuck u (fun m => { m with preempted := m.preempted + 1 })))) ∧
    (let v := settle s
     ∀ w seen, (v.muckUnit u).running = true → (v.muckUnit u).retry = none →
      v.dueAt ((v.muckUnit u).sliceAt + muckSliceUs u * 1000 * nsUnit) = some w → seen < 2 ^ 32 →
      (seen = (Config.muckExpected (muckKind u) (w.nextSlice u)).toNat →
        exec (.sliceEnd u seen) s = .next (afterPower s (nextOfPass u (w.nextSlice u) (endSlice u w)))) ∧
      (seen ≠ (Config.muckExpected (muckKind u) (w.nextSlice u)).toNat →
        exec (.sliceEnd u seen) s = .next (afterPower s (sliceFailed u (w.nextSlice u)
          (Config.muckExpected (muckKind u) (w.nextSlice u)).toNat seen (endSlice u w))))) ∧
    (s.serving → muckKind u ≠ 7 →
      exec (.muckRequest u) s = .next (after s (answered Ab.ok 0 (updMuck u (fun m => { m with queued := true }) s)))) ∧
    (u < 32 → s.serving → s.isOn (stallDomain u) = true → s.marked u = true →
      exec (.muckRelease u) s = .next (after s (answered Ab.ok 0 (s |> wrE Obj.muckPosition u 0 |> beginPass u true true))))

/-! ### Rules of the manual -/

/-- R338: a write of h to HEAD is accepted only where (h − HEAD) mod 2³² ≤ COUNT; HEAD is then h. Any other write changes
nothing: HEAD, TAIL, the other objects and memory stay but for the boot record's log; HEAD_REFUSED of the trough is
incremented and the HEAD_REFUSED source set (here with no reset routed from it). Over the dictionary it is also refused with
VALUE_RANGE. -/
def Obligations.HeadWriteRule : Prop :=
  ∀ (t h : Nat) (s : State), t < 16384 → h < 2 ^ 32 → s.powered →
    (s.quiet → s.isOn 1 = true → s.rdE (Obj.faultReact troughBlock) Src.troughHeadRefused % 16 < 4 →
      ((h + 2 ^ 32 - s.rdE Obj.troughHead t) % 2 ^ 32 ≤ s.troughCount t →
        ∃ u, exec (.headWrite t h) s = .next u ∧ u.rdE Obj.troughHead t = h) ∧
      (s.troughCount t < (h + 2 ^ 32 - s.rdE Obj.troughHead t) % 2 ^ 32 →
        ∃ u, exec (.headWrite t h) s = .next u ∧
          u.rdE Obj.troughHeadRefused t = (s.rdE Obj.troughHeadRefused t + 1) % 2 ^ 32 ∧
          u.sticky troughBlock Src.troughHeadRefused = true ∧
          (∀ a, a < 0x1200033000 ∨ 0x1200034000 ≤ a → u.byteAt a = s.byteAt a) ∧
          (∀ addr e, e < 2 ^ 24 → addr ≠ Obj.troughHeadRefused → addr / 256 ≠ 0x7000 + troughBlock →
            dget u.dict addr e = dget s.dict addr e))) ∧
    ((settle s).serving → (settle s).rd Obj.mbxRequireSigned ≠ 1 →
      let r := writeHead t h (settle s)
      (exec (.registerWrite (.object Obj.troughHead t [h])) s = .next (afterPower s (answered r.1 0 r.2))) ∧
      (r.1 = Ab.valueRange ↔ (settle s).troughCount t < (h + 2 ^ 32 - (settle s).rdE Obj.troughHead t) % 2 ^ 32))

/-- R351: the swap modes. A mode of the table rearranges the bytes within each group of its unit, counted from the first byte
of the source, and writes each group to the same place in the destination; a length that is not a multiple of the unit and
the reserved modes are refused before a byte moves (status 2 and 4 of R356). -/
def Obligations.SwapModes : Prop :=
  (∀ (m : Nat) (b : List Byte), m ≤ 4 → b.length % swapUnit m = 0 →
    (swapBytes m b).length = b.length ∧ ∀ i, i < b.length → (swapBytes m b).getD i 0 = b.getD (swapSource m i) 0) ∧
  (∀ (d : Desc) (s : State) (b : List Byte) (v : State), d.swap ≤ 4 → d.len % swapUnit d.swap = 0 → (d.swap = 0 → d.src ≠ d.dst) →
    memRead d.src d.len s = (some b, v) → s.presentAll d.dst d.len = true →
    ∀ i, i < d.len → (moveBytes d 0 d.len s).byteAt (s.phys d.dst + i) = b.getD (swapSource d.swap i) 0) ∧
  (∀ (d : Desc) (s : State), (4 < d.swap → s.descCheck d = 4) ∧
    (d.len % swapUnit d.swap ≠ 0 → s.descCheck d ∈ [2, 3, 4]) ∧
    (d.swap = 0 → d.src = d.dst → ∀ lo hi, moveBytes d lo hi s = s))

/-- R85, R86: the time of an EV, VEC or MARKER word is TH × 64 + t_lo. A TIME_HIGH word v moves TH by the signed 28-bit
difference δ; TH follows v modulo 2²⁸, so that a wrap goes on without a break. The first since STOPPED sets TH to v, and
nothing is counted. Beyond GATE.JUMP_LIMIT TH restarts at v, TIME_JUMPS is incremented and the gate is not hitched; a step
back within the limit is counted in BACKWARD. The time of the word itself is TH × 64. -/
def Obligations.TimeHighMovesSpan : Prop :=
  (∀ (gt : Gate) (w : Word), gt.sensorTime w = gt.th * 64 + (tepLow w : Int)) ∧
  (∀ (g v : Nat) (s : State), g < 36 → v < 2 ^ 28 → (s.gate g).thSet = false →
    let t := takeSpan g v s
    (t.gate g).th = (v : Int) ∧ (t.gate g).span = true ∧ (t.gate g).thSet = true ∧ t.dict = s.dict) ∧
  (∀ (g : Nat) (s : State) (w : FifoWord) (rest : List FifoWord), g < 36 → s.powered → (s.gate g).fifo = w :: rest →
    tepType w.word = 8 →
    let v := takeSpan g (field w.word.toNat 27 0) (wordTaken g w rest s)
    exec (.timeHigh g) s = .next (after s (rebaseWord g ((v.gate g).th * 64) v).2)) ∧
  ∀ (g v : Nat) (s : State), g < 36 → v < 2 ^ 28 → (s.gate g).thSet = true →
    let th := (s.gate g).th
    let δ := spanDelta v th
    let t := takeSpan g v s
    (-(2 ^ 27) ≤ δ ∧ δ < 2 ^ 27 ∧ (th + δ - (v : Int)) % 2 ^ 28 = 0) ∧
    (δ.natAbs ≤ s.rd (Obj.gateJumpLimit g) → (t.gate g).th = th + δ ∧
      (δ < 0 → t.rdE (Obj.gateWordCounts g) 9 = (s.rdE (Obj.gateWordCounts g) 9 + 1) % 2 ^ 32) ∧
      (0 ≤ δ → t.dict = s.dict)) ∧
    (s.rd (Obj.gateJumpLimit g) < δ.natAbs → (t.gate g).th = (v : Int) ∧
      t.rdE (Obj.gateWordCounts g) 10 = (s.rdE (Obj.gateWordCounts g) 10 + 1) % 2 ^ 32 ∧ t.gateState g ≠ 3)

/-- R359: what a channel refuses, the state staying as it is. A START on a channel that is not IDLE and a write of CHAN.DESC
or CHAN.TROUGH while it is not IDLE: BLOCK_RUNNING. A PAUSE on a channel that is neither READY nor RUNNING and a RESUME on
one that is not PAUSED: VALUE_RANGE. Every command while a STOP is pending: BLOCK_RUNNING. -/
def Obligations.ChannelRefusals : Prop :=
  ∀ (c : Nat) (s : State), c < 256 → s.powered →
    (s.serving →
      (s.chanState c ≠ 0 → exec (.chanStart c) s = .next (after s (answered Ab.blockRunning Obj.chanCmd s))) ∧
      (s.chanState c ≠ 1 → s.chanState c ≠ 2 → s.chanState c ≠ 5 →
        exec (.chanPause c) s = .next (after s (answered Ab.valueRange 0 s))) ∧
      (s.chanState c ≠ 4 → s.chanState c ≠ 5 → exec (.chanResume c) s = .next (after s (answered Ab.valueRange 0 s))) ∧
      (s.chanState c = 5 →
        exec (.chanPause c) s = .next (after s (answered Ab.blockRunning Obj.chanCmd s)) ∧
        exec (.chanResume c) s = .next (after s (answered Ab.blockRunning Obj.chanCmd s)) ∧
        exec (.chanStop c) s = .next (after s (answered Ab.blockRunning Obj.chanCmd s)))) ∧
    ((settle s).serving → (settle s).rd Obj.mbxRequireSigned ≠ 1 → (settle s).chanState c ≠ 0 →
      (∀ a, a < 2 ^ 64 → exec (.registerWrite (.object Obj.chanDesc c [a])) s
        = .next (afterPower s (answered Ab.blockRunning Obj.chanDesc (settle s)))) ∧
      (∀ t, t < 16384 ∨ t = 0xFFFF → exec (.registerWrite (.object Obj.chanTrough c [t])) s
        = .next (afterPower s (answered Ab.blockRunning Obj.chanTrough (settle s)))))

/-- R471: a detection of source i of block b, where the block can detect it. It sets the sticky bit, increments FAULT.COUNT
and the source's element of FAULT.SOURCE_COUNT (which saturates), writes the last-detection fields, and the first-detection
fields where the sticky word was 0; the step is STEP.OPEN and the time device time in ns. Nothing else of the record changes.
Sources of one mask are taken in ascending order. -/
def Obligations.DetectionRecorded : Prop :=
  (∀ (b i : Nat) (s : State), b < 93 → i < 32 → s.canDetect b i = true →
    let t := detect b i s
    let z := s.rd (Obj.faultSticky b) = 0
    t.sticky b i = true ∧ (∀ j, j ≠ i → t.sticky b j = s.sticky b j) ∧
    t.rd (Obj.faultCount b) = (s.rd (Obj.faultCount b) + 1) % 2 ^ 32 ∧
    t.rdE (Obj.faultSourceCount b) i = satTo 16 (s.rdE (Obj.faultSourceCount b) i + 1) ∧
    (∀ j, j < 32 → j ≠ i → t.rdE (Obj.faultSourceCount b) j = s.rdE (Obj.faultSourceCount b) j) ∧
    t.rd (Obj.faultLastSource b) = i ∧ t.rd (Obj.faultLastStep b) = s.openStep ∧
    t.rd (Obj.faultLastTime b) = s.nowNs % 2 ^ 64 ∧
    (z → t.rd (Obj.faultFirstSource b) = i ∧ t.rd (Obj.faultFirstStep b) = s.openStep) ∧
    (¬z → t.rd (Obj.faultFirstSource b) = s.rd (Obj.faultFirstSource b) ∧
      t.rd (Obj.faultFirstStep b) = s.rd (Obj.faultFirstStep b)) ∧
    t.mem = s.mem) ∧
  ∀ m, (bitsOf 32 m).Pairwise (· < ·)

/-- R476: a FAULT.CLEAR that names a set GRAVE bit clears nothing and is refused; one that names none clears the named bits
but those whose condition lasts, and keeps every count where none lasts. -/
def Obligations.GraveBitsStay : Prop :=
  ∀ (s : State) (b mask : Nat), s.powered → b < 93 → mask < 2 ^ 32 → (settle s).serving →
    ((settle s).rd (Obj.faultSticky b) &&& mask &&& faultGrave b ≠ 0 →
      exec (.faultClear b mask) s = .next (afterPower s (answered Ab.valueRange 0 (settle s)))) ∧
    (let v := s |> wr (Obj.faultSticky b) (andNot (s.rd (Obj.faultSticky b)) mask) |> unkeepPins b (s.rd (Obj.faultSticky b) &&& mask)
     s.rd (Obj.faultSticky b) &&& mask &&& faultGrave b = 0 →
      (∀ i, i < 32 → v.forcedSource b i = false ∧ v.lasting b i = false) → faultClear b mask s = (Ab.ok, v))

/-- R50: a refused COMMIT applies nothing and leaves the bale as it was (only JOB.REJECT_DETAIL may take the reason, R182).
An accepted one empties the bale at once; its writes are committed and wait for the step that the response reports. The
halves of STEP.PERIOD are checked first, as at every use (R37): `v` is the state after that check. -/
def Obligations.CommitRule : Prop :=
  ∀ (who : Committer) (s : State) (q : Request) (b : List Byte),
    let v := checkPair 32 Obj.stepPeriod 0 s
    let r := commitBale who s
    (pairOk 32 (s.rdE Obj.stepPeriod 0) = true → v = s) ∧
    (∀ a, commitCheck who v = some a → r.1 = a ∧ (r.2.2.bale who.owner).staged = (s.bale who.owner).staged ∧
      r.2.2.sdp.waiting = s.sdp.waiting ∧ r.2.2.mem = s.mem ∧
      ∀ addr e, e < 2 ^ 24 → (∀ j, addr ≠ Obj.jobRejectDetail j) → dget r.2.2.dict addr e = dget v.dict addr e) ∧
    (commitCheck who v = none → r.1 = noAbort ∧ (r.2.2.bale who.owner).staged = [] ∧
      (opCommit q b who s).1.step = some r.2.1 ∧
      ∃ w : WaitingBale, r.2.2.sdp.waiting = s.sdp.waiting ++ [w] ∧ w.owner = who.owner ∧ w.step = r.2.1 ∧
        w.writes = (s.bale who.owner).staged)

/-- R37, R49: a PAIR value whose halves are not complements is refused with PAIR_MISMATCH, and nothing is staged. -/
def Obligations.PairsChecked : Prop :=
  ∀ (s : State) (addr e n : Nat) (o : ObjRow), s.powered → (settle s).serving →
    (settle s).rd Obj.mbxRequireSigned ≠ 1 → isDiag addr = false → findObj addr = .found o →
    o.ty.isPair = true → o.inRange e 1 = true → o.writable addr = true →
    pairOk o.ty.width (n % 2 ^ (8 * o.ty.size)) = false →
    exec (.registerWrite (.object addr e [n])) s = .next (afterPower s (answered Ab.pairMismatch 0 (settle s)))

/-- R391: a read through BAR2 of a place where nothing is present returns all ones and is counted, whatever it reaches; a
write there is discarded. -/
def Obligations.AbsentBar2 : Prop :=
  ∀ (s : State) (o n : Nat) (data : List Byte), s.powered → s.barsUp = true → 0 < n →
    s.bar2Present o = false ∨ s.bar2Present (o + n - 1) = false →
    let u := s |> inc 32 Obj.hostBar2Absent |> detect hostBlock Src.hostBarAbsent
    exec (.bar2Access false o n data) s = .next (after s (emit (.completion false (List.replicate n 0xFF)) u)) ∧
    exec (.bar2Access true o n data) s = .next (after s u)

/-- R43, R454: a RESET_N pulse of 1 µs or more sets every object to its default but for those that are kept, the reset cause,
and the mark that R482 sets in the records that keep a sticky bit; it keeps device time and takes every domain to OFF. -/
def Obligations.ChipResetDefaults : Prop :=
  ∀ (s : State) (ns : Nat), s.powered → s.boot.resetNLow = false → 1000 ≤ ns →
    ∃ t, exec (.resetNAssert ns) s = .next t ∧ t.now = s.now ∧ t.boot.phase = .held ∧ t.power.domains = [] ∧
      t.rd Obj.bootResetCause = 2 ∧
      (∀ addr e, e < 2 ^ 24 → keptAtReset addr = false → addr ≠ Obj.bootResetCause →
        (∀ b, b < 93 → addr ≠ Obj.faultFlags b) → dget t.dict addr e = objDefault addr e) ∧
      (∀ addr e, e < 2 ^ 24 → keptAtReset addr = true → dget t.dict addr e = dget s.dict addr e)

/-! ### Frames -/

/-- The frame of those commands: every object but those named keeps its value, every byte of memory stays, as do the poisoned
blocks, the steps, the bales and the sessions, the job slots, and the HOLD drivers. -/
def Obligations.ObjectsFrame : Prop :=
  ∀ (c : Instr) (objs : List Nat) (s t : State), mayChange c = some objs → s.quiet → exec c s = .next t →
    (∀ addr e, e < 2 ^ 24 → addr ∉ objs → dget t.dict addr e = dget s.dict addr e) ∧
    (∀ a, t.byteAt a = s.byteAt a) ∧ t.poison = s.poison ∧ t.steps = s.steps ∧ t.sdp = s.sdp ∧ t.slots = s.slots ∧
    t.hold = s.hold
end

