-- ==== Sys2Proof/Laws/Commands.lean ====
section
/-!
SUPPORT. What the wrappers of a command answer, so that no proof about one command unfolds them: `run` and `runPower` in a
device with power, in power-on reset, and for a unit that the CT32 lacks; the dictionary server; the frame of `outside`.
-/
namespace Sys2Proof.Machine

/-! ### Commands in a device with power -/

theorem run_powered (f : State → State) {s : State} (h : s.boot.powerReset = false) : run f s = .next (after s (f s)) := by
  simp [run, h, after]

theorem runPower_powered (f : State → State) {s : State} (h : s.boot.powerReset = false) :
    runPower f s = .next (afterPower s (f (settle s))) := by
  simp [runPower, run, h, afterPower, after]

theorem runIf_powered {c : Bool} (f : State → State) {s : State} (hc : c = true) (h : s.boot.powerReset = false) :
    runIf c f s = .next (after s (f s)) := by
  simp [runIf, hc, run_powered f h]

theorem runPowerIf_powered {c : Bool} (f : State → State) {s : State} (hc : c = true) (h : s.boot.powerReset = false) :
    runPowerIf c f s = .next (afterPower s (f (settle s))) := by
  simp [runPowerIf, hc, runPower_powered f h]

/-! ### Commands in power-on reset, and of units that the CT32 lacks -/

theorem run_unpowered (f : State → State) {s : State} (h : s.boot.powerReset = true) : run f s = .next s := by
  simp [run, h]

theorem runPower_unpowered (f : State → State) {s : State} (h : s.boot.powerReset = true) : runPower f s = .next s := by
  simp [runPower, run, h]

theorem runIf_unpowered (c : Bool) (f : State → State) {s : State} (h : s.boot.powerReset = true) :
    runIf c f s = .next s := by
  cases c <;> simp [runIf, run, h]

theorem runPowerIf_unpowered (c : Bool) (f : State → State) {s : State} (h : s.boot.powerReset = true) :
    runPowerIf c f s = .next s := by
  cases c <;> simp [runPowerIf, runPower, run, h]

theorem runIf_false (f : State → State) (s : State) : runIf false f s = .next s := rfl
theorem runPowerIf_false (f : State → State) (s : State) : runPowerIf false f s = .next s := rfl

/-! ### Every wrapped command completes -/

theorem run_next (f : State → State) (s : State) : ∃ t, run f s = .next t := by
  unfold run; split <;> exact ⟨_, rfl⟩

theorem runPower_next (f : State → State) (s : State) : ∃ t, runPower f s = .next t := run_next _ s

theorem runIf_next (c : Bool) (f : State → State) (s : State) : ∃ t, runIf c f s = .next t := by
  unfold runIf; split
  · exact run_next f s
  · exact ⟨_, rfl⟩

theorem runPowerIf_next (c : Bool) (f : State → State) (s : State) : ∃ t, runPowerIf c f s = .next t := by
  unfold runPowerIf; split
  · exact runPower_next f s
  · exact ⟨_, rfl⟩

/-! ### The frame of `outside`: the queue and the pins -/

@[simp] theorem setPins_pending (s : State) (p l : Bool) (t : State) : (setPins s p l t).pending = s.pending := rfl
@[simp] theorem setPins_powerReset (s : State) (p l : Bool) (t : State) : (setPins s p l t).boot.powerReset = p := rfl
@[simp] theorem setPins_resetNLow (s : State) (p l : Bool) (t : State) : (setPins s p l t).boot.resetNLow = l := rfl
theorem setPins_held (s : State) (p l : Bool) (t : State) (h : p = true ∨ l = true) : (setPins s p l t).boot.phase = .held := by
  rcases h with rfl | rfl <;> simp [setPins]

@[simp] theorem outside_pending (s t : State) : (outside s t).pending = s.pending := rfl
@[simp] theorem outside_powerReset (s t : State) : (outside s t).boot.powerReset = s.boot.powerReset := rfl
@[simp] theorem outside_resetNLow (s t : State) : (outside s t).boot.resetNLow = s.boot.resetNLow := rfl
theorem outside_held (s t : State) (h : s.boot.powerReset = true ∨ s.boot.resetNLow = true) :
    (outside s t).boot.phase = .held := setPins_held s _ _ t h

/-- What a wrapped command leaves of the queue and the pins. -/
theorem run_keeps {f : State → State} {s t : State} (h : run f s = .next t) :
    t.pending = s.pending ∧ t.boot.powerReset = s.boot.powerReset ∧ t.boot.resetNLow = s.boot.resetNLow := by
  unfold run at h
  split at h <;> cases h <;> simp

theorem runPower_keeps {f : State → State} {s t : State} (h : runPower f s = .next t) :
    t.pending = s.pending ∧ t.boot.powerReset = s.boot.powerReset ∧ t.boot.resetNLow = s.boot.resetNLow := run_keeps h

theorem runIf_keeps {c : Bool} {f : State → State} {s t : State} (h : runIf c f s = .next t) :
    t.pending = s.pending ∧ t.boot.powerReset = s.boot.powerReset ∧ t.boot.resetNLow = s.boot.resetNLow := by
  unfold runIf at h
  split at h
  · exact run_keeps h
  · cases h; simp

theorem runPowerIf_keeps {c : Bool} {f : State → State} {s t : State} (h : runPowerIf c f s = .next t) :
    t.pending = s.pending ∧ t.boot.powerReset = s.boot.powerReset ∧ t.boot.resetNLow = s.boot.resetNLow := by
  unfold runPowerIf at h
  split at h
  · exact runPower_keeps h
  · cases h; simp

/-! ### Quiet devices and the server -/

theorem react_quiet {s : State} (h : s.quiet) : react s = s := by simp [react, h]

theorem after_quiet {s t : State} (h : t.quiet) : after s t = outside s t := by simp [after, react_quiet h]

theorem serverDo_serving (f : State → Abort × State) {s : State} (h : s.serverUp = true) (hb : s.serverBusy = false) :
    serverDo f s = answered (f s).1.1 (f s).1.2 (f s).2 := by
  simp [serverDo, h, hb, answered]

theorem serverDo_down (f : State → Abort × State) {s : State} (h : s.serverUp = false) : serverDo f s = s := by
  simp [serverDo, h]

theorem serverDo_busy (f : State → Abort × State) {s : State} (h : s.serverUp = true) (hb : s.serverBusy = true) :
    serverDo f s = answered Ab.busy 0 s := by
  simp [serverDo, h, hb, answered, countRefusal, Ab.busy, Ab.staleSequence, Ab.notAuthorised, Ab.badSignature]

/-- An answer that is no refusal of authority and no stale sequence counts nothing. -/
theorem answered_plain {a : Nat} (d : Nat) (t : State) (h : a ≠ Ab.staleSequence) (h1 : a ≠ Ab.notAuthorised) (h2 : a ≠ Ab.badSignature) :
    answered a d t = emit (.abort a d) t := by
  simp [answered, countRefusal, h, h1, h2]

theorem abortAt_ok (addr : Nat) : abortAt Ab.ok addr = (Ab.ok, 0) := rfl

end Sys2Proof.Machine
end

