-- ==== Sys2Proof/Laws/Store.lean ====
section
/-!
SUPPORT. Laws of sparse data, of the dictionary's values and of bytes of memory: a read after a write to the same place gives
the value written, a write leaves every other place alone, and every write keeps the canonical form.
-/
namespace Sys2Proof.Machine
open Sys2Proof

/-! ### Reads after writes -/

theorem sfind_sput {α : Type} (k k' : Nat) (v : α) (m : Sparse α) :
    sfind (sput k v m) k' = if k = k' then some v else sfind m k' := by
  induction m with
  | nil => by_cases h : k = k' <;> simp [sput, sfind, h]
  | cons p t ih =>
    obtain ⟨q, w⟩ := p
    unfold sput
    split
    · simp [sfind]
    · split
      · rename_i h1 h2; subst h2; by_cases h : k = k' <;> simp [sfind, h]
      · rename_i h1 h2
        simp only [sfind, ih]
        by_cases h : q = k'
        · subst h; simp [h2]
        · simp [h]

theorem sfind_serase {α : Type} (k k' : Nat) (m : Sparse α) :
    sfind (serase k m) k' = if k = k' then none else sfind m k' := by
  induction m with
  | nil => by_cases h : k = k' <;> simp [serase, sfind]
  | cons p t ih =>
    obtain ⟨q, w⟩ := p
    simp only [serase] at ih
    by_cases hq : q = k
    · subst hq
      simp only [serase, List.filter, beq_self_eq_true, Bool.not_true, ih, sfind]
      by_cases h : q = k' <;> simp [h]
    · simp only [serase, List.filter, beq_eq_false_iff_ne.mpr hq, Bool.not_false, sfind, ih]
      by_cases h : q = k'
      · subst h; simp [Ne.symm hq]
      · simp [h]

theorem sget_sset {α : Type} [DecidableEq α] (d : α) (k k' : Nat) (v : α) (m : Sparse α) :
    sget d (sset d k v m) k' = if k = k' then v else sget d m k' := by
  unfold sset sget
  split
  · subst_vars; rw [sfind_serase]; by_cases h : k = k' <;> simp [h]
  · rw [sfind_sput]; by_cases h : k = k' <;> simp [h]

@[simp] theorem sget_sset_same {α : Type} [DecidableEq α] (d : α) (k : Nat) (v : α) (m : Sparse α) :
    sget d (sset d k v m) k = v := by simp [sget_sset]

theorem sget_sset_ne {α : Type} [DecidableEq α] (d : α) {k k' : Nat} (v : α) (m : Sparse α) (h : k ≠ k') :
    sget d (sset d k v m) k' = sget d m k' := by simp [sget_sset, h]

@[simp] theorem sget_supd_same {α : Type} [DecidableEq α] (d : α) (k : Nat) (f : α → α) (m : Sparse α) :
    sget d (supd d k f m) k = f (sget d m k) := by simp [supd]

theorem sget_supd_ne {α : Type} [DecidableEq α] (d : α) {k k' : Nat} (f : α → α) (m : Sparse α) (h : k ≠ k') :
    sget d (supd d k f m) k' = sget d m k' := by simp [supd, sget_sset, h]

/-- A key that a filter by key keeps, or drops. -/
theorem sfind_filter {α : Type} (p : Nat → Bool) (k : Nat) (m : Sparse α) :
    sfind (m.filter (fun x => p x.1)) k = if p k then sfind m k else none := by
  induction m with
  | nil => simp [sfind]
  | cons q t ih =>
    obtain ⟨a, w⟩ := q
    by_cases ha : p a = true
    · simp only [List.filter, ha, sfind, ih]
      by_cases h : a = k
      · subst h; simp [ha]
      · simp [h]
    · simp only [List.filter, Bool.not_eq_true _ ▸ ha, ih, sfind]
      by_cases h : a = k
      · subst h; simp [ha]
      · simp [h]

/-! ### The canonical form -/

/-- What the canonical form says, in terms of the list. -/
theorem canonical_iff {α : Type} [DecidableEq α] (d : Nat → α) (m : Sparse α) :
    canonical d m = true ↔ (m.map (·.1)).Pairwise (· < ·) ∧ ∀ p ∈ m, p.2 ≠ d p.1 := by
  induction m with
  | nil => simp [canonical]
  | cons p t ih =>
    obtain ⟨k, v⟩ := p
    cases t with
    | nil => simp [canonical]
    | cons q t =>
      obtain ⟨k', v'⟩ := q
      simp only [canonical, Bool.and_eq_true, decide_eq_true_eq, ih]
      rw [List.forall_mem_cons (a := (k, v)), List.map_cons, List.pairwise_cons]
      simp only [List.map_cons, List.forall_mem_cons]
      constructor
      · rintro ⟨⟨h1, h2⟩, h3, h4⟩
        rw [List.pairwise_cons]
        refine ⟨⟨?_, List.pairwise_cons.mpr h3⟩, h1, h4⟩
        intro a ha
        rcases List.mem_cons.mp ha with rfl | ha
        · exact h2
        · exact Nat.lt_trans h2 (h3.1 a ha)
      · rintro ⟨hp, h1, h4⟩
        rw [List.pairwise_cons] at hp
        exact ⟨⟨h1, hp.1 k' List.mem_cons_self⟩, List.pairwise_cons.mp hp.2, h4⟩

theorem canonical_filter {α : Type} [DecidableEq α] {d : Nat → α} {m : Sparse α} (p : Nat × α → Bool)
    (h : canonical d m = true) : canonical d (m.filter p) = true := by
  rw [canonical_iff] at h ⊢
  exact ⟨List.Pairwise.sublist (List.Sublist.map _ List.filter_sublist) h.1, fun q hq => h.2 q (List.mem_filter.mp hq).1⟩

theorem mem_sput {α : Type} {k : Nat} {v : α} {m : Sparse α} {p : Nat × α} (h : p ∈ sput k v m) : p = (k, v) ∨ p ∈ m := by
  induction m with
  | nil => simpa [sput] using h
  | cons q t ih =>
    obtain ⟨a, w⟩ := q
    unfold sput at h
    split at h
    · simpa using h
    · split at h
      · rcases List.mem_cons.mp h with h | h
        · exact .inl h
        · exact .inr (List.mem_cons_of_mem _ h)
      · rcases List.mem_cons.mp h with h | h
        · exact .inr (h ▸ List.mem_cons_self)
        · exact (ih h).imp_right (List.mem_cons_of_mem _)

theorem sput_pairwise {α : Type} (k : Nat) (v : α) {m : Sparse α} (h : (m.map (·.1)).Pairwise (· < ·)) :
    ((sput k v m).map (·.1)).Pairwise (· < ·) := by
  induction m with
  | nil => simp [sput]
  | cons q t ih =>
    obtain ⟨a, w⟩ := q
    rw [List.map_cons, List.pairwise_cons] at h
    unfold sput
    split
    · rename_i hk
      simp only [List.map_cons, List.pairwise_cons, List.mem_cons]
      refine ⟨?_, h⟩
      rintro b (rfl | hb)
      · exact hk
      · exact Nat.lt_trans hk (h.1 b hb)
    · split
      · subst_vars; simpa using h
      · rename_i h1 h2
        simp only [List.map_cons, List.pairwise_cons]
        refine ⟨?_, ih h.2⟩
        intro b hb
        obtain ⟨p, hp, rfl⟩ := List.mem_map.mp hb
        rcases mem_sput hp with rfl | hp
        · exact Nat.lt_of_le_of_ne (Nat.le_of_not_lt h1) (Ne.symm h2)
        · exact h.1 _ (List.mem_map.mpr ⟨p, hp, rfl⟩)

theorem canonical_sput {α : Type} [DecidableEq α] {d : Nat → α} {k : Nat} {v : α} {m : Sparse α} (hv : v ≠ d k)
    (h : canonical d m = true) : canonical d (sput k v m) = true := by
  rw [canonical_iff] at h ⊢
  refine ⟨sput_pairwise k v h.1, fun p hp => ?_⟩
  rcases mem_sput hp with rfl | hp
  · exact hv
  · exact h.2 p hp

/-- Writing one place keeps the canonical form. -/
theorem canonical_sset {α : Type} [DecidableEq α] (d : α) (k : Nat) (v : α) {m : Sparse α}
    (h : canonical (fun _ => d) m = true) : canonical (fun _ => d) (sset d k v m) = true := by
  unfold sset
  split
  · exact canonical_filter _ h
  · exact canonical_sput ‹_› h

/-! ### The dictionary -/

theorem dkey_inj {a a' e e' : Nat} (he : e < 2 ^ 24) (he' : e' < 2 ^ 24) : dkey a e = dkey a' e' ↔ a = a' ∧ e = e' := by
  unfold dkey; rw [Nat.shiftLeft_eq, Nat.shiftLeft_eq]; omega

theorem keyDefault_dkey (a : Nat) {e : Nat} (he : e < 2 ^ 24) : keyDefault (dkey a e) = objDefault a e := by
  have h1 : dkey a e / 2 ^ 24 = a := by unfold dkey; rw [Nat.shiftLeft_eq]; omega
  have h2 : dkey a e % 2 ^ 24 = e := by unfold dkey; rw [Nat.shiftLeft_eq]; omega
  rw [keyDefault, h1, h2]

/-- What an empty store reads as (R43). -/
theorem dget_nil (a : Nat) {e : Nat} (he : e < 2 ^ 24) : dget [] a e = objDefault a e := keyDefault_dkey a he

theorem dgetK_dsetK (d : Store) (k k' : Nat) (v : Val) : dgetK (dsetK d k v) k' = if k = k' then v else dgetK d k' := by
  unfold dgetK dsetK
  split
  · subst_vars; rw [sfind_serase]; by_cases h : k = k' <;> simp [h]
  · rw [sfind_sput]; by_cases h : k = k' <;> simp [h]

@[simp] theorem dget_dset_same (d : Store) (a e : Nat) (v : Val) : dget (dset d a e v) a e = v := by
  simp [dget, dset, dgetK_dsetK]

theorem dget_dset (d : Store) {a a' e e' : Nat} (v : Val) (he : e < 2 ^ 24) (he' : e' < 2 ^ 24) :
    dget (dset d a e v) a' e' = if a = a' ∧ e = e' then v else dget d a' e' := by
  simp only [dget, dset, dgetK_dsetK, dkey_inj he he']

theorem canonical_dset (d : Store) (a e : Nat) (v : Val) (h : canonical keyDefault d = true) :
    canonical keyDefault (dset d a e v) = true := by
  unfold dset dsetK
  split
  · exact canonical_filter _ h
  · exact canonical_sput ‹_› h

@[simp] theorem rdE_wrE_same (s : State) (a e n : Nat) : (wrE a e n s).rdE a e = n :=
  congrArg Val.toNat (dget_dset_same s.dict a e (.num n))

theorem rdE_wrE (s : State) {a a' e e' : Nat} (n : Nat) (he : e < 2 ^ 24) (he' : e' < 2 ^ 24) :
    (wrE a e n s).rdE a' e' = if a = a' ∧ e = e' then n else s.rdE a' e' := by
  unfold State.rdE wrE wrV cfgE
  rw [dget_dset _ _ he he']
  split <;> rfl

@[simp] theorem rd_wr_same (s : State) (a n : Nat) : (wr a n s).rd a = n := rdE_wrE_same s a 0 n

theorem rd_wr (s : State) (a a' n : Nat) : (wr a n s).rd a' = if a = a' then n else s.rd a' := by
  show (wrE a 0 n s).rdE a' 0 = if a = a' then n else s.rdE a' 0
  have h := rdE_wrE s (a := a) (a' := a') (e := 0) (e' := 0) n (Nat.two_pow_pos 24) (Nat.two_pow_pos 24)
  simpa only [and_true] using h

/-! ### Memory -/

theorem byteAt_putByte (s : State) (a a' : Nat) (b : Byte) : (putByte a b s).byteAt a' = if a = a' then b else s.byteAt a' := by
  simp [State.byteAt, putByte, sget_sset]

/-- A write of bytes: within it each byte holds what was written, outside it every byte is as before. -/
theorem byteAt_putBytes (bs : List Byte) : ∀ (s : State) (a a' : Nat),
    (putBytes a bs s).byteAt a' = if a ≤ a' ∧ a' < a + bs.length then bs.getD (a' - a) 0 else s.byteAt a' := by
  induction bs with
  | nil => intro s a a'; exact (if_neg (by rw [List.length_nil]; omega)).symm
  | cons b t ih =>
    intro s a a'
    simp only [putBytes, ih, byteAt_putByte, List.length_cons]
    by_cases h : a = a'
    · subst h
      rw [if_neg (by omega), if_pos rfl, if_pos (by omega), Nat.sub_self, List.getD_cons_zero]
    · by_cases h2 : a + 1 ≤ a' ∧ a' < a + 1 + t.length
      · obtain ⟨n, hn⟩ : ∃ n, a' - a = n + 1 := ⟨a' - a - 1, by omega⟩
        rw [if_pos h2, if_pos (by omega), hn, List.getD_cons_succ, show a' - (a + 1) = n by omega]
      · rw [if_neg h2, if_neg h, if_neg (by omega)]

/-- What bytes a write leaves depends on the bytes before it alone. -/
theorem putBytes_mem_congr (bs : List Byte) : ∀ (a : Nat) {s t : State}, s.mem = t.mem → (putBytes a bs s).mem = (putBytes a bs t).mem := by
  induction bs with
  | nil => intro a s t h; exact h
  | cons b l ih => intro a s t h; exact ih (a + 1) (by simp only [putByte, h])

theorem putByte_wf (a : Nat) (b : Byte) {s : State} (h : Memory.wf s.mem = true) : Memory.wf (putByte a b s).mem = true :=
  canonical_sset _ a b h

theorem putBytes_wf (bs : List Byte) : ∀ (a : Nat) {s : State}, Memory.wf s.mem = true → Memory.wf (putBytes a bs s).mem = true := by
  induction bs with
  | nil => intro a s h; exact h
  | cons b t ih => intro a s h; exact ih _ (putByte_wf a b h)

theorem memory_filter_wf (p : Host.Cell → Bool) {m : List Host.Cell} (h : Memory.wf m = true) : Memory.wf (m.filter p) = true :=
  canonical_filter p h

theorem reset_memory_wf : Memory.wf State.reset.mem = true := by decide

end Sys2Proof.Machine
end

