-- ==== Sys2Proof/Laws/State.lean ====
section
/-!
SUPPORT. Each update of the state beside each field: what it writes, and that it leaves every other field alone. The updates
of the dictionary are brought to `wrV`, whose laws are in Sys2Proof/Laws/Store.lean.
-/
namespace Sys2Proof.Machine
open Sys2Proof

/-! ### Every write of the dictionary is a `wrV` -/

theorem wrE_eq (addr e n : Nat) (s : State) : wrE addr e n s = wrV addr e (.num n) s := rfl
theorem wr_eq (addr n : Nat) (s : State) : wr addr n s = wrV addr 0 (.num n) s := rfl
theorem wrB_eq (addr : Nat) (b : List Byte) (s : State) : wrB addr b s = wrV addr 0 (.bytes b) s := rfl
theorem addE_eq (w addr e n : Nat) (s : State) : addE w addr e n s = wrV addr e (.num ((s.rdE addr e + n) % 2 ^ w)) s := rfl
theorem inc_eq (w addr : Nat) (s : State) : inc w addr s = wrV addr 0 (.num ((s.rdE addr 0 + 1) % 2 ^ w)) s := rfl
theorem incE_eq (w addr e : Nat) (s : State) : incE w addr e s = wrV addr e (.num ((s.rdE addr e + 1) % 2 ^ w)) s := rfl
theorem satE_eq (w addr e n : Nat) (s : State) : satE w addr e n s = wrV addr e (.num (satTo w (s.rdE addr e + n))) s := rfl


/-! ### `wrV` -/

@[simp] theorem wrV_now (addr e : Nat) (v : Val) (s : State) : (wrV addr e v s).now = s.now := rfl
@[simp] theorem wrV_pairs (addr e : Nat) (v : Val) (s : State) : (wrV addr e v s).pairs = s.pairs := rfl
@[simp] theorem wrV_mem (addr e : Nat) (v : Val) (s : State) : (wrV addr e v s).mem = s.mem := rfl
@[simp] theorem wrV_poison (addr e : Nat) (v : Val) (s : State) : (wrV addr e v s).poison = s.poison := rfl
@[simp] theorem wrV_keptPins (addr e : Nat) (v : Val) (s : State) : (wrV addr e v s).keptPins = s.keptPins := rfl
@[simp] theorem wrV_draws (addr e : Nat) (v : Val) (s : State) : (wrV addr e v s).draws = s.draws := rfl
@[simp] theorem wrV_out (addr e : Nat) (v : Val) (s : State) : (wrV addr e v s).out = s.out := rfl
@[simp] theorem wrV_reacts (addr e : Nat) (v : Val) (s : State) : (wrV addr e v s).reacts = s.reacts := rfl
@[simp] theorem wrV_steps (addr e : Nat) (v : Val) (s : State) : (wrV addr e v s).steps = s.steps := rfl
@[simp] theorem wrV_sdp (addr e : Nat) (v : Val) (s : State) : (wrV addr e v s).sdp = s.sdp := rfl
@[simp] theorem wrV_mbx (addr e : Nat) (v : Val) (s : State) : (wrV addr e v s).mbx = s.mbx := rfl
@[simp] theorem wrV_gates (addr e : Nat) (v : Val) (s : State) : (wrV addr e v s).gates = s.gates := rfl
@[simp] theorem wrV_i2c (addr e : Nat) (v : Val) (s : State) : (wrV addr e v s).i2c = s.i2c := rfl
@[simp] theorem wrV_groom (addr e : Nat) (v : Val) (s : State) : (wrV addr e v s).groom = s.groom := rfl
@[simp] theorem wrV_chains (addr e : Nat) (v : Val) (s : State) : (wrV addr e v s).chains = s.chains := rfl
@[simp] theorem wrV_sieveAt (addr e : Nat) (v : Val) (s : State) : (wrV addr e v s).sieveAt = s.sieveAt := rfl
@[simp] theorem wrV_slots (addr e : Nat) (v : Val) (s : State) : (wrV addr e v s).slots = s.slots := rfl
@[simp] theorem wrV_yards (addr e : Nat) (v : Val) (s : State) : (wrV addr e v s).yards = s.yards := rfl
@[simp] theorem wrV_stalls (addr e : Nat) (v : Val) (s : State) : (wrV addr e v s).stalls = s.stalls := rfl
@[simp] theorem wrV_halos (addr e : Nat) (v : Val) (s : State) : (wrV addr e v s).halos = s.halos := rfl
@[simp] theorem wrV_lists (addr e : Nat) (v : Val) (s : State) : (wrV addr e v s).lists = s.lists := rfl
@[simp] theorem wrV_paddock (addr e : Nat) (v : Val) (s : State) : (wrV addr e v s).paddock = s.paddock := rfl
@[simp] theorem wrV_hold (addr e : Nat) (v : Val) (s : State) : (wrV addr e v s).hold = s.hold := rfl
@[simp] theorem wrV_troughs (addr e : Nat) (v : Val) (s : State) : (wrV addr e v s).troughs = s.troughs := rfl
@[simp] theorem wrV_troughResetting (addr e : Nat) (v : Val) (s : State) : (wrV addr e v s).troughResetting = s.troughResetting := rfl
@[simp] theorem wrV_chans (addr e : Nat) (v : Val) (s : State) : (wrV addr e v s).chans = s.chans := rfl
@[simp] theorem wrV_engines (addr e : Nat) (v : Val) (s : State) : (wrV addr e v s).engines = s.engines := rfl
@[simp] theorem wrV_memctl (addr e : Nat) (v : Val) (s : State) : (wrV addr e v s).memctl = s.memctl := rfl
@[simp] theorem wrV_host (addr e : Nat) (v : Val) (s : State) : (wrV addr e v s).host = s.host := rfl
@[simp] theorem wrV_time (addr e : Nat) (v : Val) (s : State) : (wrV addr e v s).time = s.time := rfl
@[simp] theorem wrV_ptp (addr e : Nat) (v : Val) (s : State) : (wrV addr e v s).ptp = s.ptp := rfl
@[simp] theorem wrV_net (addr e : Nat) (v : Val) (s : State) : (wrV addr e v s).net = s.net := rfl
@[simp] theorem wrV_power (addr e : Nat) (v : Val) (s : State) : (wrV addr e v s).power = s.power := rfl
@[simp] theorem wrV_supply (addr e : Nat) (v : Val) (s : State) : (wrV addr e v s).supply = s.supply := rfl
@[simp] theorem wrV_boot (addr e : Nat) (v : Val) (s : State) : (wrV addr e v s).boot = s.boot := rfl
@[simp] theorem wrV_muck (addr e : Nat) (v : Val) (s : State) : (wrV addr e v s).muck = s.muck := rfl
@[simp] theorem wrV_pending (addr e : Nat) (v : Val) (s : State) : (wrV addr e v s).pending = s.pending := rfl
@[simp] theorem wrV_dict (addr e : Nat) (v : Val) (s : State) : (wrV addr e v s).dict = dset s.dict addr e v := rfl

/-! ### `clearObj` -/

@[simp] theorem clearObj_now (addr n : Nat) (s : State) : (clearObj addr n s).now = s.now := rfl
@[simp] theorem clearObj_pairs (addr n : Nat) (s : State) : (clearObj addr n s).pairs = s.pairs := rfl
@[simp] theorem clearObj_mem (addr n : Nat) (s : State) : (clearObj addr n s).mem = s.mem := rfl
@[simp] theorem clearObj_poison (addr n : Nat) (s : State) : (clearObj addr n s).poison = s.poison := rfl
@[simp] theorem clearObj_keptPins (addr n : Nat) (s : State) : (clearObj addr n s).keptPins = s.keptPins := rfl
@[simp] theorem clearObj_draws (addr n : Nat) (s : State) : (clearObj addr n s).draws = s.draws := rfl
@[simp] theorem clearObj_out (addr n : Nat) (s : State) : (clearObj addr n s).out = s.out := rfl
@[simp] theorem clearObj_reacts (addr n : Nat) (s : State) : (clearObj addr n s).reacts = s.reacts := rfl
@[simp] theorem clearObj_steps (addr n : Nat) (s : State) : (clearObj addr n s).steps = s.steps := rfl
@[simp] theorem clearObj_sdp (addr n : Nat) (s : State) : (clearObj addr n s).sdp = s.sdp := rfl
@[simp] theorem clearObj_mbx (addr n : Nat) (s : State) : (clearObj addr n s).mbx = s.mbx := rfl
@[simp] theorem clearObj_gates (addr n : Nat) (s : State) : (clearObj addr n s).gates = s.gates := rfl
@[simp] theorem clearObj_i2c (addr n : Nat) (s : State) : (clearObj addr n s).i2c = s.i2c := rfl
@[simp] theorem clearObj_groom (addr n : Nat) (s : State) : (clearObj addr n s).groom = s.groom := rfl
@[simp] theorem clearObj_chains (addr n : Nat) (s : State) : (clearObj addr n s).chains = s.chains := rfl
@[simp] theorem clearObj_sieveAt (addr n : Nat) (s : State) : (clearObj addr n s).sieveAt = s.sieveAt := rfl
@[simp] theorem clearObj_slots (addr n : Nat) (s : State) : (clearObj addr n s).slots = s.slots := rfl
@[simp] theorem clearObj_yards (addr n : Nat) (s : State) : (clearObj addr n s).yards = s.yards := rfl
@[simp] theorem clearObj_stalls (addr n : Nat) (s : State) : (clearObj addr n s).stalls = s.stalls := rfl
@[simp] theorem clearObj_halos (addr n : Nat) (s : State) : (clearObj addr n s).halos = s.halos := rfl
@[simp] theorem clearObj_lists (addr n : Nat) (s : State) : (clearObj addr n s).lists = s.lists := rfl
@[simp] theorem clearObj_paddock (addr n : Nat) (s : State) : (clearObj addr n s).paddock = s.paddock := rfl
@[simp] theorem clearObj_hold (addr n : Nat) (s : State) : (clearObj addr n s).hold = s.hold := rfl
@[simp] theorem clearObj_troughs (addr n : Nat) (s : State) : (clearObj addr n s).troughs = s.troughs := rfl
@[simp] theorem clearObj_troughResetting (addr n : Nat) (s : State) : (clearObj addr n s).troughResetting = s.troughResetting := rfl
@[simp] theorem clearObj_chans (addr n : Nat) (s : State) : (clearObj addr n s).chans = s.chans := rfl
@[simp] theorem clearObj_engines (addr n : Nat) (s : State) : (clearObj addr n s).engines = s.engines := rfl
@[simp] theorem clearObj_memctl (addr n : Nat) (s : State) : (clearObj addr n s).memctl = s.memctl := rfl
@[simp] theorem clearObj_host (addr n : Nat) (s : State) : (clearObj addr n s).host = s.host := rfl
@[simp] theorem clearObj_time (addr n : Nat) (s : State) : (clearObj addr n s).time = s.time := rfl
@[simp] theorem clearObj_ptp (addr n : Nat) (s : State) : (clearObj addr n s).ptp = s.ptp := rfl
@[simp] theorem clearObj_net (addr n : Nat) (s : State) : (clearObj addr n s).net = s.net := rfl
@[simp] theorem clearObj_power (addr n : Nat) (s : State) : (clearObj addr n s).power = s.power := rfl
@[simp] theorem clearObj_supply (addr n : Nat) (s : State) : (clearObj addr n s).supply = s.supply := rfl
@[simp] theorem clearObj_boot (addr n : Nat) (s : State) : (clearObj addr n s).boot = s.boot := rfl
@[simp] theorem clearObj_muck (addr n : Nat) (s : State) : (clearObj addr n s).muck = s.muck := rfl
@[simp] theorem clearObj_pending (addr n : Nat) (s : State) : (clearObj addr n s).pending = s.pending := rfl

/-! ### `putByte` -/

@[simp] theorem putByte_now (a : Nat) (b : Byte) (s : State) : (putByte a b s).now = s.now := rfl
@[simp] theorem putByte_dict (a : Nat) (b : Byte) (s : State) : (putByte a b s).dict = s.dict := rfl
@[simp] theorem putByte_pairs (a : Nat) (b : Byte) (s : State) : (putByte a b s).pairs = s.pairs := rfl
@[simp] theorem putByte_poison (a : Nat) (b : Byte) (s : State) : (putByte a b s).poison = s.poison := rfl
@[simp] theorem putByte_keptPins (a : Nat) (b : Byte) (s : State) : (putByte a b s).keptPins = s.keptPins := rfl
@[simp] theorem putByte_draws (a : Nat) (b : Byte) (s : State) : (putByte a b s).draws = s.draws := rfl
@[simp] theorem putByte_out (a : Nat) (b : Byte) (s : State) : (putByte a b s).out = s.out := rfl
@[simp] theorem putByte_reacts (a : Nat) (b : Byte) (s : State) : (putByte a b s).reacts = s.reacts := rfl
@[simp] theorem putByte_steps (a : Nat) (b : Byte) (s : State) : (putByte a b s).steps = s.steps := rfl
@[simp] theorem putByte_sdp (a : Nat) (b : Byte) (s : State) : (putByte a b s).sdp = s.sdp := rfl
@[simp] theorem putByte_mbx (a : Nat) (b : Byte) (s : State) : (putByte a b s).mbx = s.mbx := rfl
@[simp] theorem putByte_gates (a : Nat) (b : Byte) (s : State) : (putByte a b s).gates = s.gates := rfl
@[simp] theorem putByte_i2c (a : Nat) (b : Byte) (s : State) : (putByte a b s).i2c = s.i2c := rfl
@[simp] theorem putByte_groom (a : Nat) (b : Byte) (s : State) : (putByte a b s).groom = s.groom := rfl
@[simp] theorem putByte_chains (a : Nat) (b : Byte) (s : State) : (putByte a b s).chains = s.chains := rfl
@[simp] theorem putByte_sieveAt (a : Nat) (b : Byte) (s : State) : (putByte a b s).sieveAt = s.sieveAt := rfl
@[simp] theorem putByte_slots (a : Nat) (b : Byte) (s : State) : (putByte a b s).slots = s.slots := rfl
@[simp] theorem putByte_yards (a : Nat) (b : Byte) (s : State) : (putByte a b s).yards = s.yards := rfl
@[simp] theorem putByte_stalls (a : Nat) (b : Byte) (s : State) : (putByte a b s).stalls = s.stalls := rfl
@[simp] theorem putByte_halos (a : Nat) (b : Byte) (s : State) : (putByte a b s).halos = s.halos := rfl
@[simp] theorem putByte_lists (a : Nat) (b : Byte) (s : State) : (putByte a b s).lists = s.lists := rfl
@[simp] theorem putByte_paddock (a : Nat) (b : Byte) (s : State) : (putByte a b s).paddock = s.paddock := rfl
@[simp] theorem putByte_hold (a : Nat) (b : Byte) (s : State) : (putByte a b s).hold = s.hold := rfl
@[simp] theorem putByte_troughs (a : Nat) (b : Byte) (s : State) : (putByte a b s).troughs = s.troughs := rfl
@[simp] theorem putByte_troughResetting (a : Nat) (b : Byte) (s : State) : (putByte a b s).troughResetting = s.troughResetting := rfl
@[simp] theorem putByte_chans (a : Nat) (b : Byte) (s : State) : (putByte a b s).chans = s.chans := rfl
@[simp] theorem putByte_engines (a : Nat) (b : Byte) (s : State) : (putByte a b s).engines = s.engines := rfl
@[simp] theorem putByte_memctl (a : Nat) (b : Byte) (s : State) : (putByte a b s).memctl = s.memctl := rfl
@[simp] theorem putByte_host (a : Nat) (b : Byte) (s : State) : (putByte a b s).host = s.host := rfl
@[simp] theorem putByte_time (a : Nat) (b : Byte) (s : State) : (putByte a b s).time = s.time := rfl
@[simp] theorem putByte_ptp (a : Nat) (b : Byte) (s : State) : (putByte a b s).ptp = s.ptp := rfl
@[simp] theorem putByte_net (a : Nat) (b : Byte) (s : State) : (putByte a b s).net = s.net := rfl
@[simp] theorem putByte_power (a : Nat) (b : Byte) (s : State) : (putByte a b s).power = s.power := rfl
@[simp] theorem putByte_supply (a : Nat) (b : Byte) (s : State) : (putByte a b s).supply = s.supply := rfl
@[simp] theorem putByte_boot (a : Nat) (b : Byte) (s : State) : (putByte a b s).boot = s.boot := rfl
@[simp] theorem putByte_muck (a : Nat) (b : Byte) (s : State) : (putByte a b s).muck = s.muck := rfl
@[simp] theorem putByte_pending (a : Nat) (b : Byte) (s : State) : (putByte a b s).pending = s.pending := rfl

/-! ### `emit` -/

@[simp] theorem emit_now (o : Out) (s : State) : (emit o s).now = s.now := rfl
@[simp] theorem emit_dict (o : Out) (s : State) : (emit o s).dict = s.dict := rfl
@[simp] theorem emit_pairs (o : Out) (s : State) : (emit o s).pairs = s.pairs := rfl
@[simp] theorem emit_mem (o : Out) (s : State) : (emit o s).mem = s.mem := rfl
@[simp] theorem emit_poison (o : Out) (s : State) : (emit o s).poison = s.poison := rfl
@[simp] theorem emit_keptPins (o : Out) (s : State) : (emit o s).keptPins = s.keptPins := rfl
@[simp] theorem emit_draws (o : Out) (s : State) : (emit o s).draws = s.draws := rfl
@[simp] theorem emit_reacts (o : Out) (s : State) : (emit o s).reacts = s.reacts := rfl
@[simp] theorem emit_steps (o : Out) (s : State) : (emit o s).steps = s.steps := rfl
@[simp] theorem emit_sdp (o : Out) (s : State) : (emit o s).sdp = s.sdp := rfl
@[simp] theorem emit_mbx (o : Out) (s : State) : (emit o s).mbx = s.mbx := rfl
@[simp] theorem emit_gates (o : Out) (s : State) : (emit o s).gates = s.gates := rfl
@[simp] theorem emit_i2c (o : Out) (s : State) : (emit o s).i2c = s.i2c := rfl
@[simp] theorem emit_groom (o : Out) (s : State) : (emit o s).groom = s.groom := rfl
@[simp] theorem emit_chains (o : Out) (s : State) : (emit o s).chains = s.chains := rfl
@[simp] theorem emit_sieveAt (o : Out) (s : State) : (emit o s).sieveAt = s.sieveAt := rfl
@[simp] theorem emit_slots (o : Out) (s : State) : (emit o s).slots = s.slots := rfl
@[simp] theorem emit_yards (o : Out) (s : State) : (emit o s).yards = s.yards := rfl
@[simp] theorem emit_stalls (o : Out) (s : State) : (emit o s).stalls = s.stalls := rfl
@[simp] theorem emit_halos (o : Out) (s : State) : (emit o s).halos = s.halos := rfl
@[simp] theorem emit_lists (o : Out) (s : State) : (emit o s).lists = s.lists := rfl
@[simp] theorem emit_paddock (o : Out) (s : State) : (emit o s).paddock = s.paddock := rfl
@[simp] theorem emit_hold (o : Out) (s : State) : (emit o s).hold = s.hold := rfl
@[simp] theorem emit_troughs (o : Out) (s : State) : (emit o s).troughs = s.troughs := rfl
@[simp] theorem emit_troughResetting (o : Out) (s : State) : (emit o s).troughResetting = s.troughResetting := rfl
@[simp] theorem emit_chans (o : Out) (s : State) : (emit o s).chans = s.chans := rfl
@[simp] theorem emit_engines (o : Out) (s : State) : (emit o s).engines = s.engines := rfl
@[simp] theorem emit_memctl (o : Out) (s : State) : (emit o s).memctl = s.memctl := rfl
@[simp] theorem emit_host (o : Out) (s : State) : (emit o s).host = s.host := rfl
@[simp] theorem emit_time (o : Out) (s : State) : (emit o s).time = s.time := rfl
@[simp] theorem emit_ptp (o : Out) (s : State) : (emit o s).ptp = s.ptp := rfl
@[simp] theorem emit_net (o : Out) (s : State) : (emit o s).net = s.net := rfl
@[simp] theorem emit_power (o : Out) (s : State) : (emit o s).power = s.power := rfl
@[simp] theorem emit_supply (o : Out) (s : State) : (emit o s).supply = s.supply := rfl
@[simp] theorem emit_boot (o : Out) (s : State) : (emit o s).boot = s.boot := rfl
@[simp] theorem emit_muck (o : Out) (s : State) : (emit o s).muck = s.muck := rfl
@[simp] theorem emit_pending (o : Out) (s : State) : (emit o s).pending = s.pending := rfl
@[simp] theorem emit_out (o : Out) (s : State) : (emit o s).out = o :: s.out := rfl

/-! ### `drawn` -/

@[simp] theorem drawn_now  (s : State) : (drawn s).now = s.now := rfl
@[simp] theorem drawn_dict  (s : State) : (drawn s).dict = s.dict := rfl
@[simp] theorem drawn_pairs  (s : State) : (drawn s).pairs = s.pairs := rfl
@[simp] theorem drawn_mem  (s : State) : (drawn s).mem = s.mem := rfl
@[simp] theorem drawn_poison  (s : State) : (drawn s).poison = s.poison := rfl
@[simp] theorem drawn_keptPins  (s : State) : (drawn s).keptPins = s.keptPins := rfl
@[simp] theorem drawn_out  (s : State) : (drawn s).out = s.out := rfl
@[simp] theorem drawn_reacts  (s : State) : (drawn s).reacts = s.reacts := rfl
@[simp] theorem drawn_steps  (s : State) : (drawn s).steps = s.steps := rfl
@[simp] theorem drawn_sdp  (s : State) : (drawn s).sdp = s.sdp := rfl
@[simp] theorem drawn_mbx  (s : State) : (drawn s).mbx = s.mbx := rfl
@[simp] theorem drawn_gates  (s : State) : (drawn s).gates = s.gates := rfl
@[simp] theorem drawn_i2c  (s : State) : (drawn s).i2c = s.i2c := rfl
@[simp] theorem drawn_groom  (s : State) : (drawn s).groom = s.groom := rfl
@[simp] theorem drawn_chains  (s : State) : (drawn s).chains = s.chains := rfl
@[simp] theorem drawn_sieveAt  (s : State) : (drawn s).sieveAt = s.sieveAt := rfl
@[simp] theorem drawn_slots  (s : State) : (drawn s).slots = s.slots := rfl
@[simp] theorem drawn_yards  (s : State) : (drawn s).yards = s.yards := rfl
@[simp] theorem drawn_stalls  (s : State) : (drawn s).stalls = s.stalls := rfl
@[simp] theorem drawn_halos  (s : State) : (drawn s).halos = s.halos := rfl
@[simp] theorem drawn_lists  (s : State) : (drawn s).lists = s.lists := rfl
@[simp] theorem drawn_paddock  (s : State) : (drawn s).paddock = s.paddock := rfl
@[simp] theorem drawn_hold  (s : State) : (drawn s).hold = s.hold := rfl
@[simp] theorem drawn_troughs  (s : State) : (drawn s).troughs = s.troughs := rfl
@[simp] theorem drawn_troughResetting  (s : State) : (drawn s).troughResetting = s.troughResetting := rfl
@[simp] theorem drawn_chans  (s : State) : (drawn s).chans = s.chans := rfl
@[simp] theorem drawn_engines  (s : State) : (drawn s).engines = s.engines := rfl
@[simp] theorem drawn_memctl  (s : State) : (drawn s).memctl = s.memctl := rfl
@[simp] theorem drawn_host  (s : State) : (drawn s).host = s.host := rfl
@[simp] theorem drawn_time  (s : State) : (drawn s).time = s.time := rfl
@[simp] theorem drawn_ptp  (s : State) : (drawn s).ptp = s.ptp := rfl
@[simp] theorem drawn_net  (s : State) : (drawn s).net = s.net := rfl
@[simp] theorem drawn_power  (s : State) : (drawn s).power = s.power := rfl
@[simp] theorem drawn_supply  (s : State) : (drawn s).supply = s.supply := rfl
@[simp] theorem drawn_boot  (s : State) : (drawn s).boot = s.boot := rfl
@[simp] theorem drawn_muck  (s : State) : (drawn s).muck = s.muck := rfl
@[simp] theorem drawn_pending  (s : State) : (drawn s).pending = s.pending := rfl
@[simp] theorem drawn_draws (s : State) : (drawn s).draws = s.draws + 1 := rfl

/-! ### `reach` -/

@[simp] theorem reach_dict (t : Nat) (s : State) : (reach t s).dict = s.dict := rfl
@[simp] theorem reach_pairs (t : Nat) (s : State) : (reach t s).pairs = s.pairs := rfl
@[simp] theorem reach_mem (t : Nat) (s : State) : (reach t s).mem = s.mem := rfl
@[simp] theorem reach_poison (t : Nat) (s : State) : (reach t s).poison = s.poison := rfl
@[simp] theorem reach_keptPins (t : Nat) (s : State) : (reach t s).keptPins = s.keptPins := rfl
@[simp] theorem reach_draws (t : Nat) (s : State) : (reach t s).draws = s.draws := rfl
@[simp] theorem reach_out (t : Nat) (s : State) : (reach t s).out = s.out := rfl
@[simp] theorem reach_reacts (t : Nat) (s : State) : (reach t s).reacts = s.reacts := rfl
@[simp] theorem reach_steps (t : Nat) (s : State) : (reach t s).steps = s.steps := rfl
@[simp] theorem reach_sdp (t : Nat) (s : State) : (reach t s).sdp = s.sdp := rfl
@[simp] theorem reach_mbx (t : Nat) (s : State) : (reach t s).mbx = s.mbx := rfl
@[simp] theorem reach_gates (t : Nat) (s : State) : (reach t s).gates = s.gates := rfl
@[simp] theorem reach_i2c (t : Nat) (s : State) : (reach t s).i2c = s.i2c := rfl
@[simp] theorem reach_groom (t : Nat) (s : State) : (reach t s).groom = s.groom := rfl
@[simp] theorem reach_chains (t : Nat) (s : State) : (reach t s).chains = s.chains := rfl
@[simp] theorem reach_sieveAt (t : Nat) (s : State) : (reach t s).sieveAt = s.sieveAt := rfl
@[simp] theorem reach_slots (t : Nat) (s : State) : (reach t s).slots = s.slots := rfl
@[simp] theorem reach_yards (t : Nat) (s : State) : (reach t s).yards = s.yards := rfl
@[simp] theorem reach_stalls (t : Nat) (s : State) : (reach t s).stalls = s.stalls := rfl
@[simp] theorem reach_halos (t : Nat) (s : State) : (reach t s).halos = s.halos := rfl
@[simp] theorem reach_lists (t : Nat) (s : State) : (reach t s).lists = s.lists := rfl
@[simp] theorem reach_paddock (t : Nat) (s : State) : (reach t s).paddock = s.paddock := rfl
@[simp] theorem reach_hold (t : Nat) (s : State) : (reach t s).hold = s.hold := rfl
@[simp] theorem reach_troughs (t : Nat) (s : State) : (reach t s).troughs = s.troughs := rfl
@[simp] theorem reach_troughResetting (t : Nat) (s : State) : (reach t s).troughResetting = s.troughResetting := rfl
@[simp] theorem reach_chans (t : Nat) (s : State) : (reach t s).chans = s.chans := rfl
@[simp] theorem reach_engines (t : Nat) (s : State) : (reach t s).engines = s.engines := rfl
@[simp] theorem reach_memctl (t : Nat) (s : State) : (reach t s).memctl = s.memctl := rfl
@[simp] theorem reach_host (t : Nat) (s : State) : (reach t s).host = s.host := rfl
@[simp] theorem reach_time (t : Nat) (s : State) : (reach t s).time = s.time := rfl
@[simp] theorem reach_ptp (t : Nat) (s : State) : (reach t s).ptp = s.ptp := rfl
@[simp] theorem reach_net (t : Nat) (s : State) : (reach t s).net = s.net := rfl
@[simp] theorem reach_power (t : Nat) (s : State) : (reach t s).power = s.power := rfl
@[simp] theorem reach_supply (t : Nat) (s : State) : (reach t s).supply = s.supply := rfl
@[simp] theorem reach_boot (t : Nat) (s : State) : (reach t s).boot = s.boot := rfl
@[simp] theorem reach_muck (t : Nat) (s : State) : (reach t s).muck = s.muck := rfl
@[simp] theorem reach_pending (t : Nat) (s : State) : (reach t s).pending = s.pending := rfl

/-! ### `updStep` -/

@[simp] theorem updStep_now (k : Nat) (f : StepRec → StepRec) (s : State) : (updStep k f s).now = s.now := rfl
@[simp] theorem updStep_dict (k : Nat) (f : StepRec → StepRec) (s : State) : (updStep k f s).dict = s.dict := rfl
@[simp] theorem updStep_pairs (k : Nat) (f : StepRec → StepRec) (s : State) : (updStep k f s).pairs = s.pairs := rfl
@[simp] theorem updStep_mem (k : Nat) (f : StepRec → StepRec) (s : State) : (updStep k f s).mem = s.mem := rfl
@[simp] theorem updStep_poison (k : Nat) (f : StepRec → StepRec) (s : State) : (updStep k f s).poison = s.poison := rfl
@[simp] theorem updStep_keptPins (k : Nat) (f : StepRec → StepRec) (s : State) : (updStep k f s).keptPins = s.keptPins := rfl
@[simp] theorem updStep_draws (k : Nat) (f : StepRec → StepRec) (s : State) : (updStep k f s).draws = s.draws := rfl
@[simp] theorem updStep_out (k : Nat) (f : StepRec → StepRec) (s : State) : (updStep k f s).out = s.out := rfl
@[simp] theorem updStep_reacts (k : Nat) (f : StepRec → StepRec) (s : State) : (updStep k f s).reacts = s.reacts := rfl
@[simp] theorem updStep_sdp (k : Nat) (f : StepRec → StepRec) (s : State) : (updStep k f s).sdp = s.sdp := rfl
@[simp] theorem updStep_mbx (k : Nat) (f : StepRec → StepRec) (s : State) : (updStep k f s).mbx = s.mbx := rfl
@[simp] theorem updStep_gates (k : Nat) (f : StepRec → StepRec) (s : State) : (updStep k f s).gates = s.gates := rfl
@[simp] theorem updStep_i2c (k : Nat) (f : StepRec → StepRec) (s : State) : (updStep k f s).i2c = s.i2c := rfl
@[simp] theorem updStep_groom (k : Nat) (f : StepRec → StepRec) (s : State) : (updStep k f s).groom = s.groom := rfl
@[simp] theorem updStep_chains (k : Nat) (f : StepRec → StepRec) (s : State) : (updStep k f s).chains = s.chains := rfl
@[simp] theorem updStep_sieveAt (k : Nat) (f : StepRec → StepRec) (s : State) : (updStep k f s).sieveAt = s.sieveAt := rfl
@[simp] theorem updStep_slots (k : Nat) (f : StepRec → StepRec) (s : State) : (updStep k f s).slots = s.slots := rfl
@[simp] theorem updStep_yards (k : Nat) (f : StepRec → StepRec) (s : State) : (updStep k f s).yards = s.yards := rfl
@[simp] theorem updStep_stalls (k : Nat) (f : StepRec → StepRec) (s : State) : (updStep k f s).stalls = s.stalls := rfl
@[simp] theorem updStep_halos (k : Nat) (f : StepRec → StepRec) (s : State) : (updStep k f s).halos = s.halos := rfl
@[simp] theorem updStep_lists (k : Nat) (f : StepRec → StepRec) (s : State) : (updStep k f s).lists = s.lists := rfl
@[simp] theorem updStep_paddock (k : Nat) (f : StepRec → StepRec) (s : State) : (updStep k f s).paddock = s.paddock := rfl
@[simp] theorem updStep_hold (k : Nat) (f : StepRec → StepRec) (s : State) : (updStep k f s).hold = s.hold := rfl
@[simp] theorem updStep_troughs (k : Nat) (f : StepRec → StepRec) (s : State) : (updStep k f s).troughs = s.troughs := rfl
@[simp] theorem updStep_troughResetting (k : Nat) (f : StepRec → StepRec) (s : State) : (updStep k f s).troughResetting = s.troughResetting := rfl
@[simp] theorem updStep_chans (k : Nat) (f : StepRec → StepRec) (s : State) : (updStep k f s).chans = s.chans := rfl
@[simp] theorem updStep_engines (k : Nat) (f : StepRec → StepRec) (s : State) : (updStep k f s).engines = s.engines := rfl
@[simp] theorem updStep_memctl (k : Nat) (f : StepRec → StepRec) (s : State) : (updStep k f s).memctl = s.memctl := rfl
@[simp] theorem updStep_host (k : Nat) (f : StepRec → StepRec) (s : State) : (updStep k f s).host = s.host := rfl
@[simp] theorem updStep_time (k : Nat) (f : StepRec → StepRec) (s : State) : (updStep k f s).time = s.time := rfl
@[simp] theorem updStep_ptp (k : Nat) (f : StepRec → StepRec) (s : State) : (updStep k f s).ptp = s.ptp := rfl
@[simp] theorem updStep_net (k : Nat) (f : StepRec → StepRec) (s : State) : (updStep k f s).net = s.net := rfl
@[simp] theorem updStep_power (k : Nat) (f : StepRec → StepRec) (s : State) : (updStep k f s).power = s.power := rfl
@[simp] theorem updStep_supply (k : Nat) (f : StepRec → StepRec) (s : State) : (updStep k f s).supply = s.supply := rfl
@[simp] theorem updStep_boot (k : Nat) (f : StepRec → StepRec) (s : State) : (updStep k f s).boot = s.boot := rfl
@[simp] theorem updStep_muck (k : Nat) (f : StepRec → StepRec) (s : State) : (updStep k f s).muck = s.muck := rfl
@[simp] theorem updStep_pending (k : Nat) (f : StepRec → StepRec) (s : State) : (updStep k f s).pending = s.pending := rfl

/-! ### `updGate` -/

@[simp] theorem updGate_now (k : Nat) (f : Gate → Gate) (s : State) : (updGate k f s).now = s.now := rfl
@[simp] theorem updGate_dict (k : Nat) (f : Gate → Gate) (s : State) : (updGate k f s).dict = s.dict := rfl
@[simp] theorem updGate_pairs (k : Nat) (f : Gate → Gate) (s : State) : (updGate k f s).pairs = s.pairs := rfl
@[simp] theorem updGate_mem (k : Nat) (f : Gate → Gate) (s : State) : (updGate k f s).mem = s.mem := rfl
@[simp] theorem updGate_poison (k : Nat) (f : Gate → Gate) (s : State) : (updGate k f s).poison = s.poison := rfl
@[simp] theorem updGate_keptPins (k : Nat) (f : Gate → Gate) (s : State) : (updGate k f s).keptPins = s.keptPins := rfl
@[simp] theorem updGate_draws (k : Nat) (f : Gate → Gate) (s : State) : (updGate k f s).draws = s.draws := rfl
@[simp] theorem updGate_out (k : Nat) (f : Gate → Gate) (s : State) : (updGate k f s).out = s.out := rfl
@[simp] theorem updGate_reacts (k : Nat) (f : Gate → Gate) (s : State) : (updGate k f s).reacts = s.reacts := rfl
@[simp] theorem updGate_steps (k : Nat) (f : Gate → Gate) (s : State) : (updGate k f s).steps = s.steps := rfl
@[simp] theorem updGate_sdp (k : Nat) (f : Gate → Gate) (s : State) : (updGate k f s).sdp = s.sdp := rfl
@[simp] theorem updGate_mbx (k : Nat) (f : Gate → Gate) (s : State) : (updGate k f s).mbx = s.mbx := rfl
@[simp] theorem updGate_i2c (k : Nat) (f : Gate → Gate) (s : State) : (updGate k f s).i2c = s.i2c := rfl
@[simp] theorem updGate_groom (k : Nat) (f : Gate → Gate) (s : State) : (updGate k f s).groom = s.groom := rfl
@[simp] theorem updGate_chains (k : Nat) (f : Gate → Gate) (s : State) : (updGate k f s).chains = s.chains := rfl
@[simp] theorem updGate_sieveAt (k : Nat) (f : Gate → Gate) (s : State) : (updGate k f s).sieveAt = s.sieveAt := rfl
@[simp] theorem updGate_slots (k : Nat) (f : Gate → Gate) (s : State) : (updGate k f s).slots = s.slots := rfl
@[simp] theorem updGate_yards (k : Nat) (f : Gate → Gate) (s : State) : (updGate k f s).yards = s.yards := rfl
@[simp] theorem updGate_stalls (k : Nat) (f : Gate → Gate) (s : State) : (updGate k f s).stalls = s.stalls := rfl
@[simp] theorem updGate_halos (k : Nat) (f : Gate → Gate) (s : State) : (updGate k f s).halos = s.halos := rfl
@[simp] theorem updGate_lists (k : Nat) (f : Gate → Gate) (s : State) : (updGate k f s).lists = s.lists := rfl
@[simp] theorem updGate_paddock (k : Nat) (f : Gate → Gate) (s : State) : (updGate k f s).paddock = s.paddock := rfl
@[simp] theorem updGate_hold (k : Nat) (f : Gate → Gate) (s : State) : (updGate k f s).hold = s.hold := rfl
@[simp] theorem updGate_troughs (k : Nat) (f : Gate → Gate) (s : State) : (updGate k f s).troughs = s.troughs := rfl
@[simp] theorem updGate_troughResetting (k : Nat) (f : Gate → Gate) (s : State) : (updGate k f s).troughResetting = s.troughResetting := rfl
@[simp] theorem updGate_chans (k : Nat) (f : Gate → Gate) (s : State) : (updGate k f s).chans = s.chans := rfl
@[simp] theorem updGate_engines (k : Nat) (f : Gate → Gate) (s : State) : (updGate k f s).engines = s.engines := rfl
@[simp] theorem updGate_memctl (k : Nat) (f : Gate → Gate) (s : State) : (updGate k f s).memctl = s.memctl := rfl
@[simp] theorem updGate_host (k : Nat) (f : Gate → Gate) (s : State) : (updGate k f s).host = s.host := rfl
@[simp] theorem updGate_time (k : Nat) (f : Gate → Gate) (s : State) : (updGate k f s).time = s.time := rfl
@[simp] theorem updGate_ptp (k : Nat) (f : Gate → Gate) (s : State) : (updGate k f s).ptp = s.ptp := rfl
@[simp] theorem updGate_net (k : Nat) (f : Gate → Gate) (s : State) : (updGate k f s).net = s.net := rfl
@[simp] theorem updGate_power (k : Nat) (f : Gate → Gate) (s : State) : (updGate k f s).power = s.power := rfl
@[simp] theorem updGate_supply (k : Nat) (f : Gate → Gate) (s : State) : (updGate k f s).supply = s.supply := rfl
@[simp] theorem updGate_boot (k : Nat) (f : Gate → Gate) (s : State) : (updGate k f s).boot = s.boot := rfl
@[simp] theorem updGate_muck (k : Nat) (f : Gate → Gate) (s : State) : (updGate k f s).muck = s.muck := rfl
@[simp] theorem updGate_pending (k : Nat) (f : Gate → Gate) (s : State) : (updGate k f s).pending = s.pending := rfl
@[simp] theorem updGate_same (k : Nat) (f : Gate → Gate) (s : State) : (updGate k f s).gate k = f (s.gate k) := sget_supd_same ..
theorem updGate_ne {k k' : Nat} (f : Gate → Gate) (s : State) (h : k ≠ k') : (updGate k f s).gate k' = s.gate k' :=
  sget_supd_ne _ _ _ h

/-! ### `updI2c` -/

@[simp] theorem updI2c_now (k : Nat) (f : I2c → I2c) (s : State) : (updI2c k f s).now = s.now := rfl
@[simp] theorem updI2c_dict (k : Nat) (f : I2c → I2c) (s : State) : (updI2c k f s).dict = s.dict := rfl
@[simp] theorem updI2c_pairs (k : Nat) (f : I2c → I2c) (s : State) : (updI2c k f s).pairs = s.pairs := rfl
@[simp] theorem updI2c_mem (k : Nat) (f : I2c → I2c) (s : State) : (updI2c k f s).mem = s.mem := rfl
@[simp] theorem updI2c_poison (k : Nat) (f : I2c → I2c) (s : State) : (updI2c k f s).poison = s.poison := rfl
@[simp] theorem updI2c_keptPins (k : Nat) (f : I2c → I2c) (s : State) : (updI2c k f s).keptPins = s.keptPins := rfl
@[simp] theorem updI2c_draws (k : Nat) (f : I2c → I2c) (s : State) : (updI2c k f s).draws = s.draws := rfl
@[simp] theorem updI2c_out (k : Nat) (f : I2c → I2c) (s : State) : (updI2c k f s).out = s.out := rfl
@[simp] theorem updI2c_reacts (k : Nat) (f : I2c → I2c) (s : State) : (updI2c k f s).reacts = s.reacts := rfl
@[simp] theorem updI2c_steps (k : Nat) (f : I2c → I2c) (s : State) : (updI2c k f s).steps = s.steps := rfl
@[simp] theorem updI2c_sdp (k : Nat) (f : I2c → I2c) (s : State) : (updI2c k f s).sdp = s.sdp := rfl
@[simp] theorem updI2c_mbx (k : Nat) (f : I2c → I2c) (s : State) : (updI2c k f s).mbx = s.mbx := rfl
@[simp] theorem updI2c_gates (k : Nat) (f : I2c → I2c) (s : State) : (updI2c k f s).gates = s.gates := rfl
@[simp] theorem updI2c_groom (k : Nat) (f : I2c → I2c) (s : State) : (updI2c k f s).groom = s.groom := rfl
@[simp] theorem updI2c_chains (k : Nat) (f : I2c → I2c) (s : State) : (updI2c k f s).chains = s.chains := rfl
@[simp] theorem updI2c_sieveAt (k : Nat) (f : I2c → I2c) (s : State) : (updI2c k f s).sieveAt = s.sieveAt := rfl
@[simp] theorem updI2c_slots (k : Nat) (f : I2c → I2c) (s : State) : (updI2c k f s).slots = s.slots := rfl
@[simp] theorem updI2c_yards (k : Nat) (f : I2c → I2c) (s : State) : (updI2c k f s).yards = s.yards := rfl
@[simp] theorem updI2c_stalls (k : Nat) (f : I2c → I2c) (s : State) : (updI2c k f s).stalls = s.stalls := rfl
@[simp] theorem updI2c_halos (k : Nat) (f : I2c → I2c) (s : State) : (updI2c k f s).halos = s.halos := rfl
@[simp] theorem updI2c_lists (k : Nat) (f : I2c → I2c) (s : State) : (updI2c k f s).lists = s.lists := rfl
@[simp] theorem updI2c_paddock (k : Nat) (f : I2c → I2c) (s : State) : (updI2c k f s).paddock = s.paddock := rfl
@[simp] theorem updI2c_hold (k : Nat) (f : I2c → I2c) (s : State) : (updI2c k f s).hold = s.hold := rfl
@[simp] theorem updI2c_troughs (k : Nat) (f : I2c → I2c) (s : State) : (updI2c k f s).troughs = s.troughs := rfl
@[simp] theorem updI2c_troughResetting (k : Nat) (f : I2c → I2c) (s : State) : (updI2c k f s).troughResetting = s.troughResetting := rfl
@[simp] theorem updI2c_chans (k : Nat) (f : I2c → I2c) (s : State) : (updI2c k f s).chans = s.chans := rfl
@[simp] theorem updI2c_engines (k : Nat) (f : I2c → I2c) (s : State) : (updI2c k f s).engines = s.engines := rfl
@[simp] theorem updI2c_memctl (k : Nat) (f : I2c → I2c) (s : State) : (updI2c k f s).memctl = s.memctl := rfl
@[simp] theorem updI2c_host (k : Nat) (f : I2c → I2c) (s : State) : (updI2c k f s).host = s.host := rfl
@[simp] theorem updI2c_time (k : Nat) (f : I2c → I2c) (s : State) : (updI2c k f s).time = s.time := rfl
@[simp] theorem updI2c_ptp (k : Nat) (f : I2c → I2c) (s : State) : (updI2c k f s).ptp = s.ptp := rfl
@[simp] theorem updI2c_net (k : Nat) (f : I2c → I2c) (s : State) : (updI2c k f s).net = s.net := rfl
@[simp] theorem updI2c_power (k : Nat) (f : I2c → I2c) (s : State) : (updI2c k f s).power = s.power := rfl
@[simp] theorem updI2c_supply (k : Nat) (f : I2c → I2c) (s : State) : (updI2c k f s).supply = s.supply := rfl
@[simp] theorem updI2c_boot (k : Nat) (f : I2c → I2c) (s : State) : (updI2c k f s).boot = s.boot := rfl
@[simp] theorem updI2c_muck (k : Nat) (f : I2c → I2c) (s : State) : (updI2c k f s).muck = s.muck := rfl
@[simp] theorem updI2c_pending (k : Nat) (f : I2c → I2c) (s : State) : (updI2c k f s).pending = s.pending := rfl
@[simp] theorem updI2c_same (k : Nat) (f : I2c → I2c) (s : State) : (updI2c k f s).i2cm k = f (s.i2cm k) := sget_supd_same ..
theorem updI2c_ne {k k' : Nat} (f : I2c → I2c) (s : State) (h : k ≠ k') : (updI2c k f s).i2cm k' = s.i2cm k' :=
  sget_supd_ne _ _ _ h

/-! ### `updChain` -/

@[simp] theorem updChain_now (k : Nat) (f : Chain → Chain) (s : State) : (updChain k f s).now = s.now := rfl
@[simp] theorem updChain_dict (k : Nat) (f : Chain → Chain) (s : State) : (updChain k f s).dict = s.dict := rfl
@[simp] theorem updChain_pairs (k : Nat) (f : Chain → Chain) (s : State) : (updChain k f s).pairs = s.pairs := rfl
@[simp] theorem updChain_mem (k : Nat) (f : Chain → Chain) (s : State) : (updChain k f s).mem = s.mem := rfl
@[simp] theorem updChain_poison (k : Nat) (f : Chain → Chain) (s : State) : (updChain k f s).poison = s.poison := rfl
@[simp] theorem updChain_keptPins (k : Nat) (f : Chain → Chain) (s : State) : (updChain k f s).keptPins = s.keptPins := rfl
@[simp] theorem updChain_draws (k : Nat) (f : Chain → Chain) (s : State) : (updChain k f s).draws = s.draws := rfl
@[simp] theorem updChain_out (k : Nat) (f : Chain → Chain) (s : State) : (updChain k f s).out = s.out := rfl
@[simp] theorem updChain_reacts (k : Nat) (f : Chain → Chain) (s : State) : (updChain k f s).reacts = s.reacts := rfl
@[simp] theorem updChain_steps (k : Nat) (f : Chain → Chain) (s : State) : (updChain k f s).steps = s.steps := rfl
@[simp] theorem updChain_sdp (k : Nat) (f : Chain → Chain) (s : State) : (updChain k f s).sdp = s.sdp := rfl
@[simp] theorem updChain_mbx (k : Nat) (f : Chain → Chain) (s : State) : (updChain k f s).mbx = s.mbx := rfl
@[simp] theorem updChain_gates (k : Nat) (f : Chain → Chain) (s : State) : (updChain k f s).gates = s.gates := rfl
@[simp] theorem updChain_i2c (k : Nat) (f : Chain → Chain) (s : State) : (updChain k f s).i2c = s.i2c := rfl
@[simp] theorem updChain_groom (k : Nat) (f : Chain → Chain) (s : State) : (updChain k f s).groom = s.groom := rfl
@[simp] theorem updChain_sieveAt (k : Nat) (f : Chain → Chain) (s : State) : (updChain k f s).sieveAt = s.sieveAt := rfl
@[simp] theorem updChain_slots (k : Nat) (f : Chain → Chain) (s : State) : (updChain k f s).slots = s.slots := rfl
@[simp] theorem updChain_yards (k : Nat) (f : Chain → Chain) (s : State) : (updChain k f s).yards = s.yards := rfl
@[simp] theorem updChain_stalls (k : Nat) (f : Chain → Chain) (s : State) : (updChain k f s).stalls = s.stalls := rfl
@[simp] theorem updChain_halos (k : Nat) (f : Chain → Chain) (s : State) : (updChain k f s).halos = s.halos := rfl
@[simp] theorem updChain_lists (k : Nat) (f : Chain → Chain) (s : State) : (updChain k f s).lists = s.lists := rfl
@[simp] theorem updChain_paddock (k : Nat) (f : Chain → Chain) (s : State) : (updChain k f s).paddock = s.paddock := rfl
@[simp] theorem updChain_hold (k : Nat) (f : Chain → Chain) (s : State) : (updChain k f s).hold = s.hold := rfl
@[simp] theorem updChain_troughs (k : Nat) (f : Chain → Chain) (s : State) : (updChain k f s).troughs = s.troughs := rfl
@[simp] theorem updChain_troughResetting (k : Nat) (f : Chain → Chain) (s : State) : (updChain k f s).troughResetting = s.troughResetting := rfl
@[simp] theorem updChain_chans (k : Nat) (f : Chain → Chain) (s : State) : (updChain k f s).chans = s.chans := rfl
@[simp] theorem updChain_engines (k : Nat) (f : Chain → Chain) (s : State) : (updChain k f s).engines = s.engines := rfl
@[simp] theorem updChain_memctl (k : Nat) (f : Chain → Chain) (s : State) : (updChain k f s).memctl = s.memctl := rfl
@[simp] theorem updChain_host (k : Nat) (f : Chain → Chain) (s : State) : (updChain k f s).host = s.host := rfl
@[simp] theorem updChain_time (k : Nat) (f : Chain → Chain) (s : State) : (updChain k f s).time = s.time := rfl
@[simp] theorem updChain_ptp (k : Nat) (f : Chain → Chain) (s : State) : (updChain k f s).ptp = s.ptp := rfl
@[simp] theorem updChain_net (k : Nat) (f : Chain → Chain) (s : State) : (updChain k f s).net = s.net := rfl
@[simp] theorem updChain_power (k : Nat) (f : Chain → Chain) (s : State) : (updChain k f s).power = s.power := rfl
@[simp] theorem updChain_supply (k : Nat) (f : Chain → Chain) (s : State) : (updChain k f s).supply = s.supply := rfl
@[simp] theorem updChain_boot (k : Nat) (f : Chain → Chain) (s : State) : (updChain k f s).boot = s.boot := rfl
@[simp] theorem updChain_muck (k : Nat) (f : Chain → Chain) (s : State) : (updChain k f s).muck = s.muck := rfl
@[simp] theorem updChain_pending (k : Nat) (f : Chain → Chain) (s : State) : (updChain k f s).pending = s.pending := rfl
@[simp] theorem updChain_same (k : Nat) (f : Chain → Chain) (s : State) : (updChain k f s).chain k = f (s.chain k) := sget_supd_same ..
theorem updChain_ne {k k' : Nat} (f : Chain → Chain) (s : State) (h : k ≠ k') : (updChain k f s).chain k' = s.chain k' :=
  sget_supd_ne _ _ _ h

/-! ### `updSlot` -/

@[simp] theorem updSlot_now (k : Nat) (f : JobSlot → JobSlot) (s : State) : (updSlot k f s).now = s.now := rfl
@[simp] theorem updSlot_dict (k : Nat) (f : JobSlot → JobSlot) (s : State) : (updSlot k f s).dict = s.dict := rfl
@[simp] theorem updSlot_pairs (k : Nat) (f : JobSlot → JobSlot) (s : State) : (updSlot k f s).pairs = s.pairs := rfl
@[simp] theorem updSlot_mem (k : Nat) (f : JobSlot → JobSlot) (s : State) : (updSlot k f s).mem = s.mem := rfl
@[simp] theorem updSlot_poison (k : Nat) (f : JobSlot → JobSlot) (s : State) : (updSlot k f s).poison = s.poison := rfl
@[simp] theorem updSlot_keptPins (k : Nat) (f : JobSlot → JobSlot) (s : State) : (updSlot k f s).keptPins = s.keptPins := rfl
@[simp] theorem updSlot_draws (k : Nat) (f : JobSlot → JobSlot) (s : State) : (updSlot k f s).draws = s.draws := rfl
@[simp] theorem updSlot_out (k : Nat) (f : JobSlot → JobSlot) (s : State) : (updSlot k f s).out = s.out := rfl
@[simp] theorem updSlot_reacts (k : Nat) (f : JobSlot → JobSlot) (s : State) : (updSlot k f s).reacts = s.reacts := rfl
@[simp] theorem updSlot_steps (k : Nat) (f : JobSlot → JobSlot) (s : State) : (updSlot k f s).steps = s.steps := rfl
@[simp] theorem updSlot_sdp (k : Nat) (f : JobSlot → JobSlot) (s : State) : (updSlot k f s).sdp = s.sdp := rfl
@[simp] theorem updSlot_mbx (k : Nat) (f : JobSlot → JobSlot) (s : State) : (updSlot k f s).mbx = s.mbx := rfl
@[simp] theorem updSlot_gates (k : Nat) (f : JobSlot → JobSlot) (s : State) : (updSlot k f s).gates = s.gates := rfl
@[simp] theorem updSlot_i2c (k : Nat) (f : JobSlot → JobSlot) (s : State) : (updSlot k f s).i2c = s.i2c := rfl
@[simp] theorem updSlot_groom (k : Nat) (f : JobSlot → JobSlot) (s : State) : (updSlot k f s).groom = s.groom := rfl
@[simp] theorem updSlot_chains (k : Nat) (f : JobSlot → JobSlot) (s : State) : (updSlot k f s).chains = s.chains := rfl
@[simp] theorem updSlot_sieveAt (k : Nat) (f : JobSlot → JobSlot) (s : State) : (updSlot k f s).sieveAt = s.sieveAt := rfl
@[simp] theorem updSlot_yards (k : Nat) (f : JobSlot → JobSlot) (s : State) : (updSlot k f s).yards = s.yards := rfl
@[simp] theorem updSlot_stalls (k : Nat) (f : JobSlot → JobSlot) (s : State) : (updSlot k f s).stalls = s.stalls := rfl
@[simp] theorem updSlot_halos (k : Nat) (f : JobSlot → JobSlot) (s : State) : (updSlot k f s).halos = s.halos := rfl
@[simp] theorem updSlot_lists (k : Nat) (f : JobSlot → JobSlot) (s : State) : (updSlot k f s).lists = s.lists := rfl
@[simp] theorem updSlot_paddock (k : Nat) (f : JobSlot → JobSlot) (s : State) : (updSlot k f s).paddock = s.paddock := rfl
@[simp] theorem updSlot_hold (k : Nat) (f : JobSlot → JobSlot) (s : State) : (updSlot k f s).hold = s.hold := rfl
@[simp] theorem updSlot_troughs (k : Nat) (f : JobSlot → JobSlot) (s : State) : (updSlot k f s).troughs = s.troughs := rfl
@[simp] theorem updSlot_troughResetting (k : Nat) (f : JobSlot → JobSlot) (s : State) : (updSlot k f s).troughResetting = s.troughResetting := rfl
@[simp] theorem updSlot_chans (k : Nat) (f : JobSlot → JobSlot) (s : State) : (updSlot k f s).chans = s.chans := rfl
@[simp] theorem updSlot_engines (k : Nat) (f : JobSlot → JobSlot) (s : State) : (updSlot k f s).engines = s.engines := rfl
@[simp] theorem updSlot_memctl (k : Nat) (f : JobSlot → JobSlot) (s : State) : (updSlot k f s).memctl = s.memctl := rfl
@[simp] theorem updSlot_host (k : Nat) (f : JobSlot → JobSlot) (s : State) : (updSlot k f s).host = s.host := rfl
@[simp] theorem updSlot_time (k : Nat) (f : JobSlot → JobSlot) (s : State) : (updSlot k f s).time = s.time := rfl
@[simp] theorem updSlot_ptp (k : Nat) (f : JobSlot → JobSlot) (s : State) : (updSlot k f s).ptp = s.ptp := rfl
@[simp] theorem updSlot_net (k : Nat) (f : JobSlot → JobSlot) (s : State) : (updSlot k f s).net = s.net := rfl
@[simp] theorem updSlot_power (k : Nat) (f : JobSlot → JobSlot) (s : State) : (updSlot k f s).power = s.power := rfl
@[simp] theorem updSlot_supply (k : Nat) (f : JobSlot → JobSlot) (s : State) : (updSlot k f s).supply = s.supply := rfl
@[simp] theorem updSlot_boot (k : Nat) (f : JobSlot → JobSlot) (s : State) : (updSlot k f s).boot = s.boot := rfl
@[simp] theorem updSlot_muck (k : Nat) (f : JobSlot → JobSlot) (s : State) : (updSlot k f s).muck = s.muck := rfl
@[simp] theorem updSlot_pending (k : Nat) (f : JobSlot → JobSlot) (s : State) : (updSlot k f s).pending = s.pending := rfl
@[simp] theorem updSlot_same (k : Nat) (f : JobSlot → JobSlot) (s : State) : (updSlot k f s).slot k = f (s.slot k) := sget_supd_same ..
theorem updSlot_ne {k k' : Nat} (f : JobSlot → JobSlot) (s : State) (h : k ≠ k') : (updSlot k f s).slot k' = s.slot k' :=
  sget_supd_ne _ _ _ h

/-! ### `updYard` -/

@[simp] theorem updYard_now (k : Nat) (f : Yard → Yard) (s : State) : (updYard k f s).now = s.now := rfl
@[simp] theorem updYard_dict (k : Nat) (f : Yard → Yard) (s : State) : (updYard k f s).dict = s.dict := rfl
@[simp] theorem updYard_pairs (k : Nat) (f : Yard → Yard) (s : State) : (updYard k f s).pairs = s.pairs := rfl
@[simp] theorem updYard_mem (k : Nat) (f : Yard → Yard) (s : State) : (updYard k f s).mem = s.mem := rfl
@[simp] theorem updYard_poison (k : Nat) (f : Yard → Yard) (s : State) : (updYard k f s).poison = s.poison := rfl
@[simp] theorem updYard_keptPins (k : Nat) (f : Yard → Yard) (s : State) : (updYard k f s).keptPins = s.keptPins := rfl
@[simp] theorem updYard_draws (k : Nat) (f : Yard → Yard) (s : State) : (updYard k f s).draws = s.draws := rfl
@[simp] theorem updYard_out (k : Nat) (f : Yard → Yard) (s : State) : (updYard k f s).out = s.out := rfl
@[simp] theorem updYard_reacts (k : Nat) (f : Yard → Yard) (s : State) : (updYard k f s).reacts = s.reacts := rfl
@[simp] theorem updYard_steps (k : Nat) (f : Yard → Yard) (s : State) : (updYard k f s).steps = s.steps := rfl
@[simp] theorem updYard_sdp (k : Nat) (f : Yard → Yard) (s : State) : (updYard k f s).sdp = s.sdp := rfl
@[simp] theorem updYard_mbx (k : Nat) (f : Yard → Yard) (s : State) : (updYard k f s).mbx = s.mbx := rfl
@[simp] theorem updYard_gates (k : Nat) (f : Yard → Yard) (s : State) : (updYard k f s).gates = s.gates := rfl
@[simp] theorem updYard_i2c (k : Nat) (f : Yard → Yard) (s : State) : (updYard k f s).i2c = s.i2c := rfl
@[simp] theorem updYard_groom (k : Nat) (f : Yard → Yard) (s : State) : (updYard k f s).groom = s.groom := rfl
@[simp] theorem updYard_chains (k : Nat) (f : Yard → Yard) (s : State) : (updYard k f s).chains = s.chains := rfl
@[simp] theorem updYard_sieveAt (k : Nat) (f : Yard → Yard) (s : State) : (updYard k f s).sieveAt = s.sieveAt := rfl
@[simp] theorem updYard_slots (k : Nat) (f : Yard → Yard) (s : State) : (updYard k f s).slots = s.slots := rfl
@[simp] theorem updYard_stalls (k : Nat) (f : Yard → Yard) (s : State) : (updYard k f s).stalls = s.stalls := rfl
@[simp] theorem updYard_halos (k : Nat) (f : Yard → Yard) (s : State) : (updYard k f s).halos = s.halos := rfl
@[simp] theorem updYard_lists (k : Nat) (f : Yard → Yard) (s : State) : (updYard k f s).lists = s.lists := rfl
@[simp] theorem updYard_paddock (k : Nat) (f : Yard → Yard) (s : State) : (updYard k f s).paddock = s.paddock := rfl
@[simp] theorem updYard_hold (k : Nat) (f : Yard → Yard) (s : State) : (updYard k f s).hold = s.hold := rfl
@[simp] theorem updYard_troughs (k : Nat) (f : Yard → Yard) (s : State) : (updYard k f s).troughs = s.troughs := rfl
@[simp] theorem updYard_troughResetting (k : Nat) (f : Yard → Yard) (s : State) : (updYard k f s).troughResetting = s.troughResetting := rfl
@[simp] theorem updYard_chans (k : Nat) (f : Yard → Yard) (s : State) : (updYard k f s).chans = s.chans := rfl
@[simp] theorem updYard_engines (k : Nat) (f : Yard → Yard) (s : State) : (updYard k f s).engines = s.engines := rfl
@[simp] theorem updYard_memctl (k : Nat) (f : Yard → Yard) (s : State) : (updYard k f s).memctl = s.memctl := rfl
@[simp] theorem updYard_host (k : Nat) (f : Yard → Yard) (s : State) : (updYard k f s).host = s.host := rfl
@[simp] theorem updYard_time (k : Nat) (f : Yard → Yard) (s : State) : (updYard k f s).time = s.time := rfl
@[simp] theorem updYard_ptp (k : Nat) (f : Yard → Yard) (s : State) : (updYard k f s).ptp = s.ptp := rfl
@[simp] theorem updYard_net (k : Nat) (f : Yard → Yard) (s : State) : (updYard k f s).net = s.net := rfl
@[simp] theorem updYard_power (k : Nat) (f : Yard → Yard) (s : State) : (updYard k f s).power = s.power := rfl
@[simp] theorem updYard_supply (k : Nat) (f : Yard → Yard) (s : State) : (updYard k f s).supply = s.supply := rfl
@[simp] theorem updYard_boot (k : Nat) (f : Yard → Yard) (s : State) : (updYard k f s).boot = s.boot := rfl
@[simp] theorem updYard_muck (k : Nat) (f : Yard → Yard) (s : State) : (updYard k f s).muck = s.muck := rfl
@[simp] theorem updYard_pending (k : Nat) (f : Yard → Yard) (s : State) : (updYard k f s).pending = s.pending := rfl
@[simp] theorem updYard_same (k : Nat) (f : Yard → Yard) (s : State) : (updYard k f s).yard k = f (s.yard k) := sget_supd_same ..
theorem updYard_ne {k k' : Nat} (f : Yard → Yard) (s : State) (h : k ≠ k') : (updYard k f s).yard k' = s.yard k' :=
  sget_supd_ne _ _ _ h

/-! ### `updStall` -/

@[simp] theorem updStall_now (k : Nat) (f : Stall → Stall) (s : State) : (updStall k f s).now = s.now := rfl
@[simp] theorem updStall_dict (k : Nat) (f : Stall → Stall) (s : State) : (updStall k f s).dict = s.dict := rfl
@[simp] theorem updStall_pairs (k : Nat) (f : Stall → Stall) (s : State) : (updStall k f s).pairs = s.pairs := rfl
@[simp] theorem updStall_mem (k : Nat) (f : Stall → Stall) (s : State) : (updStall k f s).mem = s.mem := rfl
@[simp] theorem updStall_poison (k : Nat) (f : Stall → Stall) (s : State) : (updStall k f s).poison = s.poison := rfl
@[simp] theorem updStall_keptPins (k : Nat) (f : Stall → Stall) (s : State) : (updStall k f s).keptPins = s.keptPins := rfl
@[simp] theorem updStall_draws (k : Nat) (f : Stall → Stall) (s : State) : (updStall k f s).draws = s.draws := rfl
@[simp] theorem updStall_out (k : Nat) (f : Stall → Stall) (s : State) : (updStall k f s).out = s.out := rfl
@[simp] theorem updStall_reacts (k : Nat) (f : Stall → Stall) (s : State) : (updStall k f s).reacts = s.reacts := rfl
@[simp] theorem updStall_steps (k : Nat) (f : Stall → Stall) (s : State) : (updStall k f s).steps = s.steps := rfl
@[simp] theorem updStall_sdp (k : Nat) (f : Stall → Stall) (s : State) : (updStall k f s).sdp = s.sdp := rfl
@[simp] theorem updStall_mbx (k : Nat) (f : Stall → Stall) (s : State) : (updStall k f s).mbx = s.mbx := rfl
@[simp] theorem updStall_gates (k : Nat) (f : Stall → Stall) (s : State) : (updStall k f s).gates = s.gates := rfl
@[simp] theorem updStall_i2c (k : Nat) (f : Stall → Stall) (s : State) : (updStall k f s).i2c = s.i2c := rfl
@[simp] theorem updStall_groom (k : Nat) (f : Stall → Stall) (s : State) : (updStall k f s).groom = s.groom := rfl
@[simp] theorem updStall_chains (k : Nat) (f : Stall → Stall) (s : State) : (updStall k f s).chains = s.chains := rfl
@[simp] theorem updStall_sieveAt (k : Nat) (f : Stall → Stall) (s : State) : (updStall k f s).sieveAt = s.sieveAt := rfl
@[simp] theorem updStall_slots (k : Nat) (f : Stall → Stall) (s : State) : (updStall k f s).slots = s.slots := rfl
@[simp] theorem updStall_yards (k : Nat) (f : Stall → Stall) (s : State) : (updStall k f s).yards = s.yards := rfl
@[simp] theorem updStall_halos (k : Nat) (f : Stall → Stall) (s : State) : (updStall k f s).halos = s.halos := rfl
@[simp] theorem updStall_lists (k : Nat) (f : Stall → Stall) (s : State) : (updStall k f s).lists = s.lists := rfl
@[simp] theorem updStall_paddock (k : Nat) (f : Stall → Stall) (s : State) : (updStall k f s).paddock = s.paddock := rfl
@[simp] theorem updStall_hold (k : Nat) (f : Stall → Stall) (s : State) : (updStall k f s).hold = s.hold := rfl
@[simp] theorem updStall_troughs (k : Nat) (f : Stall → Stall) (s : State) : (updStall k f s).troughs = s.troughs := rfl
@[simp] theorem updStall_troughResetting (k : Nat) (f : Stall → Stall) (s : State) : (updStall k f s).troughResetting = s.troughResetting := rfl
@[simp] theorem updStall_chans (k : Nat) (f : Stall → Stall) (s : State) : (updStall k f s).chans = s.chans := rfl
@[simp] theorem updStall_engines (k : Nat) (f : Stall → Stall) (s : State) : (updStall k f s).engines = s.engines := rfl
@[simp] theorem updStall_memctl (k : Nat) (f : Stall → Stall) (s : State) : (updStall k f s).memctl = s.memctl := rfl
@[simp] theorem updStall_host (k : Nat) (f : Stall → Stall) (s : State) : (updStall k f s).host = s.host := rfl
@[simp] theorem updStall_time (k : Nat) (f : Stall → Stall) (s : State) : (updStall k f s).time = s.time := rfl
@[simp] theorem updStall_ptp (k : Nat) (f : Stall → Stall) (s : State) : (updStall k f s).ptp = s.ptp := rfl
@[simp] theorem updStall_net (k : Nat) (f : Stall → Stall) (s : State) : (updStall k f s).net = s.net := rfl
@[simp] theorem updStall_power (k : Nat) (f : Stall → Stall) (s : State) : (updStall k f s).power = s.power := rfl
@[simp] theorem updStall_supply (k : Nat) (f : Stall → Stall) (s : State) : (updStall k f s).supply = s.supply := rfl
@[simp] theorem updStall_boot (k : Nat) (f : Stall → Stall) (s : State) : (updStall k f s).boot = s.boot := rfl
@[simp] theorem updStall_muck (k : Nat) (f : Stall → Stall) (s : State) : (updStall k f s).muck = s.muck := rfl
@[simp] theorem updStall_pending (k : Nat) (f : Stall → Stall) (s : State) : (updStall k f s).pending = s.pending := rfl
@[simp] theorem updStall_same (k : Nat) (f : Stall → Stall) (s : State) : (updStall k f s).stall k = f (s.stall k) := sget_supd_same ..
theorem updStall_ne {k k' : Nat} (f : Stall → Stall) (s : State) (h : k ≠ k') : (updStall k f s).stall k' = s.stall k' :=
  sget_supd_ne _ _ _ h

/-! ### `updTrough` -/

@[simp] theorem updTrough_now (k : Nat) (f : Trough → Trough) (s : State) : (updTrough k f s).now = s.now := rfl
@[simp] theorem updTrough_dict (k : Nat) (f : Trough → Trough) (s : State) : (updTrough k f s).dict = s.dict := rfl
@[simp] theorem updTrough_pairs (k : Nat) (f : Trough → Trough) (s : State) : (updTrough k f s).pairs = s.pairs := rfl
@[simp] theorem updTrough_mem (k : Nat) (f : Trough → Trough) (s : State) : (updTrough k f s).mem = s.mem := rfl
@[simp] theorem updTrough_poison (k : Nat) (f : Trough → Trough) (s : State) : (updTrough k f s).poison = s.poison := rfl
@[simp] theorem updTrough_keptPins (k : Nat) (f : Trough → Trough) (s : State) : (updTrough k f s).keptPins = s.keptPins := rfl
@[simp] theorem updTrough_draws (k : Nat) (f : Trough → Trough) (s : State) : (updTrough k f s).draws = s.draws := rfl
@[simp] theorem updTrough_out (k : Nat) (f : Trough → Trough) (s : State) : (updTrough k f s).out = s.out := rfl
@[simp] theorem updTrough_reacts (k : Nat) (f : Trough → Trough) (s : State) : (updTrough k f s).reacts = s.reacts := rfl
@[simp] theorem updTrough_steps (k : Nat) (f : Trough → Trough) (s : State) : (updTrough k f s).steps = s.steps := rfl
@[simp] theorem updTrough_sdp (k : Nat) (f : Trough → Trough) (s : State) : (updTrough k f s).sdp = s.sdp := rfl
@[simp] theorem updTrough_mbx (k : Nat) (f : Trough → Trough) (s : State) : (updTrough k f s).mbx = s.mbx := rfl
@[simp] theorem updTrough_gates (k : Nat) (f : Trough → Trough) (s : State) : (updTrough k f s).gates = s.gates := rfl
@[simp] theorem updTrough_i2c (k : Nat) (f : Trough → Trough) (s : State) : (updTrough k f s).i2c = s.i2c := rfl
@[simp] theorem updTrough_groom (k : Nat) (f : Trough → Trough) (s : State) : (updTrough k f s).groom = s.groom := rfl
@[simp] theorem updTrough_chains (k : Nat) (f : Trough → Trough) (s : State) : (updTrough k f s).chains = s.chains := rfl
@[simp] theorem updTrough_sieveAt (k : Nat) (f : Trough → Trough) (s : State) : (updTrough k f s).sieveAt = s.sieveAt := rfl
@[simp] theorem updTrough_slots (k : Nat) (f : Trough → Trough) (s : State) : (updTrough k f s).slots = s.slots := rfl
@[simp] theorem updTrough_yards (k : Nat) (f : Trough → Trough) (s : State) : (updTrough k f s).yards = s.yards := rfl
@[simp] theorem updTrough_stalls (k : Nat) (f : Trough → Trough) (s : State) : (updTrough k f s).stalls = s.stalls := rfl
@[simp] theorem updTrough_halos (k : Nat) (f : Trough → Trough) (s : State) : (updTrough k f s).halos = s.halos := rfl
@[simp] theorem updTrough_lists (k : Nat) (f : Trough → Trough) (s : State) : (updTrough k f s).lists = s.lists := rfl
@[simp] theorem updTrough_paddock (k : Nat) (f : Trough → Trough) (s : State) : (updTrough k f s).paddock = s.paddock := rfl
@[simp] theorem updTrough_hold (k : Nat) (f : Trough → Trough) (s : State) : (updTrough k f s).hold = s.hold := rfl
@[simp] theorem updTrough_troughResetting (k : Nat) (f : Trough → Trough) (s : State) : (updTrough k f s).troughResetting = s.troughResetting := rfl
@[simp] theorem updTrough_chans (k : Nat) (f : Trough → Trough) (s : State) : (updTrough k f s).chans = s.chans := rfl
@[simp] theorem updTrough_engines (k : Nat) (f : Trough → Trough) (s : State) : (updTrough k f s).engines = s.engines := rfl
@[simp] theorem updTrough_memctl (k : Nat) (f : Trough → Trough) (s : State) : (updTrough k f s).memctl = s.memctl := rfl
@[simp] theorem updTrough_host (k : Nat) (f : Trough → Trough) (s : State) : (updTrough k f s).host = s.host := rfl
@[simp] theorem updTrough_time (k : Nat) (f : Trough → Trough) (s : State) : (updTrough k f s).time = s.time := rfl
@[simp] theorem updTrough_ptp (k : Nat) (f : Trough → Trough) (s : State) : (updTrough k f s).ptp = s.ptp := rfl
@[simp] theorem updTrough_net (k : Nat) (f : Trough → Trough) (s : State) : (updTrough k f s).net = s.net := rfl
@[simp] theorem updTrough_power (k : Nat) (f : Trough → Trough) (s : State) : (updTrough k f s).power = s.power := rfl
@[simp] theorem updTrough_supply (k : Nat) (f : Trough → Trough) (s : State) : (updTrough k f s).supply = s.supply := rfl
@[simp] theorem updTrough_boot (k : Nat) (f : Trough → Trough) (s : State) : (updTrough k f s).boot = s.boot := rfl
@[simp] theorem updTrough_muck (k : Nat) (f : Trough → Trough) (s : State) : (updTrough k f s).muck = s.muck := rfl
@[simp] theorem updTrough_pending (k : Nat) (f : Trough → Trough) (s : State) : (updTrough k f s).pending = s.pending := rfl
@[simp] theorem updTrough_same (k : Nat) (f : Trough → Trough) (s : State) : (updTrough k f s).trough k = f (s.trough k) := sget_supd_same ..
theorem updTrough_ne {k k' : Nat} (f : Trough → Trough) (s : State) (h : k ≠ k') : (updTrough k f s).trough k' = s.trough k' :=
  sget_supd_ne _ _ _ h

/-! ### `updChan` -/

@[simp] theorem updChan_now (k : Nat) (f : Chan → Chan) (s : State) : (updChan k f s).now = s.now := rfl
@[simp] theorem updChan_dict (k : Nat) (f : Chan → Chan) (s : State) : (updChan k f s).dict = s.dict := rfl
@[simp] theorem updChan_pairs (k : Nat) (f : Chan → Chan) (s : State) : (updChan k f s).pairs = s.pairs := rfl
@[simp] theorem updChan_mem (k : Nat) (f : Chan → Chan) (s : State) : (updChan k f s).mem = s.mem := rfl
@[simp] theorem updChan_poison (k : Nat) (f : Chan → Chan) (s : State) : (updChan k f s).poison = s.poison := rfl
@[simp] theorem updChan_keptPins (k : Nat) (f : Chan → Chan) (s : State) : (updChan k f s).keptPins = s.keptPins := rfl
@[simp] theorem updChan_draws (k : Nat) (f : Chan → Chan) (s : State) : (updChan k f s).draws = s.draws := rfl
@[simp] theorem updChan_out (k : Nat) (f : Chan → Chan) (s : State) : (updChan k f s).out = s.out := rfl
@[simp] theorem updChan_reacts (k : Nat) (f : Chan → Chan) (s : State) : (updChan k f s).reacts = s.reacts := rfl
@[simp] theorem updChan_steps (k : Nat) (f : Chan → Chan) (s : State) : (updChan k f s).steps = s.steps := rfl
@[simp] theorem updChan_sdp (k : Nat) (f : Chan → Chan) (s : State) : (updChan k f s).sdp = s.sdp := rfl
@[simp] theorem updChan_mbx (k : Nat) (f : Chan → Chan) (s : State) : (updChan k f s).mbx = s.mbx := rfl
@[simp] theorem updChan_gates (k : Nat) (f : Chan → Chan) (s : State) : (updChan k f s).gates = s.gates := rfl
@[simp] theorem updChan_i2c (k : Nat) (f : Chan → Chan) (s : State) : (updChan k f s).i2c = s.i2c := rfl
@[simp] theorem updChan_groom (k : Nat) (f : Chan → Chan) (s : State) : (updChan k f s).groom = s.groom := rfl
@[simp] theorem updChan_chains (k : Nat) (f : Chan → Chan) (s : State) : (updChan k f s).chains = s.chains := rfl
@[simp] theorem updChan_sieveAt (k : Nat) (f : Chan → Chan) (s : State) : (updChan k f s).sieveAt = s.sieveAt := rfl
@[simp] theorem updChan_slots (k : Nat) (f : Chan → Chan) (s : State) : (updChan k f s).slots = s.slots := rfl
@[simp] theorem updChan_yards (k : Nat) (f : Chan → Chan) (s : State) : (updChan k f s).yards = s.yards := rfl
@[simp] theorem updChan_stalls (k : Nat) (f : Chan → Chan) (s : State) : (updChan k f s).stalls = s.stalls := rfl
@[simp] theorem updChan_halos (k : Nat) (f : Chan → Chan) (s : State) : (updChan k f s).halos = s.halos := rfl
@[simp] theorem updChan_lists (k : Nat) (f : Chan → Chan) (s : State) : (updChan k f s).lists = s.lists := rfl
@[simp] theorem updChan_paddock (k : Nat) (f : Chan → Chan) (s : State) : (updChan k f s).paddock = s.paddock := rfl
@[simp] theorem updChan_hold (k : Nat) (f : Chan → Chan) (s : State) : (updChan k f s).hold = s.hold := rfl
@[simp] theorem updChan_troughs (k : Nat) (f : Chan → Chan) (s : State) : (updChan k f s).troughs = s.troughs := rfl
@[simp] theorem updChan_troughResetting (k : Nat) (f : Chan → Chan) (s : State) : (updChan k f s).troughResetting = s.troughResetting := rfl
@[simp] theorem updChan_engines (k : Nat) (f : Chan → Chan) (s : State) : (updChan k f s).engines = s.engines := rfl
@[simp] theorem updChan_memctl (k : Nat) (f : Chan → Chan) (s : State) : (updChan k f s).memctl = s.memctl := rfl
@[simp] theorem updChan_host (k : Nat) (f : Chan → Chan) (s : State) : (updChan k f s).host = s.host := rfl
@[simp] theorem updChan_time (k : Nat) (f : Chan → Chan) (s : State) : (updChan k f s).time = s.time := rfl
@[simp] theorem updChan_ptp (k : Nat) (f : Chan → Chan) (s : State) : (updChan k f s).ptp = s.ptp := rfl
@[simp] theorem updChan_net (k : Nat) (f : Chan → Chan) (s : State) : (updChan k f s).net = s.net := rfl
@[simp] theorem updChan_power (k : Nat) (f : Chan → Chan) (s : State) : (updChan k f s).power = s.power := rfl
@[simp] theorem updChan_supply (k : Nat) (f : Chan → Chan) (s : State) : (updChan k f s).supply = s.supply := rfl
@[simp] theorem updChan_boot (k : Nat) (f : Chan → Chan) (s : State) : (updChan k f s).boot = s.boot := rfl
@[simp] theorem updChan_muck (k : Nat) (f : Chan → Chan) (s : State) : (updChan k f s).muck = s.muck := rfl
@[simp] theorem updChan_pending (k : Nat) (f : Chan → Chan) (s : State) : (updChan k f s).pending = s.pending := rfl
@[simp] theorem updChan_same (k : Nat) (f : Chan → Chan) (s : State) : (updChan k f s).chan k = f (s.chan k) := sget_supd_same ..
theorem updChan_ne {k k' : Nat} (f : Chan → Chan) (s : State) (h : k ≠ k') : (updChan k f s).chan k' = s.chan k' :=
  sget_supd_ne _ _ _ h

/-! ### `updEngine` -/

@[simp] theorem updEngine_now (k : Nat) (f : Engine → Engine) (s : State) : (updEngine k f s).now = s.now := rfl
@[simp] theorem updEngine_dict (k : Nat) (f : Engine → Engine) (s : State) : (updEngine k f s).dict = s.dict := rfl
@[simp] theorem updEngine_pairs (k : Nat) (f : Engine → Engine) (s : State) : (updEngine k f s).pairs = s.pairs := rfl
@[simp] theorem updEngine_mem (k : Nat) (f : Engine → Engine) (s : State) : (updEngine k f s).mem = s.mem := rfl
@[simp] theorem updEngine_poison (k : Nat) (f : Engine → Engine) (s : State) : (updEngine k f s).poison = s.poison := rfl
@[simp] theorem updEngine_keptPins (k : Nat) (f : Engine → Engine) (s : State) : (updEngine k f s).keptPins = s.keptPins := rfl
@[simp] theorem updEngine_draws (k : Nat) (f : Engine → Engine) (s : State) : (updEngine k f s).draws = s.draws := rfl
@[simp] theorem updEngine_out (k : Nat) (f : Engine → Engine) (s : State) : (updEngine k f s).out = s.out := rfl
@[simp] theorem updEngine_reacts (k : Nat) (f : Engine → Engine) (s : State) : (updEngine k f s).reacts = s.reacts := rfl
@[simp] theorem updEngine_steps (k : Nat) (f : Engine → Engine) (s : State) : (updEngine k f s).steps = s.steps := rfl
@[simp] theorem updEngine_sdp (k : Nat) (f : Engine → Engine) (s : State) : (updEngine k f s).sdp = s.sdp := rfl
@[simp] theorem updEngine_mbx (k : Nat) (f : Engine → Engine) (s : State) : (updEngine k f s).mbx = s.mbx := rfl
@[simp] theorem updEngine_gates (k : Nat) (f : Engine → Engine) (s : State) : (updEngine k f s).gates = s.gates := rfl
@[simp] theorem updEngine_i2c (k : Nat) (f : Engine → Engine) (s : State) : (updEngine k f s).i2c = s.i2c := rfl
@[simp] theorem updEngine_groom (k : Nat) (f : Engine → Engine) (s : State) : (updEngine k f s).groom = s.groom := rfl
@[simp] theorem updEngine_chains (k : Nat) (f : Engine → Engine) (s : State) : (updEngine k f s).chains = s.chains := rfl
@[simp] theorem updEngine_sieveAt (k : Nat) (f : Engine → Engine) (s : State) : (updEngine k f s).sieveAt = s.sieveAt := rfl
@[simp] theorem updEngine_slots (k : Nat) (f : Engine → Engine) (s : State) : (updEngine k f s).slots = s.slots := rfl
@[simp] theorem updEngine_yards (k : Nat) (f : Engine → Engine) (s : State) : (updEngine k f s).yards = s.yards := rfl
@[simp] theorem updEngine_stalls (k : Nat) (f : Engine → Engine) (s : State) : (updEngine k f s).stalls = s.stalls := rfl
@[simp] theorem updEngine_halos (k : Nat) (f : Engine → Engine) (s : State) : (updEngine k f s).halos = s.halos := rfl
@[simp] theorem updEngine_lists (k : Nat) (f : Engine → Engine) (s : State) : (updEngine k f s).lists = s.lists := rfl
@[simp] theorem updEngine_paddock (k : Nat) (f : Engine → Engine) (s : State) : (updEngine k f s).paddock = s.paddock := rfl
@[simp] theorem updEngine_hold (k : Nat) (f : Engine → Engine) (s : State) : (updEngine k f s).hold = s.hold := rfl
@[simp] theorem updEngine_troughs (k : Nat) (f : Engine → Engine) (s : State) : (updEngine k f s).troughs = s.troughs := rfl
@[simp] theorem updEngine_troughResetting (k : Nat) (f : Engine → Engine) (s : State) : (updEngine k f s).troughResetting = s.troughResetting := rfl
@[simp] theorem updEngine_chans (k : Nat) (f : Engine → Engine) (s : State) : (updEngine k f s).chans = s.chans := rfl
@[simp] theorem updEngine_memctl (k : Nat) (f : Engine → Engine) (s : State) : (updEngine k f s).memctl = s.memctl := rfl
@[simp] theorem updEngine_host (k : Nat) (f : Engine → Engine) (s : State) : (updEngine k f s).host = s.host := rfl
@[simp] theorem updEngine_time (k : Nat) (f : Engine → Engine) (s : State) : (updEngine k f s).time = s.time := rfl
@[simp] theorem updEngine_ptp (k : Nat) (f : Engine → Engine) (s : State) : (updEngine k f s).ptp = s.ptp := rfl
@[simp] theorem updEngine_net (k : Nat) (f : Engine → Engine) (s : State) : (updEngine k f s).net = s.net := rfl
@[simp] theorem updEngine_power (k : Nat) (f : Engine → Engine) (s : State) : (updEngine k f s).power = s.power := rfl
@[simp] theorem updEngine_supply (k : Nat) (f : Engine → Engine) (s : State) : (updEngine k f s).supply = s.supply := rfl
@[simp] theorem updEngine_boot (k : Nat) (f : Engine → Engine) (s : State) : (updEngine k f s).boot = s.boot := rfl
@[simp] theorem updEngine_muck (k : Nat) (f : Engine → Engine) (s : State) : (updEngine k f s).muck = s.muck := rfl
@[simp] theorem updEngine_pending (k : Nat) (f : Engine → Engine) (s : State) : (updEngine k f s).pending = s.pending := rfl
@[simp] theorem updEngine_same (k : Nat) (f : Engine → Engine) (s : State) : (updEngine k f s).engine k = f (s.engine k) := sget_supd_same ..
theorem updEngine_ne {k k' : Nat} (f : Engine → Engine) (s : State) (h : k ≠ k') : (updEngine k f s).engine k' = s.engine k' :=
  sget_supd_ne _ _ _ h

/-! ### `updDomain` -/

@[simp] theorem updDomain_now (k : Nat) (f : Domain → Domain) (s : State) : (updDomain k f s).now = s.now := rfl
@[simp] theorem updDomain_dict (k : Nat) (f : Domain → Domain) (s : State) : (updDomain k f s).dict = s.dict := rfl
@[simp] theorem updDomain_pairs (k : Nat) (f : Domain → Domain) (s : State) : (updDomain k f s).pairs = s.pairs := rfl
@[simp] theorem updDomain_mem (k : Nat) (f : Domain → Domain) (s : State) : (updDomain k f s).mem = s.mem := rfl
@[simp] theorem updDomain_poison (k : Nat) (f : Domain → Domain) (s : State) : (updDomain k f s).poison = s.poison := rfl
@[simp] theorem updDomain_keptPins (k : Nat) (f : Domain → Domain) (s : State) : (updDomain k f s).keptPins = s.keptPins := rfl
@[simp] theorem updDomain_draws (k : Nat) (f : Domain → Domain) (s : State) : (updDomain k f s).draws = s.draws := rfl
@[simp] theorem updDomain_out (k : Nat) (f : Domain → Domain) (s : State) : (updDomain k f s).out = s.out := rfl
@[simp] theorem updDomain_reacts (k : Nat) (f : Domain → Domain) (s : State) : (updDomain k f s).reacts = s.reacts := rfl
@[simp] theorem updDomain_steps (k : Nat) (f : Domain → Domain) (s : State) : (updDomain k f s).steps = s.steps := rfl
@[simp] theorem updDomain_sdp (k : Nat) (f : Domain → Domain) (s : State) : (updDomain k f s).sdp = s.sdp := rfl
@[simp] theorem updDomain_mbx (k : Nat) (f : Domain → Domain) (s : State) : (updDomain k f s).mbx = s.mbx := rfl
@[simp] theorem updDomain_gates (k : Nat) (f : Domain → Domain) (s : State) : (updDomain k f s).gates = s.gates := rfl
@[simp] theorem updDomain_i2c (k : Nat) (f : Domain → Domain) (s : State) : (updDomain k f s).i2c = s.i2c := rfl
@[simp] theorem updDomain_groom (k : Nat) (f : Domain → Domain) (s : State) : (updDomain k f s).groom = s.groom := rfl
@[simp] theorem updDomain_chains (k : Nat) (f : Domain → Domain) (s : State) : (updDomain k f s).chains = s.chains := rfl
@[simp] theorem updDomain_sieveAt (k : Nat) (f : Domain → Domain) (s : State) : (updDomain k f s).sieveAt = s.sieveAt := rfl
@[simp] theorem updDomain_slots (k : Nat) (f : Domain → Domain) (s : State) : (updDomain k f s).slots = s.slots := rfl
@[simp] theorem updDomain_yards (k : Nat) (f : Domain → Domain) (s : State) : (updDomain k f s).yards = s.yards := rfl
@[simp] theorem updDomain_stalls (k : Nat) (f : Domain → Domain) (s : State) : (updDomain k f s).stalls = s.stalls := rfl
@[simp] theorem updDomain_halos (k : Nat) (f : Domain → Domain) (s : State) : (updDomain k f s).halos = s.halos := rfl
@[simp] theorem updDomain_lists (k : Nat) (f : Domain → Domain) (s : State) : (updDomain k f s).lists = s.lists := rfl
@[simp] theorem updDomain_paddock (k : Nat) (f : Domain → Domain) (s : State) : (updDomain k f s).paddock = s.paddock := rfl
@[simp] theorem updDomain_hold (k : Nat) (f : Domain → Domain) (s : State) : (updDomain k f s).hold = s.hold := rfl
@[simp] theorem updDomain_troughs (k : Nat) (f : Domain → Domain) (s : State) : (updDomain k f s).troughs = s.troughs := rfl
@[simp] theorem updDomain_troughResetting (k : Nat) (f : Domain → Domain) (s : State) : (updDomain k f s).troughResetting = s.troughResetting := rfl
@[simp] theorem updDomain_chans (k : Nat) (f : Domain → Domain) (s : State) : (updDomain k f s).chans = s.chans := rfl
@[simp] theorem updDomain_engines (k : Nat) (f : Domain → Domain) (s : State) : (updDomain k f s).engines = s.engines := rfl
@[simp] theorem updDomain_memctl (k : Nat) (f : Domain → Domain) (s : State) : (updDomain k f s).memctl = s.memctl := rfl
@[simp] theorem updDomain_host (k : Nat) (f : Domain → Domain) (s : State) : (updDomain k f s).host = s.host := rfl
@[simp] theorem updDomain_time (k : Nat) (f : Domain → Domain) (s : State) : (updDomain k f s).time = s.time := rfl
@[simp] theorem updDomain_ptp (k : Nat) (f : Domain → Domain) (s : State) : (updDomain k f s).ptp = s.ptp := rfl
@[simp] theorem updDomain_net (k : Nat) (f : Domain → Domain) (s : State) : (updDomain k f s).net = s.net := rfl
@[simp] theorem updDomain_supply (k : Nat) (f : Domain → Domain) (s : State) : (updDomain k f s).supply = s.supply := rfl
@[simp] theorem updDomain_boot (k : Nat) (f : Domain → Domain) (s : State) : (updDomain k f s).boot = s.boot := rfl
@[simp] theorem updDomain_muck (k : Nat) (f : Domain → Domain) (s : State) : (updDomain k f s).muck = s.muck := rfl
@[simp] theorem updDomain_pending (k : Nat) (f : Domain → Domain) (s : State) : (updDomain k f s).pending = s.pending := rfl
@[simp] theorem updDomain_same (k : Nat) (f : Domain → Domain) (s : State) : (updDomain k f s).domain k = f (s.domain k) := sget_supd_same ..
theorem updDomain_ne {k k' : Nat} (f : Domain → Domain) (s : State) (h : k ≠ k') : (updDomain k f s).domain k' = s.domain k' :=
  sget_supd_ne _ _ _ h

/-! ### `updTout` -/

@[simp] theorem updTout_now (k : Nat) (f : Tout → Tout) (s : State) : (updTout k f s).now = s.now := rfl
@[simp] theorem updTout_dict (k : Nat) (f : Tout → Tout) (s : State) : (updTout k f s).dict = s.dict := rfl
@[simp] theorem updTout_pairs (k : Nat) (f : Tout → Tout) (s : State) : (updTout k f s).pairs = s.pairs := rfl
@[simp] theorem updTout_mem (k : Nat) (f : Tout → Tout) (s : State) : (updTout k f s).mem = s.mem := rfl
@[simp] theorem updTout_poison (k : Nat) (f : Tout → Tout) (s : State) : (updTout k f s).poison = s.poison := rfl
@[simp] theorem updTout_keptPins (k : Nat) (f : Tout → Tout) (s : State) : (updTout k f s).keptPins = s.keptPins := rfl
@[simp] theorem updTout_draws (k : Nat) (f : Tout → Tout) (s : State) : (updTout k f s).draws = s.draws := rfl
@[simp] theorem updTout_out (k : Nat) (f : Tout → Tout) (s : State) : (updTout k f s).out = s.out := rfl
@[simp] theorem updTout_reacts (k : Nat) (f : Tout → Tout) (s : State) : (updTout k f s).reacts = s.reacts := rfl
@[simp] theorem updTout_steps (k : Nat) (f : Tout → Tout) (s : State) : (updTout k f s).steps = s.steps := rfl
@[simp] theorem updTout_sdp (k : Nat) (f : Tout → Tout) (s : State) : (updTout k f s).sdp = s.sdp := rfl
@[simp] theorem updTout_mbx (k : Nat) (f : Tout → Tout) (s : State) : (updTout k f s).mbx = s.mbx := rfl
@[simp] theorem updTout_gates (k : Nat) (f : Tout → Tout) (s : State) : (updTout k f s).gates = s.gates := rfl
@[simp] theorem updTout_i2c (k : Nat) (f : Tout → Tout) (s : State) : (updTout k f s).i2c = s.i2c := rfl
@[simp] theorem updTout_groom (k : Nat) (f : Tout → Tout) (s : State) : (updTout k f s).groom = s.groom := rfl
@[simp] theorem updTout_chains (k : Nat) (f : Tout → Tout) (s : State) : (updTout k f s).chains = s.chains := rfl
@[simp] theorem updTout_sieveAt (k : Nat) (f : Tout → Tout) (s : State) : (updTout k f s).sieveAt = s.sieveAt := rfl
@[simp] theorem updTout_slots (k : Nat) (f : Tout → Tout) (s : State) : (updTout k f s).slots = s.slots := rfl
@[simp] theorem updTout_yards (k : Nat) (f : Tout → Tout) (s : State) : (updTout k f s).yards = s.yards := rfl
@[simp] theorem updTout_stalls (k : Nat) (f : Tout → Tout) (s : State) : (updTout k f s).stalls = s.stalls := rfl
@[simp] theorem updTout_halos (k : Nat) (f : Tout → Tout) (s : State) : (updTout k f s).halos = s.halos := rfl
@[simp] theorem updTout_lists (k : Nat) (f : Tout → Tout) (s : State) : (updTout k f s).lists = s.lists := rfl
@[simp] theorem updTout_paddock (k : Nat) (f : Tout → Tout) (s : State) : (updTout k f s).paddock = s.paddock := rfl
@[simp] theorem updTout_hold (k : Nat) (f : Tout → Tout) (s : State) : (updTout k f s).hold = s.hold := rfl
@[simp] theorem updTout_troughs (k : Nat) (f : Tout → Tout) (s : State) : (updTout k f s).troughs = s.troughs := rfl
@[simp] theorem updTout_troughResetting (k : Nat) (f : Tout → Tout) (s : State) : (updTout k f s).troughResetting = s.troughResetting := rfl
@[simp] theorem updTout_chans (k : Nat) (f : Tout → Tout) (s : State) : (updTout k f s).chans = s.chans := rfl
@[simp] theorem updTout_engines (k : Nat) (f : Tout → Tout) (s : State) : (updTout k f s).engines = s.engines := rfl
@[simp] theorem updTout_memctl (k : Nat) (f : Tout → Tout) (s : State) : (updTout k f s).memctl = s.memctl := rfl
@[simp] theorem updTout_host (k : Nat) (f : Tout → Tout) (s : State) : (updTout k f s).host = s.host := rfl
@[simp] theorem updTout_ptp (k : Nat) (f : Tout → Tout) (s : State) : (updTout k f s).ptp = s.ptp := rfl
@[simp] theorem updTout_net (k : Nat) (f : Tout → Tout) (s : State) : (updTout k f s).net = s.net := rfl
@[simp] theorem updTout_power (k : Nat) (f : Tout → Tout) (s : State) : (updTout k f s).power = s.power := rfl
@[simp] theorem updTout_supply (k : Nat) (f : Tout → Tout) (s : State) : (updTout k f s).supply = s.supply := rfl
@[simp] theorem updTout_boot (k : Nat) (f : Tout → Tout) (s : State) : (updTout k f s).boot = s.boot := rfl
@[simp] theorem updTout_muck (k : Nat) (f : Tout → Tout) (s : State) : (updTout k f s).muck = s.muck := rfl
@[simp] theorem updTout_pending (k : Nat) (f : Tout → Tout) (s : State) : (updTout k f s).pending = s.pending := rfl
@[simp] theorem updTout_same (k : Nat) (f : Tout → Tout) (s : State) : (updTout k f s).tout k = f (s.tout k) := sget_supd_same ..
theorem updTout_ne {k k' : Nat} (f : Tout → Tout) (s : State) (h : k ≠ k') : (updTout k f s).tout k' = s.tout k' :=
  sget_supd_ne _ _ _ h

/-! ### `updPeer` -/

@[simp] theorem updPeer_now (k : Nat) (f : Peer → Peer) (s : State) : (updPeer k f s).now = s.now := rfl
@[simp] theorem updPeer_dict (k : Nat) (f : Peer → Peer) (s : State) : (updPeer k f s).dict = s.dict := rfl
@[simp] theorem updPeer_pairs (k : Nat) (f : Peer → Peer) (s : State) : (updPeer k f s).pairs = s.pairs := rfl
@[simp] theorem updPeer_mem (k : Nat) (f : Peer → Peer) (s : State) : (updPeer k f s).mem = s.mem := rfl
@[simp] theorem updPeer_poison (k : Nat) (f : Peer → Peer) (s : State) : (updPeer k f s).poison = s.poison := rfl
@[simp] theorem updPeer_keptPins (k : Nat) (f : Peer → Peer) (s : State) : (updPeer k f s).keptPins = s.keptPins := rfl
@[simp] theorem updPeer_draws (k : Nat) (f : Peer → Peer) (s : State) : (updPeer k f s).draws = s.draws := rfl
@[simp] theorem updPeer_out (k : Nat) (f : Peer → Peer) (s : State) : (updPeer k f s).out = s.out := rfl
@[simp] theorem updPeer_reacts (k : Nat) (f : Peer → Peer) (s : State) : (updPeer k f s).reacts = s.reacts := rfl
@[simp] theorem updPeer_steps (k : Nat) (f : Peer → Peer) (s : State) : (updPeer k f s).steps = s.steps := rfl
@[simp] theorem updPeer_sdp (k : Nat) (f : Peer → Peer) (s : State) : (updPeer k f s).sdp = s.sdp := rfl
@[simp] theorem updPeer_mbx (k : Nat) (f : Peer → Peer) (s : State) : (updPeer k f s).mbx = s.mbx := rfl
@[simp] theorem updPeer_gates (k : Nat) (f : Peer → Peer) (s : State) : (updPeer k f s).gates = s.gates := rfl
@[simp] theorem updPeer_i2c (k : Nat) (f : Peer → Peer) (s : State) : (updPeer k f s).i2c = s.i2c := rfl
@[simp] theorem updPeer_groom (k : Nat) (f : Peer → Peer) (s : State) : (updPeer k f s).groom = s.groom := rfl
@[simp] theorem updPeer_chains (k : Nat) (f : Peer → Peer) (s : State) : (updPeer k f s).chains = s.chains := rfl
@[simp] theorem updPeer_sieveAt (k : Nat) (f : Peer → Peer) (s : State) : (updPeer k f s).sieveAt = s.sieveAt := rfl
@[simp] theorem updPeer_slots (k : Nat) (f : Peer → Peer) (s : State) : (updPeer k f s).slots = s.slots := rfl
@[simp] theorem updPeer_yards (k : Nat) (f : Peer → Peer) (s : State) : (updPeer k f s).yards = s.yards := rfl
@[simp] theorem updPeer_stalls (k : Nat) (f : Peer → Peer) (s : State) : (updPeer k f s).stalls = s.stalls := rfl
@[simp] theorem updPeer_halos (k : Nat) (f : Peer → Peer) (s : State) : (updPeer k f s).halos = s.halos := rfl
@[simp] theorem updPeer_lists (k : Nat) (f : Peer → Peer) (s : State) : (updPeer k f s).lists = s.lists := rfl
@[simp] theorem updPeer_paddock (k : Nat) (f : Peer → Peer) (s : State) : (updPeer k f s).paddock = s.paddock := rfl
@[simp] theorem updPeer_hold (k : Nat) (f : Peer → Peer) (s : State) : (updPeer k f s).hold = s.hold := rfl
@[simp] theorem updPeer_troughs (k : Nat) (f : Peer → Peer) (s : State) : (updPeer k f s).troughs = s.troughs := rfl
@[simp] theorem updPeer_troughResetting (k : Nat) (f : Peer → Peer) (s : State) : (updPeer k f s).troughResetting = s.troughResetting := rfl
@[simp] theorem updPeer_chans (k : Nat) (f : Peer → Peer) (s : State) : (updPeer k f s).chans = s.chans := rfl
@[simp] theorem updPeer_engines (k : Nat) (f : Peer → Peer) (s : State) : (updPeer k f s).engines = s.engines := rfl
@[simp] theorem updPeer_memctl (k : Nat) (f : Peer → Peer) (s : State) : (updPeer k f s).memctl = s.memctl := rfl
@[simp] theorem updPeer_host (k : Nat) (f : Peer → Peer) (s : State) : (updPeer k f s).host = s.host := rfl
@[simp] theorem updPeer_time (k : Nat) (f : Peer → Peer) (s : State) : (updPeer k f s).time = s.time := rfl
@[simp] theorem updPeer_ptp (k : Nat) (f : Peer → Peer) (s : State) : (updPeer k f s).ptp = s.ptp := rfl
@[simp] theorem updPeer_power (k : Nat) (f : Peer → Peer) (s : State) : (updPeer k f s).power = s.power := rfl
@[simp] theorem updPeer_supply (k : Nat) (f : Peer → Peer) (s : State) : (updPeer k f s).supply = s.supply := rfl
@[simp] theorem updPeer_boot (k : Nat) (f : Peer → Peer) (s : State) : (updPeer k f s).boot = s.boot := rfl
@[simp] theorem updPeer_muck (k : Nat) (f : Peer → Peer) (s : State) : (updPeer k f s).muck = s.muck := rfl
@[simp] theorem updPeer_pending (k : Nat) (f : Peer → Peer) (s : State) : (updPeer k f s).pending = s.pending := rfl
@[simp] theorem updPeer_same (k : Nat) (f : Peer → Peer) (s : State) : (updPeer k f s).peer k = f (s.peer k) := sget_supd_same ..
theorem updPeer_ne {k k' : Nat} (f : Peer → Peer) (s : State) (h : k ≠ k') : (updPeer k f s).peer k' = s.peer k' :=
  sget_supd_ne _ _ _ h

/-! ### `updMuck` -/

@[simp] theorem updMuck_now (k : Nat) (f : MuckUnit → MuckUnit) (s : State) : (updMuck k f s).now = s.now := rfl
@[simp] theorem updMuck_dict (k : Nat) (f : MuckUnit → MuckUnit) (s : State) : (updMuck k f s).dict = s.dict := rfl
@[simp] theorem updMuck_pairs (k : Nat) (f : MuckUnit → MuckUnit) (s : State) : (updMuck k f s).pairs = s.pairs := rfl
@[simp] theorem updMuck_mem (k : Nat) (f : MuckUnit → MuckUnit) (s : State) : (updMuck k f s).mem = s.mem := rfl
@[simp] theorem updMuck_poison (k : Nat) (f : MuckUnit → MuckUnit) (s : State) : (updMuck k f s).poison = s.poison := rfl
@[simp] theorem updMuck_keptPins (k : Nat) (f : MuckUnit → MuckUnit) (s : State) : (updMuck k f s).keptPins = s.keptPins := rfl
@[simp] theorem updMuck_draws (k : Nat) (f : MuckUnit → MuckUnit) (s : State) : (updMuck k f s).draws = s.draws := rfl
@[simp] theorem updMuck_out (k : Nat) (f : MuckUnit → MuckUnit) (s : State) : (updMuck k f s).out = s.out := rfl
@[simp] theorem updMuck_reacts (k : Nat) (f : MuckUnit → MuckUnit) (s : State) : (updMuck k f s).reacts = s.reacts := rfl
@[simp] theorem updMuck_steps (k : Nat) (f : MuckUnit → MuckUnit) (s : State) : (updMuck k f s).steps = s.steps := rfl
@[simp] theorem updMuck_sdp (k : Nat) (f : MuckUnit → MuckUnit) (s : State) : (updMuck k f s).sdp = s.sdp := rfl
@[simp] theorem updMuck_mbx (k : Nat) (f : MuckUnit → MuckUnit) (s : State) : (updMuck k f s).mbx = s.mbx := rfl
@[simp] theorem updMuck_gates (k : Nat) (f : MuckUnit → MuckUnit) (s : State) : (updMuck k f s).gates = s.gates := rfl
@[simp] theorem updMuck_i2c (k : Nat) (f : MuckUnit → MuckUnit) (s : State) : (updMuck k f s).i2c = s.i2c := rfl
@[simp] theorem updMuck_groom (k : Nat) (f : MuckUnit → MuckUnit) (s : State) : (updMuck k f s).groom = s.groom := rfl
@[simp] theorem updMuck_chains (k : Nat) (f : MuckUnit → MuckUnit) (s : State) : (updMuck k f s).chains = s.chains := rfl
@[simp] theorem updMuck_sieveAt (k : Nat) (f : MuckUnit → MuckUnit) (s : State) : (updMuck k f s).sieveAt = s.sieveAt := rfl
@[simp] theorem updMuck_slots (k : Nat) (f : MuckUnit → MuckUnit) (s : State) : (updMuck k f s).slots = s.slots := rfl
@[simp] theorem updMuck_yards (k : Nat) (f : MuckUnit → MuckUnit) (s : State) : (updMuck k f s).yards = s.yards := rfl
@[simp] theorem updMuck_stalls (k : Nat) (f : MuckUnit → MuckUnit) (s : State) : (updMuck k f s).stalls = s.stalls := rfl
@[simp] theorem updMuck_halos (k : Nat) (f : MuckUnit → MuckUnit) (s : State) : (updMuck k f s).halos = s.halos := rfl
@[simp] theorem updMuck_lists (k : Nat) (f : MuckUnit → MuckUnit) (s : State) : (updMuck k f s).lists = s.lists := rfl
@[simp] theorem updMuck_paddock (k : Nat) (f : MuckUnit → MuckUnit) (s : State) : (updMuck k f s).paddock = s.paddock := rfl
@[simp] theorem updMuck_hold (k : Nat) (f : MuckUnit → MuckUnit) (s : State) : (updMuck k f s).hold = s.hold := rfl
@[simp] theorem updMuck_troughs (k : Nat) (f : MuckUnit → MuckUnit) (s : State) : (updMuck k f s).troughs = s.troughs := rfl
@[simp] theorem updMuck_troughResetting (k : Nat) (f : MuckUnit → MuckUnit) (s : State) : (updMuck k f s).troughResetting = s.troughResetting := rfl
@[simp] theorem updMuck_chans (k : Nat) (f : MuckUnit → MuckUnit) (s : State) : (updMuck k f s).chans = s.chans := rfl
@[simp] theorem updMuck_engines (k : Nat) (f : MuckUnit → MuckUnit) (s : State) : (updMuck k f s).engines = s.engines := rfl
@[simp] theorem updMuck_memctl (k : Nat) (f : MuckUnit → MuckUnit) (s : State) : (updMuck k f s).memctl = s.memctl := rfl
@[simp] theorem updMuck_host (k : Nat) (f : MuckUnit → MuckUnit) (s : State) : (updMuck k f s).host = s.host := rfl
@[simp] theorem updMuck_time (k : Nat) (f : MuckUnit → MuckUnit) (s : State) : (updMuck k f s).time = s.time := rfl
@[simp] theorem updMuck_ptp (k : Nat) (f : MuckUnit → MuckUnit) (s : State) : (updMuck k f s).ptp = s.ptp := rfl
@[simp] theorem updMuck_net (k : Nat) (f : MuckUnit → MuckUnit) (s : State) : (updMuck k f s).net = s.net := rfl
@[simp] theorem updMuck_power (k : Nat) (f : MuckUnit → MuckUnit) (s : State) : (updMuck k f s).power = s.power := rfl
@[simp] theorem updMuck_supply (k : Nat) (f : MuckUnit → MuckUnit) (s : State) : (updMuck k f s).supply = s.supply := rfl
@[simp] theorem updMuck_boot (k : Nat) (f : MuckUnit → MuckUnit) (s : State) : (updMuck k f s).boot = s.boot := rfl
@[simp] theorem updMuck_pending (k : Nat) (f : MuckUnit → MuckUnit) (s : State) : (updMuck k f s).pending = s.pending := rfl
@[simp] theorem updMuck_same (k : Nat) (f : MuckUnit → MuckUnit) (s : State) : (updMuck k f s).muckUnit k = f (s.muckUnit k) := sget_supd_same ..
theorem updMuck_ne {k k' : Nat} (f : MuckUnit → MuckUnit) (s : State) (h : k ≠ k') : (updMuck k f s).muckUnit k' = s.muckUnit k' :=
  sget_supd_ne _ _ _ h

/-! ### `updSdp` -/

@[simp] theorem updSdp_now (f : Sdp → Sdp) (s : State) : (updSdp f s).now = s.now := rfl
@[simp] theorem updSdp_dict (f : Sdp → Sdp) (s : State) : (updSdp f s).dict = s.dict := rfl
@[simp] theorem updSdp_pairs (f : Sdp → Sdp) (s : State) : (updSdp f s).pairs = s.pairs := rfl
@[simp] theorem updSdp_mem (f : Sdp → Sdp) (s : State) : (updSdp f s).mem = s.mem := rfl
@[simp] theorem updSdp_poison (f : Sdp → Sdp) (s : State) : (updSdp f s).poison = s.poison := rfl
@[simp] theorem updSdp_keptPins (f : Sdp → Sdp) (s : State) : (updSdp f s).keptPins = s.keptPins := rfl
@[simp] theorem updSdp_draws (f : Sdp → Sdp) (s : State) : (updSdp f s).draws = s.draws := rfl
@[simp] theorem updSdp_out (f : Sdp → Sdp) (s : State) : (updSdp f s).out = s.out := rfl
@[simp] theorem updSdp_reacts (f : Sdp → Sdp) (s : State) : (updSdp f s).reacts = s.reacts := rfl
@[simp] theorem updSdp_steps (f : Sdp → Sdp) (s : State) : (updSdp f s).steps = s.steps := rfl
@[simp] theorem updSdp_mbx (f : Sdp → Sdp) (s : State) : (updSdp f s).mbx = s.mbx := rfl
@[simp] theorem updSdp_gates (f : Sdp → Sdp) (s : State) : (updSdp f s).gates = s.gates := rfl
@[simp] theorem updSdp_i2c (f : Sdp → Sdp) (s : State) : (updSdp f s).i2c = s.i2c := rfl
@[simp] theorem updSdp_groom (f : Sdp → Sdp) (s : State) : (updSdp f s).groom = s.groom := rfl
@[simp] theorem updSdp_chains (f : Sdp → Sdp) (s : State) : (updSdp f s).chains = s.chains := rfl
@[simp] theorem updSdp_sieveAt (f : Sdp → Sdp) (s : State) : (updSdp f s).sieveAt = s.sieveAt := rfl
@[simp] theorem updSdp_slots (f : Sdp → Sdp) (s : State) : (updSdp f s).slots = s.slots := rfl
@[simp] theorem updSdp_yards (f : Sdp → Sdp) (s : State) : (updSdp f s).yards = s.yards := rfl
@[simp] theorem updSdp_stalls (f : Sdp → Sdp) (s : State) : (updSdp f s).stalls = s.stalls := rfl
@[simp] theorem updSdp_halos (f : Sdp → Sdp) (s : State) : (updSdp f s).halos = s.halos := rfl
@[simp] theorem updSdp_lists (f : Sdp → Sdp) (s : State) : (updSdp f s).lists = s.lists := rfl
@[simp] theorem updSdp_paddock (f : Sdp → Sdp) (s : State) : (updSdp f s).paddock = s.paddock := rfl
@[simp] theorem updSdp_hold (f : Sdp → Sdp) (s : State) : (updSdp f s).hold = s.hold := rfl
@[simp] theorem updSdp_troughs (f : Sdp → Sdp) (s : State) : (updSdp f s).troughs = s.troughs := rfl
@[simp] theorem updSdp_troughResetting (f : Sdp → Sdp) (s : State) : (updSdp f s).troughResetting = s.troughResetting := rfl
@[simp] theorem updSdp_chans (f : Sdp → Sdp) (s : State) : (updSdp f s).chans = s.chans := rfl
@[simp] theorem updSdp_engines (f : Sdp → Sdp) (s : State) : (updSdp f s).engines = s.engines := rfl
@[simp] theorem updSdp_memctl (f : Sdp → Sdp) (s : State) : (updSdp f s).memctl = s.memctl := rfl
@[simp] theorem updSdp_host (f : Sdp → Sdp) (s : State) : (updSdp f s).host = s.host := rfl
@[simp] theorem updSdp_time (f : Sdp → Sdp) (s : State) : (updSdp f s).time = s.time := rfl
@[simp] theorem updSdp_ptp (f : Sdp → Sdp) (s : State) : (updSdp f s).ptp = s.ptp := rfl
@[simp] theorem updSdp_net (f : Sdp → Sdp) (s : State) : (updSdp f s).net = s.net := rfl
@[simp] theorem updSdp_power (f : Sdp → Sdp) (s : State) : (updSdp f s).power = s.power := rfl
@[simp] theorem updSdp_supply (f : Sdp → Sdp) (s : State) : (updSdp f s).supply = s.supply := rfl
@[simp] theorem updSdp_boot (f : Sdp → Sdp) (s : State) : (updSdp f s).boot = s.boot := rfl
@[simp] theorem updSdp_muck (f : Sdp → Sdp) (s : State) : (updSdp f s).muck = s.muck := rfl
@[simp] theorem updSdp_pending (f : Sdp → Sdp) (s : State) : (updSdp f s).pending = s.pending := rfl
@[simp] theorem updSdp_sdp (f : Sdp → Sdp) (s : State) : (updSdp f s).sdp = f s.sdp := rfl

/-! ### `updMbx` -/

@[simp] theorem updMbx_now (f : Mbx → Mbx) (s : State) : (updMbx f s).now = s.now := rfl
@[simp] theorem updMbx_dict (f : Mbx → Mbx) (s : State) : (updMbx f s).dict = s.dict := rfl
@[simp] theorem updMbx_pairs (f : Mbx → Mbx) (s : State) : (updMbx f s).pairs = s.pairs := rfl
@[simp] theorem updMbx_mem (f : Mbx → Mbx) (s : State) : (updMbx f s).mem = s.mem := rfl
@[simp] theorem updMbx_poison (f : Mbx → Mbx) (s : State) : (updMbx f s).poison = s.poison := rfl
@[simp] theorem updMbx_keptPins (f : Mbx → Mbx) (s : State) : (updMbx f s).keptPins = s.keptPins := rfl
@[simp] theorem updMbx_draws (f : Mbx → Mbx) (s : State) : (updMbx f s).draws = s.draws := rfl
@[simp] theorem updMbx_out (f : Mbx → Mbx) (s : State) : (updMbx f s).out = s.out := rfl
@[simp] theorem updMbx_reacts (f : Mbx → Mbx) (s : State) : (updMbx f s).reacts = s.reacts := rfl
@[simp] theorem updMbx_steps (f : Mbx → Mbx) (s : State) : (updMbx f s).steps = s.steps := rfl
@[simp] theorem updMbx_sdp (f : Mbx → Mbx) (s : State) : (updMbx f s).sdp = s.sdp := rfl
@[simp] theorem updMbx_gates (f : Mbx → Mbx) (s : State) : (updMbx f s).gates = s.gates := rfl
@[simp] theorem updMbx_i2c (f : Mbx → Mbx) (s : State) : (updMbx f s).i2c = s.i2c := rfl
@[simp] theorem updMbx_groom (f : Mbx → Mbx) (s : State) : (updMbx f s).groom = s.groom := rfl
@[simp] theorem updMbx_chains (f : Mbx → Mbx) (s : State) : (updMbx f s).chains = s.chains := rfl
@[simp] theorem updMbx_sieveAt (f : Mbx → Mbx) (s : State) : (updMbx f s).sieveAt = s.sieveAt := rfl
@[simp] theorem updMbx_slots (f : Mbx → Mbx) (s : State) : (updMbx f s).slots = s.slots := rfl
@[simp] theorem updMbx_yards (f : Mbx → Mbx) (s : State) : (updMbx f s).yards = s.yards := rfl
@[simp] theorem updMbx_stalls (f : Mbx → Mbx) (s : State) : (updMbx f s).stalls = s.stalls := rfl
@[simp] theorem updMbx_halos (f : Mbx → Mbx) (s : State) : (updMbx f s).halos = s.halos := rfl
@[simp] theorem updMbx_lists (f : Mbx → Mbx) (s : State) : (updMbx f s).lists = s.lists := rfl
@[simp] theorem updMbx_paddock (f : Mbx → Mbx) (s : State) : (updMbx f s).paddock = s.paddock := rfl
@[simp] theorem updMbx_hold (f : Mbx → Mbx) (s : State) : (updMbx f s).hold = s.hold := rfl
@[simp] theorem updMbx_troughs (f : Mbx → Mbx) (s : State) : (updMbx f s).troughs = s.troughs := rfl
@[simp] theorem updMbx_troughResetting (f : Mbx → Mbx) (s : State) : (updMbx f s).troughResetting = s.troughResetting := rfl
@[simp] theorem updMbx_chans (f : Mbx → Mbx) (s : State) : (updMbx f s).chans = s.chans := rfl
@[simp] theorem updMbx_engines (f : Mbx → Mbx) (s : State) : (updMbx f s).engines = s.engines := rfl
@[simp] theorem updMbx_memctl (f : Mbx → Mbx) (s : State) : (updMbx f s).memctl = s.memctl := rfl
@[simp] theorem updMbx_host (f : Mbx → Mbx) (s : State) : (updMbx f s).host = s.host := rfl
@[simp] theorem updMbx_time (f : Mbx → Mbx) (s : State) : (updMbx f s).time = s.time := rfl
@[simp] theorem updMbx_ptp (f : Mbx → Mbx) (s : State) : (updMbx f s).ptp = s.ptp := rfl
@[simp] theorem updMbx_net (f : Mbx → Mbx) (s : State) : (updMbx f s).net = s.net := rfl
@[simp] theorem updMbx_power (f : Mbx → Mbx) (s : State) : (updMbx f s).power = s.power := rfl
@[simp] theorem updMbx_supply (f : Mbx → Mbx) (s : State) : (updMbx f s).supply = s.supply := rfl
@[simp] theorem updMbx_boot (f : Mbx → Mbx) (s : State) : (updMbx f s).boot = s.boot := rfl
@[simp] theorem updMbx_muck (f : Mbx → Mbx) (s : State) : (updMbx f s).muck = s.muck := rfl
@[simp] theorem updMbx_pending (f : Mbx → Mbx) (s : State) : (updMbx f s).pending = s.pending := rfl
@[simp] theorem updMbx_mbx (f : Mbx → Mbx) (s : State) : (updMbx f s).mbx = f s.mbx := rfl

/-! ### `updGroom` -/

@[simp] theorem updGroom_now (f : Groom → Groom) (s : State) : (updGroom f s).now = s.now := rfl
@[simp] theorem updGroom_dict (f : Groom → Groom) (s : State) : (updGroom f s).dict = s.dict := rfl
@[simp] theorem updGroom_pairs (f : Groom → Groom) (s : State) : (updGroom f s).pairs = s.pairs := rfl
@[simp] theorem updGroom_mem (f : Groom → Groom) (s : State) : (updGroom f s).mem = s.mem := rfl
@[simp] theorem updGroom_poison (f : Groom → Groom) (s : State) : (updGroom f s).poison = s.poison := rfl
@[simp] theorem updGroom_keptPins (f : Groom → Groom) (s : State) : (updGroom f s).keptPins = s.keptPins := rfl
@[simp] theorem updGroom_draws (f : Groom → Groom) (s : State) : (updGroom f s).draws = s.draws := rfl
@[simp] theorem updGroom_out (f : Groom → Groom) (s : State) : (updGroom f s).out = s.out := rfl
@[simp] theorem updGroom_reacts (f : Groom → Groom) (s : State) : (updGroom f s).reacts = s.reacts := rfl
@[simp] theorem updGroom_steps (f : Groom → Groom) (s : State) : (updGroom f s).steps = s.steps := rfl
@[simp] theorem updGroom_sdp (f : Groom → Groom) (s : State) : (updGroom f s).sdp = s.sdp := rfl
@[simp] theorem updGroom_mbx (f : Groom → Groom) (s : State) : (updGroom f s).mbx = s.mbx := rfl
@[simp] theorem updGroom_gates (f : Groom → Groom) (s : State) : (updGroom f s).gates = s.gates := rfl
@[simp] theorem updGroom_i2c (f : Groom → Groom) (s : State) : (updGroom f s).i2c = s.i2c := rfl
@[simp] theorem updGroom_chains (f : Groom → Groom) (s : State) : (updGroom f s).chains = s.chains := rfl
@[simp] theorem updGroom_sieveAt (f : Groom → Groom) (s : State) : (updGroom f s).sieveAt = s.sieveAt := rfl
@[simp] theorem updGroom_slots (f : Groom → Groom) (s : State) : (updGroom f s).slots = s.slots := rfl
@[simp] theorem updGroom_yards (f : Groom → Groom) (s : State) : (updGroom f s).yards = s.yards := rfl
@[simp] theorem updGroom_stalls (f : Groom → Groom) (s : State) : (updGroom f s).stalls = s.stalls := rfl
@[simp] theorem updGroom_halos (f : Groom → Groom) (s : State) : (updGroom f s).halos = s.halos := rfl
@[simp] theorem updGroom_lists (f : Groom → Groom) (s : State) : (updGroom f s).lists = s.lists := rfl
@[simp] theorem updGroom_paddock (f : Groom → Groom) (s : State) : (updGroom f s).paddock = s.paddock := rfl
@[simp] theorem updGroom_hold (f : Groom → Groom) (s : State) : (updGroom f s).hold = s.hold := rfl
@[simp] theorem updGroom_troughs (f : Groom → Groom) (s : State) : (updGroom f s).troughs = s.troughs := rfl
@[simp] theorem updGroom_troughResetting (f : Groom → Groom) (s : State) : (updGroom f s).troughResetting = s.troughResetting := rfl
@[simp] theorem updGroom_chans (f : Groom → Groom) (s : State) : (updGroom f s).chans = s.chans := rfl
@[simp] theorem updGroom_engines (f : Groom → Groom) (s : State) : (updGroom f s).engines = s.engines := rfl
@[simp] theorem updGroom_memctl (f : Groom → Groom) (s : State) : (updGroom f s).memctl = s.memctl := rfl
@[simp] theorem updGroom_host (f : Groom → Groom) (s : State) : (updGroom f s).host = s.host := rfl
@[simp] theorem updGroom_time (f : Groom → Groom) (s : State) : (updGroom f s).time = s.time := rfl
@[simp] theorem updGroom_ptp (f : Groom → Groom) (s : State) : (updGroom f s).ptp = s.ptp := rfl
@[simp] theorem updGroom_net (f : Groom → Groom) (s : State) : (updGroom f s).net = s.net := rfl
@[simp] theorem updGroom_power (f : Groom → Groom) (s : State) : (updGroom f s).power = s.power := rfl
@[simp] theorem updGroom_supply (f : Groom → Groom) (s : State) : (updGroom f s).supply = s.supply := rfl
@[simp] theorem updGroom_boot (f : Groom → Groom) (s : State) : (updGroom f s).boot = s.boot := rfl
@[simp] theorem updGroom_muck (f : Groom → Groom) (s : State) : (updGroom f s).muck = s.muck := rfl
@[simp] theorem updGroom_pending (f : Groom → Groom) (s : State) : (updGroom f s).pending = s.pending := rfl
@[simp] theorem updGroom_groom (f : Groom → Groom) (s : State) : (updGroom f s).groom = f s.groom := rfl

/-! ### `updPaddock` -/

@[simp] theorem updPaddock_now (f : Paddock → Paddock) (s : State) : (updPaddock f s).now = s.now := rfl
@[simp] theorem updPaddock_dict (f : Paddock → Paddock) (s : State) : (updPaddock f s).dict = s.dict := rfl
@[simp] theorem updPaddock_pairs (f : Paddock → Paddock) (s : State) : (updPaddock f s).pairs = s.pairs := rfl
@[simp] theorem updPaddock_mem (f : Paddock → Paddock) (s : State) : (updPaddock f s).mem = s.mem := rfl
@[simp] theorem updPaddock_poison (f : Paddock → Paddock) (s : State) : (updPaddock f s).poison = s.poison := rfl
@[simp] theorem updPaddock_keptPins (f : Paddock → Paddock) (s : State) : (updPaddock f s).keptPins = s.keptPins := rfl
@[simp] theorem updPaddock_draws (f : Paddock → Paddock) (s : State) : (updPaddock f s).draws = s.draws := rfl
@[simp] theorem updPaddock_out (f : Paddock → Paddock) (s : State) : (updPaddock f s).out = s.out := rfl
@[simp] theorem updPaddock_reacts (f : Paddock → Paddock) (s : State) : (updPaddock f s).reacts = s.reacts := rfl
@[simp] theorem updPaddock_steps (f : Paddock → Paddock) (s : State) : (updPaddock f s).steps = s.steps := rfl
@[simp] theorem updPaddock_sdp (f : Paddock → Paddock) (s : State) : (updPaddock f s).sdp = s.sdp := rfl
@[simp] theorem updPaddock_mbx (f : Paddock → Paddock) (s : State) : (updPaddock f s).mbx = s.mbx := rfl
@[simp] theorem updPaddock_gates (f : Paddock → Paddock) (s : State) : (updPaddock f s).gates = s.gates := rfl
@[simp] theorem updPaddock_i2c (f : Paddock → Paddock) (s : State) : (updPaddock f s).i2c = s.i2c := rfl
@[simp] theorem updPaddock_groom (f : Paddock → Paddock) (s : State) : (updPaddock f s).groom = s.groom := rfl
@[simp] theorem updPaddock_chains (f : Paddock → Paddock) (s : State) : (updPaddock f s).chains = s.chains := rfl
@[simp] theorem updPaddock_sieveAt (f : Paddock → Paddock) (s : State) : (updPaddock f s).sieveAt = s.sieveAt := rfl
@[simp] theorem updPaddock_slots (f : Paddock → Paddock) (s : State) : (updPaddock f s).slots = s.slots := rfl
@[simp] theorem updPaddock_yards (f : Paddock → Paddock) (s : State) : (updPaddock f s).yards = s.yards := rfl
@[simp] theorem updPaddock_stalls (f : Paddock → Paddock) (s : State) : (updPaddock f s).stalls = s.stalls := rfl
@[simp] theorem updPaddock_halos (f : Paddock → Paddock) (s : State) : (updPaddock f s).halos = s.halos := rfl
@[simp] theorem updPaddock_lists (f : Paddock → Paddock) (s : State) : (updPaddock f s).lists = s.lists := rfl
@[simp] theorem updPaddock_hold (f : Paddock → Paddock) (s : State) : (updPaddock f s).hold = s.hold := rfl
@[simp] theorem updPaddock_troughs (f : Paddock → Paddock) (s : State) : (updPaddock f s).troughs = s.troughs := rfl
@[simp] theorem updPaddock_troughResetting (f : Paddock → Paddock) (s : State) : (updPaddock f s).troughResetting = s.troughResetting := rfl
@[simp] theorem updPaddock_chans (f : Paddock → Paddock) (s : State) : (updPaddock f s).chans = s.chans := rfl
@[simp] theorem updPaddock_engines (f : Paddock → Paddock) (s : State) : (updPaddock f s).engines = s.engines := rfl
@[simp] theorem updPaddock_memctl (f : Paddock → Paddock) (s : State) : (updPaddock f s).memctl = s.memctl := rfl
@[simp] theorem updPaddock_host (f : Paddock → Paddock) (s : State) : (updPaddock f s).host = s.host := rfl
@[simp] theorem updPaddock_time (f : Paddock → Paddock) (s : State) : (updPaddock f s).time = s.time := rfl
@[simp] theorem updPaddock_ptp (f : Paddock → Paddock) (s : State) : (updPaddock f s).ptp = s.ptp := rfl
@[simp] theorem updPaddock_net (f : Paddock → Paddock) (s : State) : (updPaddock f s).net = s.net := rfl
@[simp] theorem updPaddock_power (f : Paddock → Paddock) (s : State) : (updPaddock f s).power = s.power := rfl
@[simp] theorem updPaddock_supply (f : Paddock → Paddock) (s : State) : (updPaddock f s).supply = s.supply := rfl
@[simp] theorem updPaddock_boot (f : Paddock → Paddock) (s : State) : (updPaddock f s).boot = s.boot := rfl
@[simp] theorem updPaddock_muck (f : Paddock → Paddock) (s : State) : (updPaddock f s).muck = s.muck := rfl
@[simp] theorem updPaddock_pending (f : Paddock → Paddock) (s : State) : (updPaddock f s).pending = s.pending := rfl
@[simp] theorem updPaddock_paddock (f : Paddock → Paddock) (s : State) : (updPaddock f s).paddock = f s.paddock := rfl

/-! ### `updHold` -/

@[simp] theorem updHold_now (f : HoldD0 → HoldD0) (s : State) : (updHold f s).now = s.now := rfl
@[simp] theorem updHold_dict (f : HoldD0 → HoldD0) (s : State) : (updHold f s).dict = s.dict := rfl
@[simp] theorem updHold_pairs (f : HoldD0 → HoldD0) (s : State) : (updHold f s).pairs = s.pairs := rfl
@[simp] theorem updHold_mem (f : HoldD0 → HoldD0) (s : State) : (updHold f s).mem = s.mem := rfl
@[simp] theorem updHold_poison (f : HoldD0 → HoldD0) (s : State) : (updHold f s).poison = s.poison := rfl
@[simp] theorem updHold_keptPins (f : HoldD0 → HoldD0) (s : State) : (updHold f s).keptPins = s.keptPins := rfl
@[simp] theorem updHold_draws (f : HoldD0 → HoldD0) (s : State) : (updHold f s).draws = s.draws := rfl
@[simp] theorem updHold_out (f : HoldD0 → HoldD0) (s : State) : (updHold f s).out = s.out := rfl
@[simp] theorem updHold_reacts (f : HoldD0 → HoldD0) (s : State) : (updHold f s).reacts = s.reacts := rfl
@[simp] theorem updHold_steps (f : HoldD0 → HoldD0) (s : State) : (updHold f s).steps = s.steps := rfl
@[simp] theorem updHold_sdp (f : HoldD0 → HoldD0) (s : State) : (updHold f s).sdp = s.sdp := rfl
@[simp] theorem updHold_mbx (f : HoldD0 → HoldD0) (s : State) : (updHold f s).mbx = s.mbx := rfl
@[simp] theorem updHold_gates (f : HoldD0 → HoldD0) (s : State) : (updHold f s).gates = s.gates := rfl
@[simp] theorem updHold_i2c (f : HoldD0 → HoldD0) (s : State) : (updHold f s).i2c = s.i2c := rfl
@[simp] theorem updHold_groom (f : HoldD0 → HoldD0) (s : State) : (updHold f s).groom = s.groom := rfl
@[simp] theorem updHold_chains (f : HoldD0 → HoldD0) (s : State) : (updHold f s).chains = s.chains := rfl
@[simp] theorem updHold_sieveAt (f : HoldD0 → HoldD0) (s : State) : (updHold f s).sieveAt = s.sieveAt := rfl
@[simp] theorem updHold_slots (f : HoldD0 → HoldD0) (s : State) : (updHold f s).slots = s.slots := rfl
@[simp] theorem updHold_yards (f : HoldD0 → HoldD0) (s : State) : (updHold f s).yards = s.yards := rfl
@[simp] theorem updHold_stalls (f : HoldD0 → HoldD0) (s : State) : (updHold f s).stalls = s.stalls := rfl
@[simp] theorem updHold_halos (f : HoldD0 → HoldD0) (s : State) : (updHold f s).halos = s.halos := rfl
@[simp] theorem updHold_lists (f : HoldD0 → HoldD0) (s : State) : (updHold f s).lists = s.lists := rfl
@[simp] theorem updHold_paddock (f : HoldD0 → HoldD0) (s : State) : (updHold f s).paddock = s.paddock := rfl
@[simp] theorem updHold_troughs (f : HoldD0 → HoldD0) (s : State) : (updHold f s).troughs = s.troughs := rfl
@[simp] theorem updHold_troughResetting (f : HoldD0 → HoldD0) (s : State) : (updHold f s).troughResetting = s.troughResetting := rfl
@[simp] theorem updHold_chans (f : HoldD0 → HoldD0) (s : State) : (updHold f s).chans = s.chans := rfl
@[simp] theorem updHold_engines (f : HoldD0 → HoldD0) (s : State) : (updHold f s).engines = s.engines := rfl
@[simp] theorem updHold_memctl (f : HoldD0 → HoldD0) (s : State) : (updHold f s).memctl = s.memctl := rfl
@[simp] theorem updHold_host (f : HoldD0 → HoldD0) (s : State) : (updHold f s).host = s.host := rfl
@[simp] theorem updHold_time (f : HoldD0 → HoldD0) (s : State) : (updHold f s).time = s.time := rfl
@[simp] theorem updHold_ptp (f : HoldD0 → HoldD0) (s : State) : (updHold f s).ptp = s.ptp := rfl
@[simp] theorem updHold_net (f : HoldD0 → HoldD0) (s : State) : (updHold f s).net = s.net := rfl
@[simp] theorem updHold_power (f : HoldD0 → HoldD0) (s : State) : (updHold f s).power = s.power := rfl
@[simp] theorem updHold_supply (f : HoldD0 → HoldD0) (s : State) : (updHold f s).supply = s.supply := rfl
@[simp] theorem updHold_boot (f : HoldD0 → HoldD0) (s : State) : (updHold f s).boot = s.boot := rfl
@[simp] theorem updHold_muck (f : HoldD0 → HoldD0) (s : State) : (updHold f s).muck = s.muck := rfl
@[simp] theorem updHold_pending (f : HoldD0 → HoldD0) (s : State) : (updHold f s).pending = s.pending := rfl
@[simp] theorem updHold_hold (f : HoldD0 → HoldD0) (s : State) : (updHold f s).hold = f s.hold := rfl

/-! ### `updMemctl` -/

@[simp] theorem updMemctl_now (f : MemCtl → MemCtl) (s : State) : (updMemctl f s).now = s.now := rfl
@[simp] theorem updMemctl_dict (f : MemCtl → MemCtl) (s : State) : (updMemctl f s).dict = s.dict := rfl
@[simp] theorem updMemctl_pairs (f : MemCtl → MemCtl) (s : State) : (updMemctl f s).pairs = s.pairs := rfl
@[simp] theorem updMemctl_mem (f : MemCtl → MemCtl) (s : State) : (updMemctl f s).mem = s.mem := rfl
@[simp] theorem updMemctl_poison (f : MemCtl → MemCtl) (s : State) : (updMemctl f s).poison = s.poison := rfl
@[simp] theorem updMemctl_keptPins (f : MemCtl → MemCtl) (s : State) : (updMemctl f s).keptPins = s.keptPins := rfl
@[simp] theorem updMemctl_draws (f : MemCtl → MemCtl) (s : State) : (updMemctl f s).draws = s.draws := rfl
@[simp] theorem updMemctl_out (f : MemCtl → MemCtl) (s : State) : (updMemctl f s).out = s.out := rfl
@[simp] theorem updMemctl_reacts (f : MemCtl → MemCtl) (s : State) : (updMemctl f s).reacts = s.reacts := rfl
@[simp] theorem updMemctl_steps (f : MemCtl → MemCtl) (s : State) : (updMemctl f s).steps = s.steps := rfl
@[simp] theorem updMemctl_sdp (f : MemCtl → MemCtl) (s : State) : (updMemctl f s).sdp = s.sdp := rfl
@[simp] theorem updMemctl_mbx (f : MemCtl → MemCtl) (s : State) : (updMemctl f s).mbx = s.mbx := rfl
@[simp] theorem updMemctl_gates (f : MemCtl → MemCtl) (s : State) : (updMemctl f s).gates = s.gates := rfl
@[simp] theorem updMemctl_i2c (f : MemCtl → MemCtl) (s : State) : (updMemctl f s).i2c = s.i2c := rfl
@[simp] theorem updMemctl_groom (f : MemCtl → MemCtl) (s : State) : (updMemctl f s).groom = s.groom := rfl
@[simp] theorem updMemctl_chains (f : MemCtl → MemCtl) (s : State) : (updMemctl f s).chains = s.chains := rfl
@[simp] theorem updMemctl_sieveAt (f : MemCtl → MemCtl) (s : State) : (updMemctl f s).sieveAt = s.sieveAt := rfl
@[simp] theorem updMemctl_slots (f : MemCtl → MemCtl) (s : State) : (updMemctl f s).slots = s.slots := rfl
@[simp] theorem updMemctl_yards (f : MemCtl → MemCtl) (s : State) : (updMemctl f s).yards = s.yards := rfl
@[simp] theorem updMemctl_stalls (f : MemCtl → MemCtl) (s : State) : (updMemctl f s).stalls = s.stalls := rfl
@[simp] theorem updMemctl_halos (f : MemCtl → MemCtl) (s : State) : (updMemctl f s).halos = s.halos := rfl
@[simp] theorem updMemctl_lists (f : MemCtl → MemCtl) (s : State) : (updMemctl f s).lists = s.lists := rfl
@[simp] theorem updMemctl_paddock (f : MemCtl → MemCtl) (s : State) : (updMemctl f s).paddock = s.paddock := rfl
@[simp] theorem updMemctl_hold (f : MemCtl → MemCtl) (s : State) : (updMemctl f s).hold = s.hold := rfl
@[simp] theorem updMemctl_troughs (f : MemCtl → MemCtl) (s : State) : (updMemctl f s).troughs = s.troughs := rfl
@[simp] theorem updMemctl_troughResetting (f : MemCtl → MemCtl) (s : State) : (updMemctl f s).troughResetting = s.troughResetting := rfl
@[simp] theorem updMemctl_chans (f : MemCtl → MemCtl) (s : State) : (updMemctl f s).chans = s.chans := rfl
@[simp] theorem updMemctl_engines (f : MemCtl → MemCtl) (s : State) : (updMemctl f s).engines = s.engines := rfl
@[simp] theorem updMemctl_host (f : MemCtl → MemCtl) (s : State) : (updMemctl f s).host = s.host := rfl
@[simp] theorem updMemctl_time (f : MemCtl → MemCtl) (s : State) : (updMemctl f s).time = s.time := rfl
@[simp] theorem updMemctl_ptp (f : MemCtl → MemCtl) (s : State) : (updMemctl f s).ptp = s.ptp := rfl
@[simp] theorem updMemctl_net (f : MemCtl → MemCtl) (s : State) : (updMemctl f s).net = s.net := rfl
@[simp] theorem updMemctl_power (f : MemCtl → MemCtl) (s : State) : (updMemctl f s).power = s.power := rfl
@[simp] theorem updMemctl_supply (f : MemCtl → MemCtl) (s : State) : (updMemctl f s).supply = s.supply := rfl
@[simp] theorem updMemctl_boot (f : MemCtl → MemCtl) (s : State) : (updMemctl f s).boot = s.boot := rfl
@[simp] theorem updMemctl_muck (f : MemCtl → MemCtl) (s : State) : (updMemctl f s).muck = s.muck := rfl
@[simp] theorem updMemctl_pending (f : MemCtl → MemCtl) (s : State) : (updMemctl f s).pending = s.pending := rfl
@[simp] theorem updMemctl_memctl (f : MemCtl → MemCtl) (s : State) : (updMemctl f s).memctl = f s.memctl := rfl

/-! ### `updNet` -/

@[simp] theorem updNet_now (f : Net → Net) (s : State) : (updNet f s).now = s.now := rfl
@[simp] theorem updNet_dict (f : Net → Net) (s : State) : (updNet f s).dict = s.dict := rfl
@[simp] theorem updNet_pairs (f : Net → Net) (s : State) : (updNet f s).pairs = s.pairs := rfl
@[simp] theorem updNet_mem (f : Net → Net) (s : State) : (updNet f s).mem = s.mem := rfl
@[simp] theorem updNet_poison (f : Net → Net) (s : State) : (updNet f s).poison = s.poison := rfl
@[simp] theorem updNet_keptPins (f : Net → Net) (s : State) : (updNet f s).keptPins = s.keptPins := rfl
@[simp] theorem updNet_draws (f : Net → Net) (s : State) : (updNet f s).draws = s.draws := rfl
@[simp] theorem updNet_out (f : Net → Net) (s : State) : (updNet f s).out = s.out := rfl
@[simp] theorem updNet_reacts (f : Net → Net) (s : State) : (updNet f s).reacts = s.reacts := rfl
@[simp] theorem updNet_steps (f : Net → Net) (s : State) : (updNet f s).steps = s.steps := rfl
@[simp] theorem updNet_sdp (f : Net → Net) (s : State) : (updNet f s).sdp = s.sdp := rfl
@[simp] theorem updNet_mbx (f : Net → Net) (s : State) : (updNet f s).mbx = s.mbx := rfl
@[simp] theorem updNet_gates (f : Net → Net) (s : State) : (updNet f s).gates = s.gates := rfl
@[simp] theorem updNet_i2c (f : Net → Net) (s : State) : (updNet f s).i2c = s.i2c := rfl
@[simp] theorem updNet_groom (f : Net → Net) (s : State) : (updNet f s).groom = s.groom := rfl
@[simp] theorem updNet_chains (f : Net → Net) (s : State) : (updNet f s).chains = s.chains := rfl
@[simp] theorem updNet_sieveAt (f : Net → Net) (s : State) : (updNet f s).sieveAt = s.sieveAt := rfl
@[simp] theorem updNet_slots (f : Net → Net) (s : State) : (updNet f s).slots = s.slots := rfl
@[simp] theorem updNet_yards (f : Net → Net) (s : State) : (updNet f s).yards = s.yards := rfl
@[simp] theorem updNet_stalls (f : Net → Net) (s : State) : (updNet f s).stalls = s.stalls := rfl
@[simp] theorem updNet_halos (f : Net → Net) (s : State) : (updNet f s).halos = s.halos := rfl
@[simp] theorem updNet_lists (f : Net → Net) (s : State) : (updNet f s).lists = s.lists := rfl
@[simp] theorem updNet_paddock (f : Net → Net) (s : State) : (updNet f s).paddock = s.paddock := rfl
@[simp] theorem updNet_hold (f : Net → Net) (s : State) : (updNet f s).hold = s.hold := rfl
@[simp] theorem updNet_troughs (f : Net → Net) (s : State) : (updNet f s).troughs = s.troughs := rfl
@[simp] theorem updNet_troughResetting (f : Net → Net) (s : State) : (updNet f s).troughResetting = s.troughResetting := rfl
@[simp] theorem updNet_chans (f : Net → Net) (s : State) : (updNet f s).chans = s.chans := rfl
@[simp] theorem updNet_engines (f : Net → Net) (s : State) : (updNet f s).engines = s.engines := rfl
@[simp] theorem updNet_memctl (f : Net → Net) (s : State) : (updNet f s).memctl = s.memctl := rfl
@[simp] theorem updNet_host (f : Net → Net) (s : State) : (updNet f s).host = s.host := rfl
@[simp] theorem updNet_time (f : Net → Net) (s : State) : (updNet f s).time = s.time := rfl
@[simp] theorem updNet_ptp (f : Net → Net) (s : State) : (updNet f s).ptp = s.ptp := rfl
@[simp] theorem updNet_power (f : Net → Net) (s : State) : (updNet f s).power = s.power := rfl
@[simp] theorem updNet_supply (f : Net → Net) (s : State) : (updNet f s).supply = s.supply := rfl
@[simp] theorem updNet_boot (f : Net → Net) (s : State) : (updNet f s).boot = s.boot := rfl
@[simp] theorem updNet_muck (f : Net → Net) (s : State) : (updNet f s).muck = s.muck := rfl
@[simp] theorem updNet_pending (f : Net → Net) (s : State) : (updNet f s).pending = s.pending := rfl
@[simp] theorem updNet_net (f : Net → Net) (s : State) : (updNet f s).net = f s.net := rfl

/-! ### `updPtp` -/

@[simp] theorem updPtp_now (f : Ptp → Ptp) (s : State) : (updPtp f s).now = s.now := rfl
@[simp] theorem updPtp_dict (f : Ptp → Ptp) (s : State) : (updPtp f s).dict = s.dict := rfl
@[simp] theorem updPtp_pairs (f : Ptp → Ptp) (s : State) : (updPtp f s).pairs = s.pairs := rfl
@[simp] theorem updPtp_mem (f : Ptp → Ptp) (s : State) : (updPtp f s).mem = s.mem := rfl
@[simp] theorem updPtp_poison (f : Ptp → Ptp) (s : State) : (updPtp f s).poison = s.poison := rfl
@[simp] theorem updPtp_keptPins (f : Ptp → Ptp) (s : State) : (updPtp f s).keptPins = s.keptPins := rfl
@[simp] theorem updPtp_draws (f : Ptp → Ptp) (s : State) : (updPtp f s).draws = s.draws := rfl
@[simp] theorem updPtp_out (f : Ptp → Ptp) (s : State) : (updPtp f s).out = s.out := rfl
@[simp] theorem updPtp_reacts (f : Ptp → Ptp) (s : State) : (updPtp f s).reacts = s.reacts := rfl
@[simp] theorem updPtp_steps (f : Ptp → Ptp) (s : State) : (updPtp f s).steps = s.steps := rfl
@[simp] theorem updPtp_sdp (f : Ptp → Ptp) (s : State) : (updPtp f s).sdp = s.sdp := rfl
@[simp] theorem updPtp_mbx (f : Ptp → Ptp) (s : State) : (updPtp f s).mbx = s.mbx := rfl
@[simp] theorem updPtp_gates (f : Ptp → Ptp) (s : State) : (updPtp f s).gates = s.gates := rfl
@[simp] theorem updPtp_i2c (f : Ptp → Ptp) (s : State) : (updPtp f s).i2c = s.i2c := rfl
@[simp] theorem updPtp_groom (f : Ptp → Ptp) (s : State) : (updPtp f s).groom = s.groom := rfl
@[simp] theorem updPtp_chains (f : Ptp → Ptp) (s : State) : (updPtp f s).chains = s.chains := rfl
@[simp] theorem updPtp_sieveAt (f : Ptp → Ptp) (s : State) : (updPtp f s).sieveAt = s.sieveAt := rfl
@[simp] theorem updPtp_slots (f : Ptp → Ptp) (s : State) : (updPtp f s).slots = s.slots := rfl
@[simp] theorem updPtp_yards (f : Ptp → Ptp) (s : State) : (updPtp f s).yards = s.yards := rfl
@[simp] theorem updPtp_stalls (f : Ptp → Ptp) (s : State) : (updPtp f s).stalls = s.stalls := rfl
@[simp] theorem updPtp_halos (f : Ptp → Ptp) (s : State) : (updPtp f s).halos = s.halos := rfl
@[simp] theorem updPtp_lists (f : Ptp → Ptp) (s : State) : (updPtp f s).lists = s.lists := rfl
@[simp] theorem updPtp_paddock (f : Ptp → Ptp) (s : State) : (updPtp f s).paddock = s.paddock := rfl
@[simp] theorem updPtp_hold (f : Ptp → Ptp) (s : State) : (updPtp f s).hold = s.hold := rfl
@[simp] theorem updPtp_troughs (f : Ptp → Ptp) (s : State) : (updPtp f s).troughs = s.troughs := rfl
@[simp] theorem updPtp_troughResetting (f : Ptp → Ptp) (s : State) : (updPtp f s).troughResetting = s.troughResetting := rfl
@[simp] theorem updPtp_chans (f : Ptp → Ptp) (s : State) : (updPtp f s).chans = s.chans := rfl
@[simp] theorem updPtp_engines (f : Ptp → Ptp) (s : State) : (updPtp f s).engines = s.engines := rfl
@[simp] theorem updPtp_memctl (f : Ptp → Ptp) (s : State) : (updPtp f s).memctl = s.memctl := rfl
@[simp] theorem updPtp_host (f : Ptp → Ptp) (s : State) : (updPtp f s).host = s.host := rfl
@[simp] theorem updPtp_time (f : Ptp → Ptp) (s : State) : (updPtp f s).time = s.time := rfl
@[simp] theorem updPtp_net (f : Ptp → Ptp) (s : State) : (updPtp f s).net = s.net := rfl
@[simp] theorem updPtp_power (f : Ptp → Ptp) (s : State) : (updPtp f s).power = s.power := rfl
@[simp] theorem updPtp_supply (f : Ptp → Ptp) (s : State) : (updPtp f s).supply = s.supply := rfl
@[simp] theorem updPtp_boot (f : Ptp → Ptp) (s : State) : (updPtp f s).boot = s.boot := rfl
@[simp] theorem updPtp_muck (f : Ptp → Ptp) (s : State) : (updPtp f s).muck = s.muck := rfl
@[simp] theorem updPtp_pending (f : Ptp → Ptp) (s : State) : (updPtp f s).pending = s.pending := rfl
@[simp] theorem updPtp_ptp (f : Ptp → Ptp) (s : State) : (updPtp f s).ptp = f s.ptp := rfl

/-! ### `updTime` -/

@[simp] theorem updTime_now (f : TimeUnit → TimeUnit) (s : State) : (updTime f s).now = s.now := rfl
@[simp] theorem updTime_dict (f : TimeUnit → TimeUnit) (s : State) : (updTime f s).dict = s.dict := rfl
@[simp] theorem updTime_pairs (f : TimeUnit → TimeUnit) (s : State) : (updTime f s).pairs = s.pairs := rfl
@[simp] theorem updTime_mem (f : TimeUnit → TimeUnit) (s : State) : (updTime f s).mem = s.mem := rfl
@[simp] theorem updTime_poison (f : TimeUnit → TimeUnit) (s : State) : (updTime f s).poison = s.poison := rfl
@[simp] theorem updTime_keptPins (f : TimeUnit → TimeUnit) (s : State) : (updTime f s).keptPins = s.keptPins := rfl
@[simp] theorem updTime_draws (f : TimeUnit → TimeUnit) (s : State) : (updTime f s).draws = s.draws := rfl
@[simp] theorem updTime_out (f : TimeUnit → TimeUnit) (s : State) : (updTime f s).out = s.out := rfl
@[simp] theorem updTime_reacts (f : TimeUnit → TimeUnit) (s : State) : (updTime f s).reacts = s.reacts := rfl
@[simp] theorem updTime_steps (f : TimeUnit → TimeUnit) (s : State) : (updTime f s).steps = s.steps := rfl
@[simp] theorem updTime_sdp (f : TimeUnit → TimeUnit) (s : State) : (updTime f s).sdp = s.sdp := rfl
@[simp] theorem updTime_mbx (f : TimeUnit → TimeUnit) (s : State) : (updTime f s).mbx = s.mbx := rfl
@[simp] theorem updTime_gates (f : TimeUnit → TimeUnit) (s : State) : (updTime f s).gates = s.gates := rfl
@[simp] theorem updTime_i2c (f : TimeUnit → TimeUnit) (s : State) : (updTime f s).i2c = s.i2c := rfl
@[simp] theorem updTime_groom (f : TimeUnit → TimeUnit) (s : State) : (updTime f s).groom = s.groom := rfl
@[simp] theorem updTime_chains (f : TimeUnit → TimeUnit) (s : State) : (updTime f s).chains = s.chains := rfl
@[simp] theorem updTime_sieveAt (f : TimeUnit → TimeUnit) (s : State) : (updTime f s).sieveAt = s.sieveAt := rfl
@[simp] theorem updTime_slots (f : TimeUnit → TimeUnit) (s : State) : (updTime f s).slots = s.slots := rfl
@[simp] theorem updTime_yards (f : TimeUnit → TimeUnit) (s : State) : (updTime f s).yards = s.yards := rfl
@[simp] theorem updTime_stalls (f : TimeUnit → TimeUnit) (s : State) : (updTime f s).stalls = s.stalls := rfl
@[simp] theorem updTime_halos (f : TimeUnit → TimeUnit) (s : State) : (updTime f s).halos = s.halos := rfl
@[simp] theorem updTime_lists (f : TimeUnit → TimeUnit) (s : State) : (updTime f s).lists = s.lists := rfl
@[simp] theorem updTime_paddock (f : TimeUnit → TimeUnit) (s : State) : (updTime f s).paddock = s.paddock := rfl
@[simp] theorem updTime_hold (f : TimeUnit → TimeUnit) (s : State) : (updTime f s).hold = s.hold := rfl
@[simp] theorem updTime_troughs (f : TimeUnit → TimeUnit) (s : State) : (updTime f s).troughs = s.troughs := rfl
@[simp] theorem updTime_troughResetting (f : TimeUnit → TimeUnit) (s : State) : (updTime f s).troughResetting = s.troughResetting := rfl
@[simp] theorem updTime_chans (f : TimeUnit → TimeUnit) (s : State) : (updTime f s).chans = s.chans := rfl
@[simp] theorem updTime_engines (f : TimeUnit → TimeUnit) (s : State) : (updTime f s).engines = s.engines := rfl
@[simp] theorem updTime_memctl (f : TimeUnit → TimeUnit) (s : State) : (updTime f s).memctl = s.memctl := rfl
@[simp] theorem updTime_host (f : TimeUnit → TimeUnit) (s : State) : (updTime f s).host = s.host := rfl
@[simp] theorem updTime_ptp (f : TimeUnit → TimeUnit) (s : State) : (updTime f s).ptp = s.ptp := rfl
@[simp] theorem updTime_net (f : TimeUnit → TimeUnit) (s : State) : (updTime f s).net = s.net := rfl
@[simp] theorem updTime_power (f : TimeUnit → TimeUnit) (s : State) : (updTime f s).power = s.power := rfl
@[simp] theorem updTime_supply (f : TimeUnit → TimeUnit) (s : State) : (updTime f s).supply = s.supply := rfl
@[simp] theorem updTime_boot (f : TimeUnit → TimeUnit) (s : State) : (updTime f s).boot = s.boot := rfl
@[simp] theorem updTime_muck (f : TimeUnit → TimeUnit) (s : State) : (updTime f s).muck = s.muck := rfl
@[simp] theorem updTime_pending (f : TimeUnit → TimeUnit) (s : State) : (updTime f s).pending = s.pending := rfl
@[simp] theorem updTime_time (f : TimeUnit → TimeUnit) (s : State) : (updTime f s).time = f s.time := rfl

/-! ### `updPower` -/

@[simp] theorem updPower_now (f : Power → Power) (s : State) : (updPower f s).now = s.now := rfl
@[simp] theorem updPower_dict (f : Power → Power) (s : State) : (updPower f s).dict = s.dict := rfl
@[simp] theorem updPower_pairs (f : Power → Power) (s : State) : (updPower f s).pairs = s.pairs := rfl
@[simp] theorem updPower_mem (f : Power → Power) (s : State) : (updPower f s).mem = s.mem := rfl
@[simp] theorem updPower_poison (f : Power → Power) (s : State) : (updPower f s).poison = s.poison := rfl
@[simp] theorem updPower_keptPins (f : Power → Power) (s : State) : (updPower f s).keptPins = s.keptPins := rfl
@[simp] theorem updPower_draws (f : Power → Power) (s : State) : (updPower f s).draws = s.draws := rfl
@[simp] theorem updPower_out (f : Power → Power) (s : State) : (updPower f s).out = s.out := rfl
@[simp] theorem updPower_reacts (f : Power → Power) (s : State) : (updPower f s).reacts = s.reacts := rfl
@[simp] theorem updPower_steps (f : Power → Power) (s : State) : (updPower f s).steps = s.steps := rfl
@[simp] theorem updPower_sdp (f : Power → Power) (s : State) : (updPower f s).sdp = s.sdp := rfl
@[simp] theorem updPower_mbx (f : Power → Power) (s : State) : (updPower f s).mbx = s.mbx := rfl
@[simp] theorem updPower_gates (f : Power → Power) (s : State) : (updPower f s).gates = s.gates := rfl
@[simp] theorem updPower_i2c (f : Power → Power) (s : State) : (updPower f s).i2c = s.i2c := rfl
@[simp] theorem updPower_groom (f : Power → Power) (s : State) : (updPower f s).groom = s.groom := rfl
@[simp] theorem updPower_chains (f : Power → Power) (s : State) : (updPower f s).chains = s.chains := rfl
@[simp] theorem updPower_sieveAt (f : Power → Power) (s : State) : (updPower f s).sieveAt = s.sieveAt := rfl
@[simp] theorem updPower_slots (f : Power → Power) (s : State) : (updPower f s).slots = s.slots := rfl
@[simp] theorem updPower_yards (f : Power → Power) (s : State) : (updPower f s).yards = s.yards := rfl
@[simp] theorem updPower_stalls (f : Power → Power) (s : State) : (updPower f s).stalls = s.stalls := rfl
@[simp] theorem updPower_halos (f : Power → Power) (s : State) : (updPower f s).halos = s.halos := rfl
@[simp] theorem updPower_lists (f : Power → Power) (s : State) : (updPower f s).lists = s.lists := rfl
@[simp] theorem updPower_paddock (f : Power → Power) (s : State) : (updPower f s).paddock = s.paddock := rfl
@[simp] theorem updPower_hold (f : Power → Power) (s : State) : (updPower f s).hold = s.hold := rfl
@[simp] theorem updPower_troughs (f : Power → Power) (s : State) : (updPower f s).troughs = s.troughs := rfl
@[simp] theorem updPower_troughResetting (f : Power → Power) (s : State) : (updPower f s).troughResetting = s.troughResetting := rfl
@[simp] theorem updPower_chans (f : Power → Power) (s : State) : (updPower f s).chans = s.chans := rfl
@[simp] theorem updPower_engines (f : Power → Power) (s : State) : (updPower f s).engines = s.engines := rfl
@[simp] theorem updPower_memctl (f : Power → Power) (s : State) : (updPower f s).memctl = s.memctl := rfl
@[simp] theorem updPower_host (f : Power → Power) (s : State) : (updPower f s).host = s.host := rfl
@[simp] theorem updPower_time (f : Power → Power) (s : State) : (updPower f s).time = s.time := rfl
@[simp] theorem updPower_ptp (f : Power → Power) (s : State) : (updPower f s).ptp = s.ptp := rfl
@[simp] theorem updPower_net (f : Power → Power) (s : State) : (updPower f s).net = s.net := rfl
@[simp] theorem updPower_supply (f : Power → Power) (s : State) : (updPower f s).supply = s.supply := rfl
@[simp] theorem updPower_boot (f : Power → Power) (s : State) : (updPower f s).boot = s.boot := rfl
@[simp] theorem updPower_muck (f : Power → Power) (s : State) : (updPower f s).muck = s.muck := rfl
@[simp] theorem updPower_pending (f : Power → Power) (s : State) : (updPower f s).pending = s.pending := rfl
@[simp] theorem updPower_power (f : Power → Power) (s : State) : (updPower f s).power = f s.power := rfl

/-! ### `updSupply` -/

@[simp] theorem updSupply_now (f : Supply → Supply) (s : State) : (updSupply f s).now = s.now := rfl
@[simp] theorem updSupply_dict (f : Supply → Supply) (s : State) : (updSupply f s).dict = s.dict := rfl
@[simp] theorem updSupply_pairs (f : Supply → Supply) (s : State) : (updSupply f s).pairs = s.pairs := rfl
@[simp] theorem updSupply_mem (f : Supply → Supply) (s : State) : (updSupply f s).mem = s.mem := rfl
@[simp] theorem updSupply_poison (f : Supply → Supply) (s : State) : (updSupply f s).poison = s.poison := rfl
@[simp] theorem updSupply_keptPins (f : Supply → Supply) (s : State) : (updSupply f s).keptPins = s.keptPins := rfl
@[simp] theorem updSupply_draws (f : Supply → Supply) (s : State) : (updSupply f s).draws = s.draws := rfl
@[simp] theorem updSupply_out (f : Supply → Supply) (s : State) : (updSupply f s).out = s.out := rfl
@[simp] theorem updSupply_reacts (f : Supply → Supply) (s : State) : (updSupply f s).reacts = s.reacts := rfl
@[simp] theorem updSupply_steps (f : Supply → Supply) (s : State) : (updSupply f s).steps = s.steps := rfl
@[simp] theorem updSupply_sdp (f : Supply → Supply) (s : State) : (updSupply f s).sdp = s.sdp := rfl
@[simp] theorem updSupply_mbx (f : Supply → Supply) (s : State) : (updSupply f s).mbx = s.mbx := rfl
@[simp] theorem updSupply_gates (f : Supply → Supply) (s : State) : (updSupply f s).gates = s.gates := rfl
@[simp] theorem updSupply_i2c (f : Supply → Supply) (s : State) : (updSupply f s).i2c = s.i2c := rfl
@[simp] theorem updSupply_groom (f : Supply → Supply) (s : State) : (updSupply f s).groom = s.groom := rfl
@[simp] theorem updSupply_chains (f : Supply → Supply) (s : State) : (updSupply f s).chains = s.chains := rfl
@[simp] theorem updSupply_sieveAt (f : Supply → Supply) (s : State) : (updSupply f s).sieveAt = s.sieveAt := rfl
@[simp] theorem updSupply_slots (f : Supply → Supply) (s : State) : (updSupply f s).slots = s.slots := rfl
@[simp] theorem updSupply_yards (f : Supply → Supply) (s : State) : (updSupply f s).yards = s.yards := rfl
@[simp] theorem updSupply_stalls (f : Supply → Supply) (s : State) : (updSupply f s).stalls = s.stalls := rfl
@[simp] theorem updSupply_halos (f : Supply → Supply) (s : State) : (updSupply f s).halos = s.halos := rfl
@[simp] theorem updSupply_lists (f : Supply → Supply) (s : State) : (updSupply f s).lists = s.lists := rfl
@[simp] theorem updSupply_paddock (f : Supply → Supply) (s : State) : (updSupply f s).paddock = s.paddock := rfl
@[simp] theorem updSupply_hold (f : Supply → Supply) (s : State) : (updSupply f s).hold = s.hold := rfl
@[simp] theorem updSupply_troughs (f : Supply → Supply) (s : State) : (updSupply f s).troughs = s.troughs := rfl
@[simp] theorem updSupply_troughResetting (f : Supply → Supply) (s : State) : (updSupply f s).troughResetting = s.troughResetting := rfl
@[simp] theorem updSupply_chans (f : Supply → Supply) (s : State) : (updSupply f s).chans = s.chans := rfl
@[simp] theorem updSupply_engines (f : Supply → Supply) (s : State) : (updSupply f s).engines = s.engines := rfl
@[simp] theorem updSupply_memctl (f : Supply → Supply) (s : State) : (updSupply f s).memctl = s.memctl := rfl
@[simp] theorem updSupply_host (f : Supply → Supply) (s : State) : (updSupply f s).host = s.host := rfl
@[simp] theorem updSupply_time (f : Supply → Supply) (s : State) : (updSupply f s).time = s.time := rfl
@[simp] theorem updSupply_ptp (f : Supply → Supply) (s : State) : (updSupply f s).ptp = s.ptp := rfl
@[simp] theorem updSupply_net (f : Supply → Supply) (s : State) : (updSupply f s).net = s.net := rfl
@[simp] theorem updSupply_power (f : Supply → Supply) (s : State) : (updSupply f s).power = s.power := rfl
@[simp] theorem updSupply_boot (f : Supply → Supply) (s : State) : (updSupply f s).boot = s.boot := rfl
@[simp] theorem updSupply_muck (f : Supply → Supply) (s : State) : (updSupply f s).muck = s.muck := rfl
@[simp] theorem updSupply_pending (f : Supply → Supply) (s : State) : (updSupply f s).pending = s.pending := rfl
@[simp] theorem updSupply_supply (f : Supply → Supply) (s : State) : (updSupply f s).supply = f s.supply := rfl

/-! ### `updBoot` -/

@[simp] theorem updBoot_now (f : Boot → Boot) (s : State) : (updBoot f s).now = s.now := rfl
@[simp] theorem updBoot_dict (f : Boot → Boot) (s : State) : (updBoot f s).dict = s.dict := rfl
@[simp] theorem updBoot_pairs (f : Boot → Boot) (s : State) : (updBoot f s).pairs = s.pairs := rfl
@[simp] theorem updBoot_mem (f : Boot → Boot) (s : State) : (updBoot f s).mem = s.mem := rfl
@[simp] theorem updBoot_poison (f : Boot → Boot) (s : State) : (updBoot f s).poison = s.poison := rfl
@[simp] theorem updBoot_keptPins (f : Boot → Boot) (s : State) : (updBoot f s).keptPins = s.keptPins := rfl
@[simp] theorem updBoot_draws (f : Boot → Boot) (s : State) : (updBoot f s).draws = s.draws := rfl
@[simp] theorem updBoot_out (f : Boot → Boot) (s : State) : (updBoot f s).out = s.out := rfl
@[simp] theorem updBoot_reacts (f : Boot → Boot) (s : State) : (updBoot f s).reacts = s.reacts := rfl
@[simp] theorem updBoot_steps (f : Boot → Boot) (s : State) : (updBoot f s).steps = s.steps := rfl
@[simp] theorem updBoot_sdp (f : Boot → Boot) (s : State) : (updBoot f s).sdp = s.sdp := rfl
@[simp] theorem updBoot_mbx (f : Boot → Boot) (s : State) : (updBoot f s).mbx = s.mbx := rfl
@[simp] theorem updBoot_gates (f : Boot → Boot) (s : State) : (updBoot f s).gates = s.gates := rfl
@[simp] theorem updBoot_i2c (f : Boot → Boot) (s : State) : (updBoot f s).i2c = s.i2c := rfl
@[simp] theorem updBoot_groom (f : Boot → Boot) (s : State) : (updBoot f s).groom = s.groom := rfl
@[simp] theorem updBoot_chains (f : Boot → Boot) (s : State) : (updBoot f s).chains = s.chains := rfl
@[simp] theorem updBoot_sieveAt (f : Boot → Boot) (s : State) : (updBoot f s).sieveAt = s.sieveAt := rfl
@[simp] theorem updBoot_slots (f : Boot → Boot) (s : State) : (updBoot f s).slots = s.slots := rfl
@[simp] theorem updBoot_yards (f : Boot → Boot) (s : State) : (updBoot f s).yards = s.yards := rfl
@[simp] theorem updBoot_stalls (f : Boot → Boot) (s : State) : (updBoot f s).stalls = s.stalls := rfl
@[simp] theorem updBoot_halos (f : Boot → Boot) (s : State) : (updBoot f s).halos = s.halos := rfl
@[simp] theorem updBoot_lists (f : Boot → Boot) (s : State) : (updBoot f s).lists = s.lists := rfl
@[simp] theorem updBoot_paddock (f : Boot → Boot) (s : State) : (updBoot f s).paddock = s.paddock := rfl
@[simp] theorem updBoot_hold (f : Boot → Boot) (s : State) : (updBoot f s).hold = s.hold := rfl
@[simp] theorem updBoot_troughs (f : Boot → Boot) (s : State) : (updBoot f s).troughs = s.troughs := rfl
@[simp] theorem updBoot_troughResetting (f : Boot → Boot) (s : State) : (updBoot f s).troughResetting = s.troughResetting := rfl
@[simp] theorem updBoot_chans (f : Boot → Boot) (s : State) : (updBoot f s).chans = s.chans := rfl
@[simp] theorem updBoot_engines (f : Boot → Boot) (s : State) : (updBoot f s).engines = s.engines := rfl
@[simp] theorem updBoot_memctl (f : Boot → Boot) (s : State) : (updBoot f s).memctl = s.memctl := rfl
@[simp] theorem updBoot_host (f : Boot → Boot) (s : State) : (updBoot f s).host = s.host := rfl
@[simp] theorem updBoot_time (f : Boot → Boot) (s : State) : (updBoot f s).time = s.time := rfl
@[simp] theorem updBoot_ptp (f : Boot → Boot) (s : State) : (updBoot f s).ptp = s.ptp := rfl
@[simp] theorem updBoot_net (f : Boot → Boot) (s : State) : (updBoot f s).net = s.net := rfl
@[simp] theorem updBoot_power (f : Boot → Boot) (s : State) : (updBoot f s).power = s.power := rfl
@[simp] theorem updBoot_supply (f : Boot → Boot) (s : State) : (updBoot f s).supply = s.supply := rfl
@[simp] theorem updBoot_muck (f : Boot → Boot) (s : State) : (updBoot f s).muck = s.muck := rfl
@[simp] theorem updBoot_pending (f : Boot → Boot) (s : State) : (updBoot f s).pending = s.pending := rfl
@[simp] theorem updBoot_boot (f : Boot → Boot) (s : State) : (updBoot f s).boot = f s.boot := rfl

/-! ### A write of bytes touches memory alone -/

theorem putBytes_frame (b : List Byte) : ∀ (a : Nat) (s : State), putBytes a b s = { s with mem := (putBytes a b s).mem } := by
  induction b with
  | nil => intro a s; rfl
  | cons x t ih => intro a s; rw [putBytes, ih]; rfl


end Sys2Proof.Machine
end

