-- ==== Sys2Proof/Laws/Ops.lean ====
section
/-!
SUPPORT. What each shared operation can do, said once: detections, the HOLD drivers, bytes of memory, and that every memory
operation keeps the canonical form of memory.
-/
namespace Sys2Proof.Machine
open Sys2Proof

/-! ### The frames of detections -/

/-- What a write of the dictionary keeps. -/
theorem wr_keeps {α : Type} (proj : State → α) (h : ∀ (s : State) d, proj { s with dict := d } = proj s) (a n : Nat) (s : State) :
    proj (wr a n s) = proj s := h s _
theorem addE_keeps {α : Type} (proj : State → α) (h : ∀ (s : State) d, proj { s with dict := d } = proj s) (w a e n : Nat) (s : State) :
    proj (addE w a e n s) = proj s := h s _
theorem satE_keeps {α : Type} (proj : State → α) (h : ∀ (s : State) d, proj { s with dict := d } = proj s) (w a e n : Nat) (s : State) :
    proj (satE w a e n s) = proj s := h s _

theorem holdPair_keeps {α : Type} (proj : State → α) (h : ∀ (s : State) d, proj { s with dict := d } = proj s)
    (hh : ∀ (s : State) x, proj { s with hold := x } = proj s) (n c : Nat) (s : State) : proj (holdPair n c s) = proj s := by
  simp only [holdPair, hh, wr_keeps proj h]
  split
  · exact addE_keeps proj h 32 _ 0 1 s
  · rfl

theorem foldl_keeps {α β : Type} (f : β → State → State) (proj : State → α) (h : ∀ b s, proj (f b s) = proj s) (l : List β) :
    ∀ s, proj (l.foldl (fun s b => f b s) s) = proj s := by
  induction l with
  | nil => intro s; rfl
  | cons b t ih => intro s; rw [List.foldl_cons, ih, h]

theorem forceHold_keeps {α : Type} (proj : State → α) (h : ∀ (s : State) d, proj { s with dict := d } = proj s)
    (hh : ∀ (s : State) x, proj { s with hold := x } = proj s) (hs : ∀ (s : State) x, proj { s with steps := x } = proj s)
    (c : Nat) (s : State) : proj (forceHold c s) = proj s := by
  simp only [forceHold, hs]
  exact foldl_keeps (fun n s => holdPair n c s) proj (fun n s => holdPair_keeps proj h hh n c s) (List.range 16) s

theorem recordDetection_keeps {α : Type} (proj : State → α) (h : ∀ (s : State) d, proj { s with dict := d } = proj s) (b i : Nat)
    (s : State) : proj (recordDetection b i s) = proj s := by
  simp only [recordDetection, inc, wr_keeps proj h, addE_keeps proj h, satE_keeps proj h]
  split <;> simp only [wr_keeps proj h]

/-- A detection touches the dictionary, the HOLD parts, the steps and the reactions that wait, and nothing else. -/
theorem detect_keeps {α : Type} (proj : State → α) (h : ∀ (s : State) d, proj { s with dict := d } = proj s)
    (hh : ∀ (s : State) x, proj { s with hold := x } = proj s) (hs : ∀ (s : State) x, proj { s with steps := x } = proj s)
    (hr : ∀ (s : State) x, proj { s with reacts := x } = proj s) (b i : Nat) (s : State) : proj (detect b i s) = proj s := by
  have h1 := recordDetection_keeps proj h b i
  have h2 := forceHold_keeps proj h hh hs 5
  simp only [detect]
  split
  · split
    · exact h1 s
    · split <;> split <;> simp only [hr, h2, h1]
  · rfl

@[simp] theorem detect_mem (b i : Nat) (s : State) : (detect b i s).mem = s.mem := detect_keeps State.mem (fun _ _ => rfl) (fun _ _ => rfl) (fun _ _ => rfl) (fun _ _ => rfl) b i s
@[simp] theorem detect_poison (b i : Nat) (s : State) : (detect b i s).poison = s.poison :=
  detect_keeps State.poison (fun _ _ => rfl) (fun _ _ => rfl) (fun _ _ => rfl) (fun _ _ => rfl) b i s
@[simp] theorem detect_now (b i : Nat) (s : State) : (detect b i s).now = s.now := detect_keeps State.now (fun _ _ => rfl) (fun _ _ => rfl) (fun _ _ => rfl) (fun _ _ => rfl) b i s
@[simp] theorem detect_sdp (b i : Nat) (s : State) : (detect b i s).sdp = s.sdp := detect_keeps State.sdp (fun _ _ => rfl) (fun _ _ => rfl) (fun _ _ => rfl) (fun _ _ => rfl) b i s
@[simp] theorem detect_out (b i : Nat) (s : State) : (detect b i s).out = s.out := detect_keeps State.out (fun _ _ => rfl) (fun _ _ => rfl) (fun _ _ => rfl) (fun _ _ => rfl) b i s
@[simp] theorem detect_gates (b i : Nat) (s : State) : (detect b i s).gates = s.gates :=
  detect_keeps State.gates (fun _ _ => rfl) (fun _ _ => rfl) (fun _ _ => rfl) (fun _ _ => rfl) b i s
@[simp] theorem detect_boot (b i : Nat) (s : State) : (detect b i s).boot = s.boot := detect_keeps State.boot (fun _ _ => rfl) (fun _ _ => rfl) (fun _ _ => rfl) (fun _ _ => rfl) b i s
@[simp] theorem detect_power (b i : Nat) (s : State) : (detect b i s).power = s.power :=
  detect_keeps State.power (fun _ _ => rfl) (fun _ _ => rfl) (fun _ _ => rfl) (fun _ _ => rfl) b i s
@[simp] theorem detect_pending (b i : Nat) (s : State) : (detect b i s).pending = s.pending :=
  detect_keeps State.pending (fun _ _ => rfl) (fun _ _ => rfl) (fun _ _ => rfl) (fun _ _ => rfl) b i s
@[simp] theorem detect_byteAt (b i a : Nat) (s : State) : (detect b i s).byteAt a = s.byteAt a := by simp [State.byteAt]

/-- A source that its block lacks, or whose part has no power, is not detected (R469, R481). -/
theorem detect_none {b i : Nat} {s : State} (h : s.canDetect b i = false) : detect b i s = s := by simp [detect, h]
theorem detectIf_false (b i : Nat) (s : State) : detectIf false b i s = s := rfl
theorem detectIf_true (b i : Nat) (s : State) : detectIf true b i s = detect b i s := rfl

/-! ### Memory operations keep the canonical form -/

theorem detectOff_mem (b i : Nat) (s : State) : (detectOff b i s).mem = s.mem := by
  have h : (recordDetection b i s).mem = s.mem := recordDetection_keeps State.mem (fun _ _ => rfl) b i s
  unfold detectOff; dsimp only; split <;> exact h

theorem ite_mem (c : Prop) [Decidable c] (s t : State) (h : t.mem = s.mem) : (if c then s else t).mem = s.mem := by
  split
  · rfl
  · exact h

theorem offAccess_mem (a : Nat) (s : State) : (offAccess a s).mem = s.mem := by
  simp only [offAccess]
  split
  · split
    · rfl
    · rw [ite_mem _ _ _ (detectOff_mem ..), ite_mem _ _ _ (detectOff_mem ..)]; rfl
  · split
    · rfl
    · simp only [detectOff_mem]; rfl
  · rfl

theorem countUncorrectable_mem (a : Nat) (s : State) : (countUncorrectable a s).mem = s.mem := by
  simp only [countUncorrectable, detect_mem]; split <;> rfl

theorem countBad_mem (a b : Nat) (s : State) : (countBad a b s).mem = s.mem := by
  unfold countBad
  split
  · exact countUncorrectable_mem _ s
  · exact offAccess_mem _ s

/-- A read changes no byte. -/
theorem memRead_mem (a n : Nat) (s : State) : (memRead a n s).2.mem = s.mem := by
  unfold memRead
  split
  · rfl
  · exact foldl_keeps (fun b s => countBad a b s) State.mem (fun b s => countBad_mem a b s) _ s

theorem memReadZero_mem (a n : Nat) (s : State) : (memReadZero a n s).2.mem = s.mem :=
  foldl_keeps (fun b s => countBad a b s) State.mem (fun b s => countBad_mem a b s) _ (drawn s)

@[simp] theorem reloadRows_mem (a n : Nat) (s : State) : (reloadRows a n s).mem = s.mem := by
  unfold reloadRows; dsimp only; exact ite_mem _ _ _ rfl

theorem writePresent_mem (place a : Nat) (b : List Byte) (s : State) :
    (writePresent place a b s).mem = (putBytes place b s).mem := by
  have h : ∀ (l : List Nat) (p : List Nat), ({ l.foldl (fun s k => countUncorrectable (k * 64) s) s with poison := p } : State).mem
      = s.mem := fun l _ => foldl_keeps (fun k s => countUncorrectable (k * 64) s) State.mem (fun k s => countUncorrectable_mem _ s) l s
  simp only [writePresent, reloadRows_mem]
  exact putBytes_mem_congr b place (h _ _)

theorem byteAt_writePresent (place a : Nat) (b : List Byte) (s : State) (a' : Nat) :
    (writePresent place a b s).byteAt a' = if place ≤ a' ∧ a' < place + b.length then b.getD (a' - place) 0 else s.byteAt a' := by
  rw [← byteAt_putBytes]; simp only [State.byteAt, writePresent_mem]

/-- What a write of present memory leaves in each byte. -/
theorem byteAt_memWrite {a : Nat} {b : List Byte} {s : State} (h : s.presentAll a b.length = true) (a' : Nat) :
    (memWrite a b s).byteAt a'
      = if s.phys a ≤ a' ∧ a' < s.phys a + b.length then b.getD (a' - s.phys a) 0 else s.byteAt a' := by
  simp only [memWrite, h, if_true, byteAt_writePresent]

theorem byteAt_writeBlock {s : State} {a k a' : Nat} {b : List Byte} (t : State)
    (h : s.present (blockStart a k) = true →
      ¬(s.phys (blockStart a k) ≤ a' ∧ a' < s.phys (blockStart a k) + (blockPart a b k).length)) :
    (writeBlock s a b k t).byteAt a' = t.byteAt a' := by
  simp only [writeBlock]
  split
  · rw [byteAt_writePresent, if_neg (h ‹_›)]
  · simp only [State.byteAt, offAccess_mem]

/-- A write that is not present as a whole leaves every byte alone but those of the blocks that are present (R374, R378). -/
theorem memWrite_frame {a : Nat} {b : List Byte} {s : State} (h : s.presentAll a b.length = false) (a' : Nat)
    (ha : ∀ k ∈ blocksOf a b.length, s.present (blockStart a k) = true →
      ¬(s.phys (blockStart a k) ≤ a' ∧ a' < s.phys (blockStart a k) + (blockPart a b k).length)) :
    (memWrite a b s).byteAt a' = s.byteAt a' := by
  simp only [memWrite, h, Bool.false_eq_true, if_false]
  suffices H : ∀ (l : List Nat) (t : State), (∀ k ∈ l, k ∈ blocksOf a b.length) →
      (l.foldl (fun t k => writeBlock s a b k t) t).byteAt a' = t.byteAt a' from H _ s (fun _ h => h)
  intro l
  induction l with
  | nil => intro t _; rfl
  | cons k l ih =>
    intro t hl
    rw [List.foldl_cons, ih _ (fun k hk => hl k (List.mem_cons_of_mem _ hk)), byteAt_writeBlock t (ha k (hl k List.mem_cons_self))]

theorem writePresent_wf (place a : Nat) (b : List Byte) {s : State} (h : Memory.wf s.mem = true) :
    Memory.wf (writePresent place a b s).mem = true := by
  rw [writePresent_mem]; exact putBytes_wf _ _ h

theorem writeBlock_wf (s : State) (a : Nat) (b : List Byte) (k : Nat) {t : State} (h : Memory.wf t.mem = true) :
    Memory.wf (writeBlock s a b k t).mem = true := by
  simp only [writeBlock]
  split
  · exact writePresent_wf _ _ _ h
  · rw [offAccess_mem]; exact h

theorem foldl_wf {β : Type} (f : β → State → State) (hf : ∀ b t, Memory.wf t.mem = true → Memory.wf (f b t).mem = true) (l : List β) :
    ∀ {t : State}, Memory.wf t.mem = true → Memory.wf (l.foldl (fun t b => f b t) t).mem = true := by
  induction l with
  | nil => intro t h; exact h
  | cons b l ih => intro t h; exact ih (hf b t h)

theorem memWrite_wf (a : Nat) (b : List Byte) {s : State} (h : Memory.wf s.mem = true) : Memory.wf (memWrite a b s).mem = true := by
  simp only [memWrite]
  split
  · exact writePresent_wf _ _ _ h
  · exact foldl_wf (fun k t => writeBlock s a b k t) (fun k t ht => writeBlock_wf s a b k ht) _ h

theorem zeroRange_wf (a n : Nat) {s : State} (h : Memory.wf s.mem = true) : Memory.wf (zeroRange a n s).mem = true :=
  memory_filter_wf _ h

theorem logInterrupt_wf (b i k : Nat) {s : State} (h : Memory.wf s.mem = true) : Memory.wf (logInterrupt b i k s).mem = true := by
  simp only [logInterrupt]
  split
  · exact putBytes_wf _ _ (putBytes_wf _ _ h)
  · exact h

theorem zeroingDone_wf (hf : Nat) {s : State} (h : Memory.wf s.mem = true) : Memory.wf (zeroingDone hf s).mem = true := by
  simp only [zeroingDone]
  split
  · exact memory_filter_wf _ h
  · exact h

theorem miscorrect_wf (a : Nat) {s : State} (h : Memory.wf s.mem = true) : Memory.wf (miscorrect a s).mem = true :=
  putBytes_wf _ _ h

theorem gsyncEdge_wf (k g : Nat) {s : State} (h : Memory.wf s.mem = true) : Memory.wf (gsyncEdge k g s).mem = true :=
  putBytes_wf _ _ (by exact h)

theorem setRecord_wf (o n v : Nat) {s : State} (h : Memory.wf s.mem = true) : Memory.wf (setRecord o n v s).mem = true :=
  putBytes_wf _ _ h

theorem takeImage_wf (b : List Byte) {s : State} (h : Memory.wf s.mem = true) : Memory.wf (takeImage b s).mem = true :=
  putBytes_wf _ _ h

end Sys2Proof.Machine
end

