-- ==== Sys2Proof/Machine/Pins.lean ====
section
/-!
DEFINITION. The pins: their balls (R510, R512 to R515), the levels that the device puts on them (R460, R480, R516) and their
pulls (R517). All of it is a view of State; no command reads it.
-/
namespace Sys2Proof.Machine

/-- A ball: its row index, 1 for row A to 51 for row BN, and its column, 1 to 51 (R510, R512). -/
structure Ball where
  row : Nat
  col : Nat
  deriving DecidableEq, Repr
/-- The letters of a row. -/
def Ball.rowName (b : Ball) : String :=
  ["A", "B", "C", "D", "E", "F", "G", "H", "J", "K", "L", "M", "N", "P", "T", "U", "V", "W", "Y", "AA",
   "AB", "AC", "AD", "AE", "AF", "AG", "AH", "AJ", "AK", "AL", "AM", "AN", "AP", "AT", "AU", "AV", "AW", "AY", "BA", "BB",
   "BC", "BD", "BE", "BF", "BG", "BH", "BJ", "BK", "BL", "BM", "BN"].getD (b.row - 1) ""

/-- The signals of one GDDR6 channel (R512). -/
inductive G6Signal where
  | dq (n : Nat)
  | edc (b : Nat)
  | dbi (b : Nat)
  | wck (b : Nat) (neg : Bool)
  | ca (n : Nat)
  | cabi
  | ck (neg : Bool)
  | cke
  | mrst
  deriving DecidableEq, Repr
/-- Block row and block column of a signal of a channel. -/
def G6Signal.place : G6Signal → Nat × Nat
  | .dq n => (n / 4 + 1, n % 4 + 1)
  | .edc b => (2 * b + 1, 5)
  | .dbi b => (2 * b + 1, 6)
  | .wck b neg => (2 * b + 2, 5 + boolNat neg)
  | .ca n => if n < 5 then (5, n + 1) else (6, n - 4)
  | .cabi => (5, 6)
  | .ck neg => (7, 1 + boolNat neg)
  | .cke => (7, 3)
  | .mrst => (7, 4)

/-- The lanes of a gate (R513). -/
inductive GateLane where
  | clk | d0 | d1
  deriving DecidableEq, Repr

/-- The signals of the package; `neg` tells the N ball of a pair. -/
inductive Signal where
  | g6 (channel : Nat) (x : G6Signal)
  | gate (n : Nat) (lane : GateLane) (neg : Bool)
  | usb4Tx (lane : Nat) (neg : Bool)
  | usb4Rx (lane : Nat) (neg : Bool)
  | usb2 (dm : Bool)
  | ethTx (port : Nat) (neg : Bool)
  | ethRx (port : Nat) (neg : Bool)
  | holdP (n : Nat)
  | holdN (n : Nat)
  | refclk (neg : Bool)
  | xtal (out : Bool)
  | scl (g : Nat)
  | sda (g : Nat)
  | gsync (g : Nat)
  | tcap (i : Nat)
  | wake (n : Nat)
  | faultN
  | resetN
  | tout (i : Nat)
  | pmbScl | pmbSda | pmbAlertN
  | pgood (r : Nat)
  | bootsel (b : Nat)
  | tck | tms | tdi | tdo | trstN
  | qspiClk | qspiCsN
  | qspiIo (k : Nat)
  deriving DecidableEq, Repr

/-- The ball of a signal (R512 to R514). -/
def Signal.ball : Signal → Ball
  | .g6 c x => ⟨if c < 8 then x.place.1 else 52 - x.place.1, 1 + 6 * (c % 8) + x.place.2⟩
  | .gate n lane neg =>
    let o := match lane with | .clk => 0 | .d0 => 2 | .d1 => 4
    ⟨8 + 2 * (n % 18) + boolNat neg, if n < 18 then 2 + o else 50 - o⟩
  | .usb4Tx l neg => ⟨9, 20 + 3 * l + boolNat neg⟩
  | .usb4Rx l neg => ⟨11, 20 + 3 * l + boolNat neg⟩
  | .usb2 dm => ⟨9, 26 + boolNat dm⟩
  | .ethTx p neg => ⟨9, 29 + 3 * p + boolNat neg⟩
  | .ethRx p neg => ⟨11, 29 + 3 * p + boolNat neg⟩
  | .holdP n => ⟨40, 12 + n⟩
  | .holdN n => ⟨41, 12 + n⟩
  | .refclk neg => ⟨40, 32 + boolNat neg⟩
  | .xtal out => ⟨40, 36 + boolNat out⟩
  | .scl g => ⟨42, 12 + 2 * g⟩
  | .sda g => ⟨42, 13 + 2 * g⟩
  | .gsync g => ⟨42, 24 + g⟩
  | .tcap i => ⟨42, 30 + i⟩
  | .wake n => ⟨42, 32 + n⟩
  | .faultN => ⟨42, 36⟩
  | .resetN => ⟨42, 37⟩
  | .tout i => ⟨43, 12 + i⟩
  | .pmbScl => ⟨43, 20⟩
  | .pmbSda => ⟨43, 21⟩
  | .pmbAlertN => ⟨43, 22⟩
  | .pgood r => ⟨43, 23 + r⟩
  | .bootsel b => ⟨43, 27 + b⟩
  | .tck => ⟨43, 30⟩
  | .tms => ⟨43, 31⟩
  | .tdi => ⟨43, 32⟩
  | .tdo => ⟨43, 33⟩
  | .trstN => ⟨43, 34⟩
  | .qspiClk => ⟨43, 35⟩
  | .qspiCsN => ⟨43, 36⟩
  | .qspiIo k => ⟨43, 37 + k⟩

/-! ### Supply balls (R515) -/

inductive Rail where
  | core | sram | phy | ddrq | dphy | io | ioHold | aon
  deriving DecidableEq, Repr

/-- The rail of a ball that belongs to no signal; none for VSS. -/
def railAt (b : Ball) : Option Rail :=
  let inner := within 9 43 b.col
  let odd := b.col % 2 == 1
  if within 13 37 b.row && inner && (b.row + b.col) % 2 == 0 then
    some (if b.row ≤ 15 || 35 ≤ b.row then .sram else .core)
  else if (b.row == 12 || b.row == 38) && inner && odd then some .phy
  else if (b.row == 8 || b.row == 44) && inner && odd then some .ddrq
  else if (b.col == 8 || b.col == 44) && within 8 42 b.row && b.row % 2 == 0 then some .dphy
  else if b.row == 39 && within 28 40 b.col && b.col % 2 == 0 then some .io
  else if b.row == 39 && within 12 26 b.col && b.col % 2 == 0 then some .ioHold
  else if b.row == 39 && (b.col == 9 || b.col == 10 || b.col == 42 || b.col == 43) then some .aon
  else none

/-! ### Pin states (R460, R516) -/

/-- What the device does with a pin: nothing, so that the board or the other side sets its level; a level that it drives; an
interface that works; an electrical idle; the self-refresh levels of a memory half in RET. -/
inductive PinDrive where
  | hiZ | low | high | works | idle | held
  deriving DecidableEq, Repr
abbrev driveOf (b : Bool) : PinDrive := if b then .high else .low

/-- Domain of a signal that does not lie in D0. -/
def Signal.domain : Signal → Option Nat
  | .g6 c _ => some (if c < 8 then 12 else 13)
  | .gate n _ _ => some (gateDomain n)
  | .scl g => some (4 + g)
  | .sda g => some (4 + g)
  | .usb4Tx _ _ => some 2
  | .usb4Rx _ _ => some 2
  | .usb2 _ => some 2
  | .ethTx _ _ => some 3
  | .ethRx _ _ => some 3
  | .qspiClk => some 1
  | .qspiCsN => some 1
  | .qspiIo _ => some 1
  | _ => none

/-- A pin of a domain that is ON, outside reset. -/
def State.pinOn (s : State) : Signal → PinDrive
  | .g6 c _ => if s.memctl.trained.getD (c / 8) false then .works else .idle
  | .gate n _ _ => if s.gateState n == 0 then .hiZ else .works
  | .scl g => if (s.i2cm g).running.isSome then .works else .hiZ
  | .sda g => if (s.i2cm g).running.isSome then .works else .hiZ
  | .usb4Tx _ _ => if 1 ≤ s.link then .works else .idle
  | .usb4Rx _ _ => if 1 ≤ s.link then .works else .idle
  | .usb2 _ => if s.romServes 2 then .works else .hiZ
  | .ethTx p _ => if s.portUp p then .works else .idle
  | .ethRx p _ => if s.portUp p then .works else .idle
  | .qspiClk => if s.qspiBusy then .works else .low
  | .qspiCsN => if s.qspiBusy then .works else .high
  | .qspiIo _ => if s.qspiBusy then .works else .hiZ
  | .holdP n => driveOf (s.holdLevels n).1
  | .holdN n => driveOf (s.holdLevels n).2
  | .faultN => if s.faultLow then .low else .hiZ
  | .gsync g => driveOf (s.gsyncLevel g)
  | .tout i => driveOf (s.toutLevel i)
  | .refclk _ => .works
  | .xtal _ => .works
  | _ => .hiZ

/-- The state of a pin. In power-on reset nothing is driven (R523); while RESET_N is low the HOLD pairs are in HOLD, GSYNC and
TOUT are low, and FAULT_N follows what is kept (R516). -/
def State.pin (s : State) (x : Signal) : PinDrive :=
  if s.boot.powerReset then .hiZ
  else if s.boot.resetNLow then
    match x with
    | .gsync _ => .low
    | .tout _ => .low
    | .holdP _ => .low
    | .holdN _ => .high
    | .faultN => s.pinOn .faultN
    | .refclk _ => .works
    | .xtal _ => .works
    | _ => .hiZ
  else
    match x.domain with
    | none => s.pinOn x
    | some d =>
      if s.isOn d then s.pinOn x
      else if (d == 12 || d == 13) && s.domState d == 4 then .held
      else .hiZ

/-- The device's own pull on a pin (R517): true for up. -/
def Signal.pull : Signal → Option Bool
  | .bootsel _ => some false
  | .trstN => some false
  | .tck => some false
  | .tms => some true
  | .tdi => some true
  | _ => none

end Sys2Proof.Machine
end

