-- ==== Sys2Proof/Machine/Electrical.lean ====
section
/-!
DEFINITION. Electrical, clock and thermal data (R520 to R534): the conditions under which the model's other rules hold, as
predicates in mV, mA, mW, ppm and hundredths of a degree. No command reads them.
-/
namespace Sys2Proof.Machine

/-! ### Supplies (R520 to R524) -/

/-- Lowest and highest voltage of a rail that the part survives (R520), in mV. -/
def Rail.limits : Rail → Int × Int
  | .core => (-300, 950)
  | .sram => (-300, 950)
  | .aon => (-300, 950)
  | .phy => (-300, 1000)
  | .dphy => (-300, 1450)
  | .ddrq => (-300, 1600)
  | .io => (-300, 2200)
  | .ioHold => (-300, 3900)

/-- Lowest and highest voltage in operation (R521), in mV; `target` is the PMBus target of VDD_CORE. -/
def Rail.range (target : Int) : Rail → Int × Int
  | .core => (target - 40, target + 30)
  | .sram => (776, 824)
  | .aon => (776, 824)
  | .phy => (825, 875)
  | .ddrq => (1310, 1390)
  | .dphy => (1140, 1260)
  | .io => (1710, 1890)
  | .ioHold => (3135, 3465)
def Rail.inRange (r : Rail) (target mv : Int) : Bool := decide ((r.range target).1 ≤ mv) && decide (mv ≤ (r.range target).2)
/-- Largest current of a rail (R521), in mA. -/
def Rail.maxCurrent : Rail → Nat
  | .core => 65000
  | .sram => 6000
  | .aon => 150
  | .phy => 6000
  | .ddrq => 3000
  | .dphy => 1500
  | .io => 300
  | .ioHold => 250

/-- Whether the D0 rails are in range whenever another rail is above 0.3 V (R524). -/
def railsOrdered (target : Int) (mv : Rail → Int) : Bool :=
  let d0 := [Rail.aon, .io, .ioHold]
  d0.all (fun r => r.inRange target (mv r)) || [Rail.core, .sram, .phy, .ddrq, .dphy].all (fun r => decide (mv r ≤ 300))
/-- Whether a rail rises from 10 % to 90 % of its nominal value in a time that R524 allows, in µs. -/
def riseOk (us : Nat) : Bool := within 100 10000 us
/-- Whether the VDD_CORE regulator follows a command fast enough (R522): a step in mV and the time it takes in µs. -/
def regulatorOk (stepMv us : Nat) : Bool := 50 < stepMv || us ≤ 150

/-! ### DC levels (R526, R527) -/

inductive IoClass where
  | io18 | od18 | od33 | hold33
  deriving DecidableEq, Repr
/-- What an input of a class reads a voltage in mV as; none between its thresholds, and for a class without inputs (R526). -/
def IoClass.reads (c : IoClass) (mv : Int) : Option Bool :=
  let level := fun (low high : Int) => if mv ≤ low then some false else if high ≤ mv then some true else none
  match c with
  | .io18 => level 630 1170
  | .od18 => level 540 1260
  | .od33 => none
  | .hold33 => none
/-- Whether the readback of a HOLD pin that is driven `high` accepts a voltage in mV (R527). -/
def holdReadOk (high : Bool) (mv : Int) : Bool := if high then decide (2000 ≤ mv) else decide (mv ≤ 1000)
/-- Whether the board's pull on a HOLD pin and its load are allowed (R527), in Ω and pF. -/
def holdLoadOk (pullOhm loadPf : Nat) : Bool := within 4700 47000 pullOhm && loadPf ≤ 2000

/-! ### Clocks (R529 to R532) -/

/-- Whether a reference clock has an allowed frequency: its deviation from 100 MHz in ppm (R529). -/
def refclkOk (ppm : Int) : Bool := decide (-50 ≤ ppm) && decide (ppm ≤ 50)
/-- Whether a crystal has an allowed deviation from 32.768 kHz (R530). -/
def crystalOk (ppm : Int) : Bool := decide (-100 ≤ ppm) && decide (ppm ≤ 100)
/-- Bounds of PCLK in kHz, trimmed against a crystal or not (R530), and of FIC (R531). -/
def pclkRange (trimmed : Bool) : Nat × Nat := if trimmed then (24875, 25125) else (23750, 26250)
abbrev ficRange : Nat × Nat := (90000, 110000)
/-- Delay of an edge of GSYNC or TOUT from its TCLK edge to the ball, in ps: least and most, into a load in pF (R532). -/
def edgeDelay (loadPf : Nat) : Nat × Nat := (2000, 4000 + (loadPf - 10) * 100)

/-! ### Heat (R521, R534) -/

/-- Junction temperature over the ambient, in hundredths of a degree: power in W, resistances in thousandths of °C/W. -/
def junction (ambient powerW rJunctionLid rInterface rSink : Nat) : Nat :=
  ambient + powerW * (rJunctionLid + rInterface + rSink) / 10
/-- Whether a junction temperature lies in the range of its grade (R3, R521): CT32-XB, or CT32-KB. -/
def gradeOk (xb : Bool) (t : Int) : Bool :=
  if xb then decide (-4000 ≤ t) && decide (t ≤ 10500) else decide (0 ≤ t) && decide (t ≤ 10000)

end Sys2Proof.Machine
end

