-- ==== Sys2Proof/Tests/Slice0.lean ====
section
/-!
SUPPORT. The model's own tests: ill-formed commands for every check of `Instr.wf`, values that the manual gives, and for each
statement about this model a state and operands that meet its hypotheses.
-/
namespace Sys2Proof.Tests
open Sys2Proof Sys2Proof.Machine
set_option Elab.async false

/-! ### Ill-formed commands -/

theorem test_ill_formed_gates : (([
    .gateSilent 36, .deskewSequence 36 true, .evNeg 36, .evPos 36, .vecNeg 36, .vecPos 36, .timeHigh 36, .marker 36, .pad 36,
    .status 36, .reservedWord 36, .stagingFlushTimeout 36, .tableLoadLateSwitch 36, .tableSwitchLimit 36,
    .biasScriptGiveUp 36, .blockRelease 36 0, .blockRelease 0 16384, .csi2Packet 36 ⟨false, 0, 0, 0x30, .ok, true, []⟩,
    .csi2Packet 0 ⟨false, 4, 0, 0x30, .ok, true, []⟩, .csi2Packet 0 ⟨false, 0, 4, 0x30, .ok, true, []⟩,
    .csi2Packet 0 ⟨false, 0, 0, 64, .ok, true, []⟩] : List Instr).all (fun c => !c.wf)) = true := by decide +kernel

theorem test_ill_formed_steps_and_hold : (([
    .stallDeliver 32 0, .holdResultReceive 65536 0 0 0, .holdResultReceive 0 65536 0 0, .holdResultReceive 0 0 256 0,
    .holdResultReceive 0 0 0 4, .holdReadbackMismatch 16 false 0] : List Instr).all (fun c => !c.wf)) = true := by decide +kernel

theorem test_ill_formed_sdp : (([
    .sdpDatagramRx 2 0 [], .sessionTimeout 0, .sessionTimeout 4294967296, .baleCommit (.session 0),
    .baleDiscard (.session 4294967296), .registerWrite (.object 16777216 0 [0]), .registerWrite (.object 0 16777216 [0]),
    .registerWrite (.object 0 0 []), .registerWrite (.domain 16777216 []), .registerWrite (.bar0 0 []),
    .registerWrite (.bar0 0x1000000 [0]), .counterClear 16777216] : List Instr).all (fun c => !c.wf)) = true := by decide +kernel

theorem test_ill_formed_i2c_and_groom : (([
    .i2cXfer 6 [], .i2cXfer 0 (List.replicate 4097 0), .i2cWrite 6 .addressNack, .i2cRead 6 .addressNack,
    .i2cWriteRead 6 .addressNack, .i2cDelay 6, .i2cEnd 6, .i2cTimeout 6, .groomAccept 4294967296, .chainInput 16,
    .chainSettled 16] : List Instr).all (fun c => !c.wf)) = true := by decide +kernel

theorem test_ill_formed_jobs_and_leaves : (([
    .jobLoad 64, .jobUnload 64, .jobLoadDone 64, .yardReadmit 256 0, .yardReadmit 0 64, .haloArrival 32 0, .haloArrival 0 256,
    .haloDeadline 32 0, .haloDeadline 0 256, .ingressBlockConsume 32, .sheafSeal 32 0, .sheafSeal 0 256,
    .spikeLayerStart 32 0, .spikeLayerStart 0 256, .denseLayerStart 32 0, .denseLayerStart 0 256, .detectListMerge 64 0,
    .detectListMerge 0 256, .gleanVisit 32 0 0 0 0 0, .gleanVisit 0 256 0 0 0 0, .gleanVisit 0 0 4 0 0 0] : List Instr).all (fun c => !c.wf)) = true := by decide +kernel

theorem test_ill_formed_supply_and_rails : (([
    .timingErrorReplay 32 1, .replayEmergency 32, .throttleEnd 32, .operationOn 4 ⟨0⟩, .operationOff 4 ⟨0⟩,
    .voutCommand 4 ⟨0⟩, .readVout 4 0 ⟨0⟩, .readVout 0 65536 ⟨0⟩, .statusWord 4 0 ⟨0⟩, .statusWord 0 65536 ⟨0⟩, .pgoodRise 4,
    .pgoodFall 4, .pgoodTimeout 4] : List Instr).all (fun c => !c.wf)) = true := by decide +kernel

theorem test_ill_formed_troughs_and_barrow : (([
    .tailAdvance 16384, .headWrite 16384 0, .headWrite 0 4294967296, .pop 16384 0 8 .ok, .pop 0 0 0 .ok, .pop 0 60 8 .ok,
    .chanStart 256, .chanPause 256, .chanResume 256, .chanStop 256, .engineTurn 8, .descriptorEnd 8 .ok, .pauseDrained 256 0] : List Instr).all (fun c => !c.wf)) = true := by decide +kernel

theorem test_ill_formed_memory_and_host : (([
    .gddr6TrainingDone 2 16 8, .gddr6TrainingDone 0 13 8, .gddr6TrainingDone 0 16 12, .gddr6ZeroingDone 2,
    .memRetrain 16 true false, .memScrubRead 73, .ceLimitExceeded 16, .granarySweep 0 [32768], .usb4LinkUp 0, .usb4LinkUp 4,
    .bar2Access false 0 0 [], .bar2Access false 0x7FFFFFFFF 2 [], .statusClearOnRead 0x48,
    .recoveryIdentify ⟨4294967296, true⟩, .recoveryLoad ⟨4294967296, true⟩ 0 [], .recoveryLoad ⟨0, true⟩ 4294967296 [],
    .recoveryBoot ⟨4294967296, true⟩ 0, .recoveryBoot ⟨0, true⟩ 4294967296, .recoveryStatus ⟨4294967296, true⟩] : List Instr).all (fun c => !c.wf)) = true := by decide +kernel

theorem test_ill_formed_time : (([
    .timeSet 18446744073709551616, .syncRx ⟨2, 0, 0, 0, 0, 0, 0, true⟩ false 0, .syncRx ⟨0, 256, 0, 0, 0, 0, 0, true⟩ false 0,
    .syncRx ⟨0, 0, 18446744073709551616, 0, 0, 0, 0, true⟩ false 0, .syncRx ⟨0, 0, 0, 65536, 0, 0, 0, true⟩ false 0,
    .syncRx ⟨0, 0, 0, 0, 65536, 0, 0, true⟩ false 0, .followUpRx ⟨2, 0, 0, 0, 0, 0, 0, true⟩ 0, .delayRespRx ⟨2, 0, 0, 0, 0, 0, 0, true⟩ 0,
    .delayReqRx ⟨2, 0, 0, 0, 0, 0, 0, true⟩, .pdelayReqRx ⟨2, 0, 0, 0, 0, 0, 0, true⟩ 0, .pdelayRespRx ⟨2, 0, 0, 0, 0, 0, 0, true⟩,
    .managementRx ⟨2, 0, 0, 0, 0, 0, 0, true⟩, .announceRx ⟨2, 0, 0, 0, 0, 0, 0, true⟩ ⟨0, 0, 0, 0, 0, 0, 0, 0⟩,
    .announceRx ⟨0, 0, 0, 0, 0, 0, 0, true⟩ ⟨18446744073709551616, 0, 0, 0, 0, 0, 0, 0⟩,
    .announceRx ⟨0, 0, 0, 0, 0, 0, 0, true⟩ ⟨0, 256, 0, 0, 0, 0, 0, 0⟩,
    .announceRx ⟨0, 0, 0, 0, 0, 0, 0, true⟩ ⟨0, 0, 256, 0, 0, 0, 0, 0⟩,
    .announceRx ⟨0, 0, 0, 0, 0, 0, 0, true⟩ ⟨0, 0, 0, 256, 0, 0, 0, 0⟩,
    .announceRx ⟨0, 0, 0, 0, 0, 0, 0, true⟩ ⟨0, 0, 0, 0, 65536, 0, 0, 0⟩,
    .announceRx ⟨0, 0, 0, 0, 0, 0, 0, true⟩ ⟨0, 0, 0, 0, 0, 256, 0, 0⟩,
    .announceRx ⟨0, 0, 0, 0, 0, 0, 0, true⟩ ⟨0, 0, 0, 0, 0, 0, 65536, 0⟩, .pdelayReqTx 2 none, .toutPulse 8, .toutPulseEnd 8,
    .tcapEdge 2 true 12] : List Instr).all (fun c => !c.wf)) = true := by decide +kernel

theorem test_ill_formed_fieldnet : (([
    .heartbeat ⟨2, 0, 0, 0, 0, 0, 0, 0, 0, 0, 0, 0, 0, []⟩, .heartbeat ⟨0, 65536, 0, 0, 0, 0, 0, 0, 0, 0, 0, 0, 0, []⟩,
    .heartbeat ⟨0, 0, 256, 0, 0, 0, 0, 0, 0, 0, 0, 0, 0, []⟩, .heartbeat ⟨0, 0, 0, 256, 0, 0, 0, 0, 0, 0, 0, 0, 0, []⟩,
    .heartbeat ⟨0, 0, 0, 0, 65536, 0, 0, 0, 0, 0, 0, 0, 0, []⟩, .heartbeat ⟨0, 0, 0, 0, 0, 65536, 0, 0, 0, 0, 0, 0, 0, []⟩,
    .heartbeat ⟨0, 0, 0, 0, 0, 0, 4294967296, 0, 0, 0, 0, 0, 0, []⟩, .heartbeat ⟨0, 0, 0, 0, 0, 0, 0, 256, 0, 0, 0, 0, 0, []⟩,
    .heartbeat ⟨0, 0, 0, 0, 0, 0, 0, 0, 256, 0, 0, 0, 0, []⟩, .heartbeat ⟨0, 0, 0, 0, 0, 0, 0, 0, 0, 65536, 0, 0, 0, []⟩,
    .heartbeat ⟨0, 0, 0, 0, 0, 0, 0, 0, 0, 0, 65536, 0, 0, []⟩,
    .heartbeat ⟨0, 0, 0, 0, 0, 0, 0, 0, 0, 0, 0, 18446744073709551616, 0, []⟩,
    .halo ⟨2, 0, 0, 0, 0, 0, 0, 0, 0, 0, 0, 0, 0, []⟩, .delivery ⟨2, 0, 0, 0, 0, 0, 0, 0, 0, 0, 0, 0, 0, []⟩,
    .records ⟨2, 0, 0, 0, 0, 0, 0, 0, 0, 0, 0, 0, 0, []⟩, .tracks ⟨2, 0, 0, 0, 0, 0, 0, 0, 0, 0, 0, 0, 0, []⟩,
    .remap ⟨2, 0, 0, 0, 0, 0, 0, 0, 0, 0, 0, 0, 0, []⟩, .peerLost 4096, .portLinkUp 2, .portLinkDown 2, .arpRequest 2 0,
    .icmpEchoRequest 2 false 0 0 [], .neighbourSolicitation 2 0, .unwantedFrame 2 .pause, .frameErrorRx 2 .fcs] : List Instr).all (fun c => !c.wf)) = true := by decide +kernel

theorem test_ill_formed_power_boot_faults : (([
    .domainPhaseReady 0, .domainPhaseReady 54, .domainSwitchesOpen 0, .domainSwitchesOpen 54, .quiesceDone 0, .quiesceDone 54,
    .quiesceTimeout 0, .quiesceTimeout 54, .switchFail 0, .switchFail 54, .wakeInput 4 .high, .wakeRelease 4, .wakeClear 256,
    .resetNRelease 8, .powerOnResetRelease true 8, .rollbackAdvance 256, .faultClear 93 0, .faultClear 0 4294967296,
    .faultForce 93 0, .faultForce 0 4294967296, .faultClearCounts 93, .muckPassStart 87, .sliceStart 87,
    .slicePreempt 87 .work, .sliceEnd 87 0, .sliceEnd 0 4294967296, .muckRequest 87, .muckRelease 32] : List Instr).all (fun c => !c.wf)) = true := by decide +kernel


/-! ### Devices that the witnesses start from -/

/-- Enter the elements of a list, each of them not at its default: address, element, value. -/
def with' (ws : List (Nat × Nat × Nat)) (s : State) : State :=
  { s with dict := ws.foldl (fun d w => sput (dkey w.1 w.2.1) (.num w.2.2) d) s.dict }

/-- A device whose firmware runs, with the named domains ON under a HOST vote, and the others as their votes leave them. -/
def device (ons : List Nat) : State :=
  with' (ons.flatMap (fun d => [(Obj.domainState d, 0, 2), (Obj.domainVoteHost d, 0, 2)])) { State.reset with
    power := { Power.reset with domains := [], bootVote := false }
    boot := { Boot.reset with phase := .running } }

/-- D1 to D3, D10 and the memories are ON; nothing waits to rise or to fall. -/
def on1 : State := device [1, 2, 3, 10, 12, 13, 14, 15, 16, 17]
/-- The same at a late instant, past every deadline. -/
def late : State := { on1 with now := 10 ^ 30 }

/-- The bytes of a record: offset and value of each field of two bytes. -/
def rec' (n : Nat) (fs : List (Nat × Nat)) : List Byte :=
  (List.range n).map (fun i => ((fs.findSome? (fun f =>
    if i = f.1 then some (BitVec.ofNat 8 f.2) else if i = f.1 + 1 ∧ 256 ≤ f.2 then some (BitVec.ofNat 8 (f.2 / 256)) else none)).getD 0))

/-- A job image of four layers on 4 × 4 maps, one group over gate 0: a sheaf, a spike layer on events, a spike layer that
reads it with a kernel of 3 × 3, and a pool. -/
def image : JobImage where
  header := []
  layers := [rec' 64 [(0, 0x10), (8, 1), (12, 4), (14, 4), (38, 1)], rec' 64 [(0, 1), (8, 1), (12, 4), (14, 4), (11, 1)],
    rec' 64 [(0, 2), (4, 1), (8, 1), (10, 1), (11, 1), (12, 4), (14, 4)],
    rec' 64 [(0, 0x30), (8, 1), (10, 1), (12, 4), (14, 4), (16, 1), (17, 1), (18, 1), (19, 1)],
    rec' 64 [(0, 0x50), (4, 3), (6, 3), (8, 1), (12, 4), (14, 4), (36, 4)]]
  groups := [rec' 32 [(0, 0), (2, 5), (8, 1), (10, 4)]]
  outputs := []
  kernels := rec' 28 [(8, 1), (10, 3), (11, 3), (12, 1)]
  weights := []
  tables := []
  raw := []

/-- Leaf stalls 0 and 1 serve slot 0, whose job runs from step 0 over gate 0. -/
def leaf : State := { with' [(Obj.jobState 0, 0, 5), (Obj.jobGates 0, 0, 1), (Obj.jobYard 0, 0, 0), (Obj.domainState 22, 0, 2),
    (Obj.domainState 23, 0, 2), (Obj.domainVoteHost 22, 0, 2), (Obj.domainVoteHost 23, 0, 2),
    (Obj.domainState 18, 0, 2), (Obj.domainState 19, 0, 2), (Obj.domainState 20, 0, 2), (Obj.domainState 21, 0, 2),
    (Obj.yardMembers 0, 0, 0x40000000), (Obj.yardMembers 0, 1, 0x40000001)] late with
  slots := [(0, { JobSlot.reset with image := some image, gates := 1 })]
  yards := [(0, { Yard.reset with cuts := [(0, [0, 1])] })] }
def step0 : StepRec := ⟨0, .computing, [], true, [], [], [], [], false, false⟩

/-! ### Values that the manual works out -/

/-- The event of the manual's TEP example, its FIFO word in device memory, and the table of its rebasing example (R84 to R86,
R92): the rebased time falls one unit short of half a microsecond past 250,010 µs. -/
theorem test_tep_word : payloadWords [0x58, 0x42, 0x1F, 0x14] = [0x141F4258] ∧ tepType 0x141F4258 = 1 ∧ tepX 0x141F4258 = 1000
    ∧ tepY 0x141F4258 = 600 ∧ ({ Gate.reset with th := 0x4A8270A } : Gate).sensorTime 0x141F4258 = 5000250000 := by decide +kernel
theorem test_rebase : rebaseWith (5000000000, 1700000000000000 * 65536 + 0x8000, 43980465) 5000250000
    = some (1700000000250010 * 65536 + 0x7FFF) := by decide +kernel
/-- The flicker phase of the manual's mains example lies outside its window, which masks from 5,000 µs to 7,000 µs (R102). -/
theorem test_flicker_phase : ((250010 * 65536 + 0x8000 : Int) / 256) % 2560000 = 2688
    ∧ ((2688 : Int) - 1280000) % 2560000 = 1282688 := by decide +kernel
/-- The groom's TIME example: the newest marker's table, with nothing clipped (R132, R133). -/
theorem test_groom_time : clipTime (5000000000, 1700000000000000 * 65536 + 0x8000, 43980465)
      ((1700000010000400 * 65536 + 0x7FFF) - 98304) 41781442 5010000000 2000 5497558
    = ((5010000000, 1700000010000398 * 65536 + 0xFFFF, 41781442), false) := by decide +kernel
/-- The crossing of the manual's sieve example, 49,983,957.5 µs past T0, in 1/256 µs (R160). -/
theorem test_crossing : crossingTime (2 * 49999975) (-300) 900 50 5 32160 = 49983957 * 256 + 128 := by decide +kernel
/-- Delays of presets at a decimation, in hundredths of a sample (R156). -/
theorem test_chain_delay : (with' [(Obj.chainFirTaps 2, 0, 63)] late).chainDelay 2 = 3100
    ∧ (with' [(Obj.chainMode 2, 0, 1), (Obj.chainPreset 2, 0, 3), (Obj.chainDecimate 2, 0, 16)] late).chainDelay 2 = 7886
    ∧ (with' [(Obj.chainMode 2, 0, 1), (Obj.chainPreset 2, 0, 22), (Obj.chainDecimate 2, 0, 5)] late).chainDelay 2 = 32160 := by
  decide +kernel

/-- Granules of 16 rows over six gates of 720 rows, with a halo of 4 rows on either side. -/
def stripes : List Byte := rec' 32 [(5, 4), (6, 4), (8, 16), (10, 720), (24, 20000), (28, 1500)]
/-- The owners of the manual's stripe example before and after stall 3 leaves the cut, and the region word of row 350 of
gate 1 (R187, R188, R196). -/
theorem test_stripes : let cut := [0, 1, 2, 3, 4, 5, 6, 7]
    [720 + 351, 720 + 352, 1440 + 175, 1440 + 176].map (rowOwner stripes cut 6) = [some 1, some 2, some 2, some 3]
    ∧ [720 + 511, 720 + 512, 1440 + 399, 1440 + 400].map (rowOwner stripes (cut.erase 3) 6) = [some 1, some 2, some 2, some 4]
    ∧ ownedGranules stripes cut 6 2 = 34 ∧ regionWord stripes cut 6 (720 + 350) = 6 := by decide +kernel
/-- The tail of the manual's halo example: 284 µs for 34 granules (R192). -/
theorem test_tail : (grpTail stripes + grpTailPer stripes * 34) * 4 = 284000 := by decide +kernel

/-- The layer of the manual's neuron example, with the leak of its one age. -/
def neuronCtx : SpikeCtx where
  f := ⟨0, 0, { image with
    layers := [rec' 64 [(0, 1), (16, 3), (18, 4), (20, 1000), (22, 0xF000)]]
    tables := [leBytes 4 64 ++ leBytes 4 0 ++ List.replicate 60 0 ++ leBytes 2 25664] }, [0]⟩
  n := 0
  k := 8
  period := 1000
  rel := 8000
  mode := 0
/-- The neuron fires at 8,400 µs, is overdriven, and is stored as 0x03E7106B; its spike is the manual's record (R203, R209 to
R212, R224). -/
theorem test_neuron : neuronCtx.update (neuronWord 1800 990 true false) ((neuronCtx.contribution 45 none).add (neuronCtx.contribution 45 none)) 1050
      = ⟨0x03E7106B, some 1050, false, false, true, false, false⟩
    ∧ spikeRecord ⟨0, 8, 0, 60, 120, 5, 8400⟩ = 0x05003C03C00020D0 := by decide +kernel

/-- A block with 11 non-zero bytes takes 24 (R235), a requantised sum (R251), and e_c of the manual's bound (R270). -/
theorem test_thresher : (compressBlock (List.replicate 53 0 ++ List.replicate 11 1)).length = 24 ∧ requant 41000 20165 23 = 99
    ∧ ceilDiv (ceilDiv (15 * 5000) 2 * 4096) (2 ^ 23) + 1 = 20 := by decide +kernel

/-- The detection of the manual's projection example (R301 to R303). -/
def floored : Floor := { k := 0, d := (with' [(Obj.projKey, 3, 0x80000007), (Obj.projH, 27, 655360), (Obj.projH, 29, 131072000),
  (Obj.projH, 31, 655360), (Obj.projH, 32, 32768000), (Obj.projH, 35, 65536)] late).dict, job := none, lost := [], missing := [], node := 0 }
theorem test_projection : floored.project 3 0x1408000 (410 * 65536) = some (5205, 4600) ∧ corrected 12 (-8) 1000 5205 4600 = (5212, 4597) := by
  decide +kernel
/-- The manual's track: its prediction and its update by a detection (R312, R319). -/
theorem test_track : predictAxis 1000 (10000 * 256) 1200 = 2560307 ∧ filterAxis 1000 32768 3277 10004 2560307 1200 = (2560665, 1340) := by
  decide +kernel
/-- The manual's tile of two tracks and two detections: at U = 32,768 both are assigned, at U = 200 only the first (R316). -/
theorem test_solver : let t : Tile := ⟨[1, 2], [1, 2], [⟨1, 1, 75⟩, ⟨1, 2, 400⟩, ⟨2, 1, 120⟩]⟩
    (t.solve 32768 75000).pairs = [(2, 1), (1, 2)] ∧ (t.solve 200 75000).pairs = [(1, 1)] := by decide +kernel

/-- The count and the HEAD writes of the manual's trough 417 (R337, R338). -/
theorem test_trough : let s := with' [(Obj.troughBase, 417, 0x1000000000), (Obj.troughSizeLog2, 417, 10), (Obj.troughHead, 417, 0xFFFFFF80),
      (Obj.troughTail, 417, 0x40)] late
    s.troughCount 417 = 192 ∧ (writeHead 417 0x10 s).1 = Ab.ok ∧ (writeHead 417 0x41 s).1 = Ab.valueRange := by decide +kernel
/-- The channel of the manual's address, and the longest path of the droveway (R365, R383). -/
theorem test_memory : channelOf 0x0040008000 = 6 ∧ channelOf 0x00400081C5 = 6
    ∧ ((List.range 8).map (fun m => droveNs (attachNode 0) (attachNode m))).foldl max 0 = 88 := by decide +kernel
/-- 740 mV as LINEAR16 with an exponent of −12, and what is read back (R465). -/
theorem test_vout : (with' [(Obj.railVoutExp, 1, 0xF4)] late).voutWord 1 740 = 0x0BD7
    ∧ (with' [(Obj.railVoutExp, 1, 0xF4)] late).voutMv 1 0x0BD2 = 739 := by decide +kernel
/-- The servo of the manual's clock: an offset of +1,500 ns at Kp 32,768 and Ki 2,048 (R411). -/
theorem test_servo : let s := slewTo (1500 * 65536) (with' [(Obj.ptpFreq, 0, 687195), (Obj.ptpServo, 0, 2)] late)
    s.ptp.slew = -12885 ∧ s.rdI 32 Obj.ptpFreq 0 = 686390 ∧ s.rdI 32 Obj.timeRate 0 = 673505 := by decide +kernel

/-- The balls of the manual's examples, and the number of balls of each rail (R512 to R515). -/
theorem test_balls : [Signal.gate 23 .clk false, .gate 23 .d1 true, .g6 13 (.wck 1 true), .g6 2 (.dq 12)].map
      (fun x => (x.ball.rowName, x.ball.col)) = [("W", 50), ("Y", 46), ("BK", 37), ("D", 14)] := by decide +kernel
theorem test_rail_balls : let all := (List.range 51).flatMap (fun r => (List.range 51).map (fun c => railAt ⟨r + 1, c + 1⟩))
    [Rail.core, .sram, .phy, .ddrq, .dphy, .io, .ioHold, .aon].map (fun x => (all.filter (· == some x)).length)
      = [332, 106, 36, 36, 36, 7, 8, 4] := by decide +kernel
/-- 62 W over 0.96 °C/W above 45 °C of air (R534). -/
theorem test_junction : junction 4500 62 70 50 840 = 10452 := by decide +kernel

/-- The apply step of the manual's COMMIT at 5,000,930 µs with 5 value bytes; 30 µs earlier it would be a step sooner (R51). -/
theorem test_apply_step : (({ on1 with now := 5000930000 * nsUnit } : State).applyStepFor 5 []).1 = 5002
    ∧ (({ on1 with now := 5000900000 * nsUnit } : State).applyStepFor 0 []).1 = 5001 := by decide +kernel

/-! ### Every statement's hypotheses are met somewhere -/

theorem test_meets_StepRunsFront : ({ State.reset with pending := [.gsyncPulseEnd] } : State).pending = .gsyncPulseEnd :: [] := rfl
theorem test_meets_IdleStep : State.reset.pending = [] := rfl
theorem test_meets_ExecKeepsQueue : exec (.i2cEnd 6) on1 = .next on1 := rfl
theorem test_meets_OnlyPinCommandsMovePins : pinCommand (.i2cEnd 6) = false ∧ exec (.i2cEnd 6) on1 = .next on1 := ⟨rfl, rfl⟩
theorem test_meets_CommandsComplete : stops on1 (.pad 0) = false ∧ stops on1 (.resetNAssert 100) = true
    ∧ stops on1 (.resetNAssert 999) = true ∧ stops on1 (.resetNAssert 1000) = false := by decide +kernel

/-- A device held by the VDD_AON monitor. -/
def dark : State := { State.reset with
  dict := [], mem := [], power := { Power.reset with domains := [] }, boot := { Boot.reset with phase := .held, powerReset := true } }
theorem dark_inv : Inv dark where
  lost := fun _ => { time := rfl, settings := fun a _ he _ => dget_nil a he, memory := fun _ _ => rfl, steps := rfl, bales := ⟨rfl, rfl⟩,
                     gates := ⟨rfl, rfl⟩, engines := ⟨rfl, rfl, rfl, rfl⟩, jobs := ⟨rfl, rfl, rfl⟩, tracks := ⟨rfl, rfl⟩,
                     domains := rfl, reactions := rfl }
  held := fun _ => rfl
theorem test_meets_PowerOnResetHolds : Inv dark ∧ dark.boot.powerReset = true ∧ pinInput .gsyncPulseEnd = false :=
  ⟨dark_inv, rfl, rfl⟩
theorem test_meets_StepKeepsInv : Inv dark ∧ step { dark with pending := [.gsyncPulseEnd] } = .next dark := ⟨dark_inv, rfl⟩

def packet (h : HeaderEcc) (b : List Byte) : Packet := ⟨false, 0, 0, 0x30, h, true, b⟩
def tepWord (t f : Nat) : FifoWord := ⟨BitVec.ofNat 32 (t * 2 ^ 28 + f), false, false⟩
/-- Gate 0 HITCHED or in another state, with words in its FIFO. -/
def gated (st : Nat) (ws : List FifoWord) : State :=
  updGate 0 (fun gt => { gt with fifo := ws, span := true, thSet := true, enabled := true, ringUsed := [7] })
    (with' [(Obj.gateState 0, 0, st), (Obj.gateVcMask 0, 0, 1)] late)

theorem test_meets_PacketCompletes : (gated 3 []).powered ∧ ¬(0 % 2 = 1 ∧ (gated 3 []).ganged 0 = true)
    ∧ (gated 3 []).gateState ((gated 3 []).packetGate 0 (packet .ok [])) ≠ 0 ∧ (packet .uncorrectable []).header = .uncorrectable
    ∧ (gated 3 []).gateState 0 ≠ 0 := by decide +kernel
theorem test_meets_PacketEntersFifo : let s := gated 2 [tepWord 0xE 0]
    s.powered ∧ s.quiet ∧ ¬(0 % 2 = 1 ∧ s.ganged 0 = true) ∧ s.packetGate 0 (packet .ok [1, 2, 3, 4]) = 0 ∧ 2 ≤ s.gateState 0
    ∧ s.vcBit 0 0 = true ∧ (s.gate 0).fifo.length + (payloadWords [1, 2, 3, 4]).length ≤ 1024 := by decide +kernel
theorem test_meets_GateWordsComplete : (gated 3 [tepWord 0 0]).powered
    ∧ (gated 3 [tepWord 0 0]).gate 0 = { Gate.reset with fifo := tepWord 0 0 :: [], span := true, thSet := true, enabled := true, ringUsed := [7] }
    ∧ [0, 1, 2, 3].map (fun t => tepType (tepWord t 0).word) = [0, 1, 2, 3]
    ∧ ((gated 3 [tepWord 2 0, tepWord 0 5]).gate 0).fifo = tepWord 2 0 :: tepWord 0 5 :: []
    ∧ ((gated 3 [⟨0x20000000, true, false⟩]).gate 0).fifo = ⟨0x20000000, true, false⟩ :: [] := by decide +kernel
theorem test_meets_OtherWordsComplete : ((gated 3 [tepWord 0xA 1]).gate 0).fifo = tepWord 0xA 1 :: []
    ∧ [8, 0xA, 0xF, 4, 0xD].map (fun t => tepType (tepWord t 0).word) = [8, 0xA, 0xF, 4, 0xD]
    ∧ ((wordTaken 0 (tepWord 0xA 1) [] (gated 3 [tepWord 0xA 1])).gate 0).span = true
    ∧ ((wordTaken 0 ⟨0xA0000001, false, true⟩ [] (gated 3 [tepWord 0xA 1])).gate 0).span = false
    ∧ (gated 3 []).isOn 10 = true := by decide +kernel
theorem test_meets_PadIsIgnored : (gated 3 [tepWord 0xE 0]).powered ∧ (gated 3 [tepWord 0xE 0]).quiet
    ∧ (gated 3 [tepWord 0xE 0]).boot.resetNLow = false ∧ ((gated 3 [tepWord 0xE 0]).gate 0).fifo = tepWord 0xE 0 :: []
    ∧ tepType (tepWord 0xE 0).word = 0xE := by decide +kernel

def block0 : StageBlock := ⟨0, 0, false, [], 0, false, 0⟩
def loaded : State := updGate 0 (fun gt => { gt with staging := [block0], loads := [⟨1, 0, 0, false, []⟩] }) (gated 3 [])
theorem test_meets_GateEventsComplete : loaded.powered ∧ loaded.gateState 0 ≠ 0 ∧ (loaded.gate 0).enabled = true ∧ loaded.silent 0 = false
    ∧ (loaded.dueAt ((loaded.gate 0).lastWordAt + 2 * loaded.periodUs * 1000 * nsUnit)).isSome = true
    ∧ minBy (fun b => (b.firstAt : Int)) ((loaded.gate 0).staging.filter (fun b => !b.waiting)) = some block0
    ∧ (loaded.dueAt (block0.firstAt + 20000 * nsUnit)).isSome = true
    ∧ 7 ∈ (loaded.gate 0).ringUsed ∧ loaded.stalls.any (fun p => p.2.queue.any (fun b => b.gate == 0 && b.block == 7)) = false
    ∧ (minBy (fun l => (l.limitUs : Int)) (loaded.gate 0).loads).isSome = true
    ∧ (loaded.dueAt (0 * 1000 * nsUnit)).isSome = true := by decide +kernel

def scripted (r : List Byte) : State := updI2c 0 (fun m => { m with running := some ⟨.xfer, r⟩, rest := r }) late
theorem test_meets_I2cCompletes : late.powered ∧ late.serving ∧ (late.i2cm 0).queue.length < 4
    ∧ 4 ≤ ((updI2c 0 (fun m => { m with queue := List.replicate 4 ⟨.xfer, []⟩ }) late).i2cm 0).queue.length
    ∧ (scripted [1, 0x7F, 1, 0, 9]).i2cHead 0 = some (1, 0x7F, 1) ∧ 4 + 1 ≤ ((scripted [1, 0x7F, 1, 0, 9]).i2cm 0).rest.length
    ∧ (scripted [2, 0, 0, 1]).i2cHead 0 = some (2, 0, 256)
    ∧ (scripted [3, 5, 1, 2, 9]).i2cHead 0 = some (3, 5, 513) ∧ 4 + 513 % 256 ≤ ((scripted [3, 5, 1, 2, 9]).i2cm 0).rest.length
    ∧ (scripted [4, 0, 3, 0]).i2cHead 0 = some (4, 0, 3)
    ∧ ((scripted [4, 0, 3, 0]).dueAt (((scripted [4, 0, 3, 0]).i2cm 0).since + 3 * 10000 * nsUnit)).isSome = true
    ∧ (scripted [5, 0, 0, 0]).i2cHead 0 = some (5, 0, 0)
    ∧ (late.dueAt ((late.i2cm 0).since + late.rd Obj.i2cTimeout * 1000000 * nsUnit)).isSome = true := by decide +kernel

/-- Step 0 is to open and T0 has come. -/
theorem test_meets_BoundaryCompletes : on1.powered ∧ (settle on1).dueAt ((settle on1).boundary (settle on1).time.nextBoundary) = some on1
    ∧ let v := stretchSteps (settle on1).time.nextBoundary (checkBoundaryPairs on1)
      v.sdp.waiting = [] ∧ sameSchedule on1.dict v.dict = true := by decide +kernel

/-- A gate that holds steps open. -/
def held : State := updGate 0 (fun gt => { gt with enabled := true }) (with' [(Obj.gateState 0, 0, 3)] leaf)
/-- One step is alive, in a phase. -/
def alive (p : StepPhase) (s : State) : State := { s with steps := [{ step0 with phase := p }], time := { s.time with nextBoundary := 1 } }
theorem test_meets_StepEventsComplete : (alive .opened late).step? 0 = some { step0 with phase := .opened }
    ∧ (0 + 1 < ({ alive .opened late with time := { late.time with nextBoundary := 2 } } : State).time.nextBoundary)
    ∧ (alive .opened late).caughtUp 0 = true ∧ (alive .opened held).caughtUp 0 = false
    ∧ ((alive .opened held).dueAt ((alive .opened held).boundary (0 + slOf []))).isSome = true
    ∧ (settle (alive .computing late)).step? 0 = some step0
    ∧ ((settle (alive .computing late)).dueAt ((settle (alive .computing late)).boundary (0 + slOf [] + 1))).isSome = true := by decide +kernel
theorem test_meets_stallDeliver :
    let s := updStall 0 (fun st => { st with counts := [(0, 1), (1, 1), (2, 1), (3, 1), (4, 1)] }) (alive .computing leaf)
    (s.leafOf 0).isSome = true ∧ step0.awaits 0 = true ∧ s.inRun 0 0 = true ∧ 0 ∈ s.cutOf ⟨0, 0, image, [0]⟩ 0
    ∧ s.leafFinished ⟨0, 0, image, [0]⟩ 0 = true ∧ s.leafOf 0 = some ⟨0, 0, image, [0]⟩ := by decide +kernel

def fusion0 : Fusion where
  k := 0
  since := 0
  detections := []
  before := []
  tracks := []
  occupied := 0
  unknown := 0
  demand := 0
  births := 0
  deaths := 0
  solveCycles := 0
  capped := true
  cappedTold := false
  uncovered := 0
  noJob := true
  occupants := []
  report := 0
  trough := 0
  word := ⟨0, 0xFFFF, 0, 0, 1, 0, []⟩
  coObs := []
/-- The paddock runs and D11 is ON. -/
def fusing : State := with' [(Obj.domainState 11, 0, 2), (Obj.domainVoteHost 11, 0, 2)] late
def runs : Store := dset [] Obj.paddockRun 0 (.num 1)
theorem test_meets_FusionCompletes :
    let s : State := { fusing with steps := [{ step0 with cfg := runs }] }
    s.fusable 0 = some { step0 with cfg := runs } ∧ (s.dueAt (s.boundary (0 + 2))).isSome = true
    ∧ (settle (updPaddock (fun p => { p with fusion := some fusion0 }) on1)).paddock.fusion = some fusion0
    ∧ (let u := holdResult 0 0 0 0 (solveCapped (settle (updPaddock (fun p => { p with fusion := some fusion0 }) { on1 with steps := [step0] })))
       u.step? fusion0.k = some step0 ∧ u.now ≤ fusion0.since + 300000 * nsUnit)
    ∧ (settle (alive .computing late)).steps = step0 :: [] ∧ cfgN step0.cfg Obj.paddockRun ≠ 1
    ∧ (settle (alive .computing late)).allIn step0 = true
    ∧ (updPaddock (fun p => { p with resetting := true }) late).paddock.resetting = true := by decide +kernel

def demanded (w : DemandWord) : State := updHold (fun h => { h with link := some w, everFused := true }) late
theorem test_meets_HoldResultMovesPairs : let w : DemandWord := ⟨0x8001, 0x7FFE, 255, 0, 1, 0, []⟩
    let s := updHold (fun h => { h with ref := some 254 }) (demanded w)
    s.powered ∧ s.hold.link = some w ∧ w.demand < 2 ^ 16 ∧ w.complement = 0xFFFF - w.demand ∧ w.step8 < 256 ∧ w.rearm < 2
    ∧ w.rearmN = 1 - w.rearm ∧ s.hold.ref = some 254 ∧ w.step8 = (254 + 1) % 256
    ∧ pairOk 16 (s.rdE Obj.paddockWatchdog 0) = true ∧ s.holdForced = false := by decide +kernel
theorem test_meets_HoldFaultsComplete : let w : DemandWord := ⟨0, 0xFFFF, 0, 1, 0, 0, []⟩
    (demanded w).powered ∧ (demanded w).hold.link = some w ∧ 1 % 2 ^ 16 ≠ 0 ∧ (15 < 16 ∧ 5000 < 5001 ∧ 5000 ≤ 5000) := by decide +kernel
theorem test_meets_WatchdogForcesHold : let s := demanded ⟨0, 0xFFFF, 0, 1, 0, 0, []⟩
    s.powered ∧ s.quiet ∧ s.hold.tripped = false ∧ s.hold.everFused = true
    ∧ (s.dueAt (s.hold.lastAt + s.pair 16 Obj.paddockWatchdog 0 * s.periodUs * 1000 * nsUnit)).isSome = true
    ∧ s.rdE (Obj.faultReact padBlock) Src.padWatchdog % 16 < 4 := by decide +kernel

/-- A COMMIT of session 1 for node 0 in one datagram with the given flags, and the session. -/
def datagram (flags : Nat) : List Byte :=
  beBytes 2 0x5344 ++ beBytes 1 1 ++ beBytes 1 5 ++ beBytes 2 flags ++ beBytes 2 0 ++ beBytes 4 1 ++ beBytes 4 1 ++ beBytes 4 0
    ++ beBytes 4 4 ++ beBytes 4 0
def session1 : Session := Session.reset
def spoken : State := with' [(Obj.portLink, 0, 1), (Obj.sdpEnable, 0, 1)] (updSdp (fun d => { d with sessions := [(1, session1)] }) late)
theorem test_meets_DatagramCompletes : let s := spoken
    let p := fun (flags : Nat) =>
      addFragment ⟨9, 0, 5, 0, 0, 1, 1, s.now, [], none⟩ (beAt (datagram flags) 24 4) ((datagram flags).drop 28) (beAt (datagram flags) 4 2)
    s.powered ∧ s.serverUp = true ∧ s.portUp 0 = true ∧ s.badDatagram [] = true ∧ s.badDatagram (datagram 4) = false
    ∧ (p 4).last = some (0, 0) ∧ 0 + 0 ≤ covered (p 4).parts ∧ s.badDatagram (datagram 0) = false ∧ (p 0).last = none
    ∧ s.sdp.partials.find? (samePartial ⟨9, 0, 5, 0, 0, 1, 1, s.now, [], none⟩) = none
    ∧ ((updSdp (fun d => { d with partials := [⟨9, 0, 5, 0, 0, 1, 1, 0, [], none⟩] }) s).sdp.partials.find?
        (samePartial ⟨9, 0, 5, 0, 0, 1, 1, s.now, [], none⟩)).isSome = true := by decide +kernel

def partial0 : Partial := ⟨9, 0, 5, 0, 0, 1, 1, 0, [], none⟩
def tunnelled (st : Nat) : State := updMbx (fun m => { m with state := st, answer := some [] }) (with' [(Obj.hostLinkState, 0, 3)] late)
theorem test_meets_TransportCompletes : late.powered ∧ late.serverUp = true
    ∧ (updSdp (fun d => { d with partials := [partial0] }) late).sdp.partials.find? (fun p => p.source == 9) = some partial0
    ∧ (late.dueAt (partial0.since + 200000000 * nsUnit)).isSome = true ∧ spoken.session? 1 = some session1
    ∧ (spoken.dueAt (session1.lastUse + (if session1.timeoutS = 0 then spoken.rd Obj.sdpSessionTimeout else session1.timeoutS)
        * 1000000000 * nsUnit)).isSome = true
    ∧ (tunnelled 1).barsUp = true ∧ (tunnelled 1).mbx.state = 1 ∧ (tunnelled 0).mbx.state ≠ 1 ∧ (tunnelled 0).serverUp = true
    ∧ (settle (tunnelled 1)).mbx.state = 1 ∧ (settle (tunnelled 1)).barsUp = true ∧ (settle (tunnelled 1)).mbx.answer = some []
    ∧ (settle (tunnelled 1)).boot.resetAfterResponse = false := by decide +kernel

/-- A request outside every session, and one of session 1. -/
def request (op session : Nat) (b : List Byte) : Request := ⟨false, 0, 9, op, 0, 0, session, 5, b.length, b.length, b⟩
def asked (q : Request) : State := updSdp (fun d => { d with queue := [q] }) spoken
/-- A request of the mailbox. -/
def boxed (op : Nat) (b : List Byte) : Request := ⟨true, 0, 0, op, 0, 0, 0, 0, b.length, b.length, b⟩
def boxAsked (q : Request) : State :=
  updMbx (fun m => { m with latched := List.replicate 24 0 }) (updSdp (fun d => { d with queue := [q] }) late)
theorem test_meets_OpsServed : (asked (request 8 0 [0, 0, 0, 0])).powered ∧ (asked (request 8 0 [0, 0, 0, 0])).serverUp = true
    ∧ (asked (request 8 0 [0, 0, 0, 0])).sdp.queue = request 8 0 [0, 0, 0, 0] :: []
    ∧ (settle (boxAsked (boxed 5 []))).serverUp = true ∧ (settle (boxAsked (boxed 5 []))).sdp.queue = boxed 5 [] :: [] := by decide +kernel
theorem test_admits_outside : let s := updSdp (fun d => { d with queue := [] }) (asked (request 8 0 [0, 0, 0, 0]))
    Admitted s (request 8 0 [0, 0, 0, 0]) ⟨ownerCode (.session 0), none⟩ false s :=
  ⟨by decide +kernel, by decide +kernel, none, .inr (.inl ⟨rfl, rfl, by decide +kernel, rfl, rfl, rfl⟩)⟩
theorem test_admits_mailbox : let s := updSdp (fun d => { d with queue := [] }) (settle (boxAsked (boxed 5 [])))
    Admitted s (boxed 5 []) ⟨ownerCode .mailbox, none⟩ false s :=
  ⟨by decide +kernel, by decide +kernel, none, .inl ⟨rfl, rfl, by decide +kernel, by decide +kernel, rfl, by decide, by decide, by decide +kernel,
    (by intro k h; cases h), rfl, rfl, rfl⟩⟩
theorem test_admits_session : let q := request 7 1 [0, 0, 0, 0]
    let s := updSdp (fun d => { d with queue := [] }) (asked q)
    Admitted s q ⟨ownerCode (.session 1), none⟩ true (noteSequence q none s) :=
  ⟨by decide +kernel, by decide +kernel, none, .inr (.inr ⟨rfl, by decide, session1, by decide +kernel, by decide, (by decide +kernel),
    by decide +kernel, by decide +kernel, rfl, rfl, rfl⟩)⟩
theorem test_meets_SingleWritesComplete : late.powered ∧ late.serving ∧ (settle late).serving ∧ late.rd Obj.mbxRequireSigned ≠ 1
    ∧ (settle late).rd Obj.mbxRequireSigned ≠ 1
    ∧ (let s := settle (with' [(Obj.mbxRequireSigned, 0, 1)] late)
       s.serving ∧ s.rd Obj.mbxRequireSigned = 1)
    ∧ (let s := settle (updSdp (fun d => { d with sessions := [(1, { session1 with keySlot := some 7 })] }) late)
       s.serving ∧ s.session? 1 = some { session1 with keySlot := some 7 }) := by decide +kernel

/-- The cycle after T0 is due, and step 1 is the next to open. -/
def grooming : State := { on1 with time := { TimeUnit.reset with nextBoundary := 1 } }
def draft (d : Nat) : Proposal := ⟨1, 0, 4, d, 0, 0, [⟨Obj.gateVcMask 0, 0, [.num 5], none, 0, false⟩], [], [], []⟩
def proposed (d : Nat) : State := updGroom (fun g => { g with proposals := [draft d], drafts := [draft 1], estimated := true }) late
theorem test_meets_GroomCompletes : grooming.powered ∧ grooming.isOn 10 = true ∧ grooming.boundaryAfter grooming.groom.nextCycle ≤ grooming.now
    ∧ grooming.time.nextBoundary ≠ 0 ∧ grooming.boundaryAfter grooming.groom.nextCycle < grooming.boundary grooming.time.nextBoundary
    ∧ grooming.epochWaits = false ∧ (proposed 0).groom.estimated = true ∧ (proposed 0).groom.drafts ≠ []
    ∧ (proposed 0).groom.drafts.all (fun p => p.disposition == 1 && p.category != catTime && p.category != catHot) = true
    ∧ (proposed 0).groom.drafts.any (fun p => (proposed 0).claimedByOther (ownerCode .groom) p.writes) = false
    ∧ (commitEpoch (ownerCode .groom) Obj.groomEpochsRefused (draft 0).writes (proposed 0)).1.isSome = true
    ∧ (proposed 0).groom.proposals.find? (fun p => p.number == 1) = some (draft 0) ∧ (proposed 0).proposalCurrent (draft 0) = true
    ∧ (updSdp (fun d => { d with claims := [(Obj.gateVcMask 0, 5)] }) late).claimedByOther (ownerCode .groom) (draft 0).writes = true
    ∧ (proposed 0).claimedByOther (ownerCode .groom) (draft 0).writes = false
    ∧ (late.dueAt (0 + late.rd Obj.groomPeriod * 10 ^ 9 * nsUnit)).isSome = true := by decide +kernel

def sampled : State := updChain 0 (fun c => { c with inbox := [(2, some 3)] }) (with' [(Obj.chainState 0, 0, 1), (Obj.chainSettle 0, 0, 0)] late)
def evaluated : State := { on1 with now := 10 ^ 20, time := { TimeUnit.reset with nextBoundary := 10 ^ 9 } }
theorem test_meets_SieveCompletes : late.powered ∧ (sampled.chain 0).inbox = (2, some 3) :: [] ∧ 2 * ((sampled.chain 0).startUs : Int) ≤ 2
    ∧ sampled.rd (Obj.chainState 0) = 1 ∧ sampled.rd (Obj.chainSettle 0) ≤ (sampled.chain 0).made
    ∧ (let bc := evaluated.boundaryAfter (evaluated.sieveAt + evaluated.rd Obj.sieveUpdatePeriod * 10 ^ 9 * nsUnit)
       evaluated.isOn 10 = true ∧ bc ≤ evaluated.now ∧ evaluated.time.nextBoundary ≠ 0 ∧ bc < evaluated.boundary evaluated.time.nextBoundary)
    ∧ evaluated.sdp.waiting.any (fun w => w.owner == ownerCode .sieve) = false := by decide +kernel

def slotted (st : Nat) : State := with' [(Obj.jobState 63, 0, st), (Obj.memProtectedTop, 0, 0x300000000)]
  { late with slots := [(63, { JobSlot.reset with latched := (0, 128) })] }
theorem test_meets_JobsAndHalosComplete_slots : (slotted 0).powered ∧ (slotted 0).serving ∧ (slotted 3).rd (Obj.jobState 63) ∈ [0, 2, 3]
    ∧ (slotted 2).rd (Obj.jobState 63) ∈ [2, 3] ∧ (slotted 1).rd (Obj.jobState 63) = 1 ∧ ((slotted 1).slot 63).latched = (0, 128)
    ∧ (slotted 1).imagePlace 0 128 = true ∧ within 128 268435456 128 = true := by decide +kernel
/-- Member slot 1 of record 0 has failed, and its stall is idle again. -/
def failing : State := updYard 0 (fun y => { y with failed := [1] }) leaf
theorem test_meets_yardReadmit : (settle failing).serving
    ∧ (settle failing).runningSlots.find? (fun k => (settle failing).jobYard k < 256
        && (yardsBelow (settle failing).dict 9 ((settle failing).jobYard k)).contains 0) = some 0
    ∧ (settle failing).memberFailed 0 0 1 = true ∧ (settle failing).memberReady 0 0 1 = true := by decide +kernel

def leaf0 : Leaf := ⟨0, 0, image, [0]⟩
/-- Leaf 0 waits for rows of layer 1 from leaf 1, and a slot holds them. -/
def rows1 : HaloSlot := ⟨1, 0, 1, 0, [], [], []⟩
def haloed : State := alive .computing { leaf with halos := [rows1] }
theorem test_meets_haloArrival : haloed.leafOf 0 = some leaf0 ∧ haloed.haloReader leaf0 1 = some 2 ∧ (haloed.stall 0).layerStep 2 = 0
    ∧ haloed.halos.filter (fun h => h.layer == 1 && h.consumer == 0 && decide (h.step ≤ 0)) = [rows1] ∧ rows1.step = 0
    ∧ (haloed.stall 0).halosIn.contains (1, 0, rows1.producer) = false ∧ (haloed.stall 0).finished 1 0 = false := by decide +kernel
theorem test_meets_haloDeadline :
    (image.producers (haloed.cutOf leaf0 0) 1 1 0).filter (fun p => !(haloed.stall 0).halosIn.contains (1, 0, p)) ≠ []
    ∧ haloed.inRun 0 0 = true ∧ (haloed.dueAt ((haloed.boundaryUs (0 + slOf (haloed.cfgOf 0) + 1) * 1000
        - haloed.tailNs leaf0 (image.groupOf 2) 0) * nsUnit)).isSome = true := by decide +kernel

/-- Leaf 0 at work on step 0, with what its stages need. -/
def working (f : Stall → Stall) : State := updStall 0 f (alive .computing leaf)
def blockOf (lateOne : Bool) : BlockRec := ⟨0, 0, 0, lateOne, 0⟩
theorem test_meets_LeavesComplete_events : let s := working (fun st => { st with queue := [blockOf false] })
    let q := working (fun st => { st with queue := [blockOf true] })
    let o := working (fun st => { st with eventsDone := 1, queue := [blockOf false] })
    s.leafOf 0 = some leaf0 ∧ s.inRun 0 (s.stall 0).eventStep = true ∧ (s.stall 0).eventStep ≤ (s.stall 0).first
    ∧ image.sheafLayers.all (fun m => decide ((s.stall 0).eventStep ≤ (s.stall 0).layerStep m)) = true ∧ s.olderWork leaf0 0 = false
    ∧ (o.stall 0).queue.find? (fun b => decide (b.step < (o.stall 0).eventStep)) = some (blockOf false)
    ∧ (q.stall 0).queue.find? (fun b => decide (b.step < (q.stall 0).eventStep)) = none
    ∧ (q.stall 0).queue.find? (·.late) = some (blockOf true)
    ∧ (s.stall 0).queue.find? (fun b => decide (b.step < (s.stall 0).eventStep)) = none ∧ (s.stall 0).queue.find? (·.late) = none
    ∧ (s.stall 0).late.any (fun x => x.step == (s.stall 0).eventStep) = false
    ∧ (s.stall 0).queue.find? (fun b => b.step == (s.stall 0).eventStep) = some (blockOf false)
    ∧ ((working (fun st => { st with late := [⟨0, 0⟩] })).stall 0).late.any (fun x => x.step == 0) = true := by decide +kernel
theorem test_meets_LeavesComplete_layers : let s := working (fun st => { st with eventsDone := 1, counts := [(1, 1)], halosIn := [(1, 0, 1)] })
    let t := working (fun st => { st with eventsDone := 1, counts := [(1, 1), (2, 1)], halosIn := [(1, 0, 1)] })
    lyType (image.layer 0) = tySheaf ∧ (s.stall 0).layerStep 0 < (s.stall 0).eventStep ∧ s.slotBlocked leaf0 0 0 = false
    ∧ lyType (image.layer 2) = tySpikeConv ∧ s.inRun 0 0 = true
    ∧ (List.range 2).all (fun m => !isSpike (image.layer m) || (s.stall 0).finished m 0) = true
    ∧ s.sourceReady leaf0 (lySource (image.layer 2)) 0 = true ∧ s.groupReady leaf0 2 (lySource (image.layer 2)) 0 = true
    ∧ s.slotBlocked leaf0 2 0 = false ∧ s.olderWork leaf0 0 = false
    ∧ isDense (image.layer 3) = true ∧ lyType (image.layer 3) ≠ tySheaf
    ∧ (working (fun st => { st with counts := [(0, 1)] })).denseReady leaf0 3 0 = true ∧ t.slotBlocked leaf0 3 0 = false := by decide +kernel
theorem test_meets_LeavesComplete_others :
    let s := updStall 1 (fun st => { st with boxes := [(4, 0, [])] }) (working (fun st => { st with boxes := [(4, 0, [])] }))
    s.powered ∧ (s.slot 0).image = some image ∧ lyType (image.layer 4) = tyDetect
    ∧ s.steps.find? (fun r => s.inRun 0 r.k && !s.lists.any (fun x => x.1 == 0 && x.2.1 == 4 && x.2.2.1 == r.k)
        && ((s.ownCut (s.jobYard 0) r.k).map (fun leaf => s.leafBoxes r 4 leaf)).all (·.isSome)) = some step0
    ∧ isSpike (image.layer 2) = true ∧ s.inRun 0 ((s.stall 0).layerStep 2) = true
    ∧ image.owner (s.cutOf leaf0 0) 1 2 (0 * lyH (image.layer 2) + 0) = some 0
    ∧ s.isOn (stallDomain 0) = true ∧ (s.muckUnit 0).running = false ∧ (s.stall 0).throttled = none := by decide +kernel

/-- Stall 0 in emergency; a supply loop in a state. -/
def supplied (st : Nat) : State := with' [(Obj.supplyState, 0, st)]
  (updStall 0 (fun s => { s with replays := [9, 8, 7, 6, 5, 4, 3, 2, 1], throttled := some 5 }) (updSupply (fun p => { p with holdoffUntil := 7 }) leaf))
theorem test_meets_SupplyCompletes : (supplied 1).powered ∧ (supplied 1).isOn (stallDomain 0) = true ∧ (supplied 1).inEmergency 0 = true
    ∧ (let v := supplied 1 |> inc 32 (Obj.winnowEmergencies 0) |> updStall 0 (fun st => { st with replays := [] })
          |> detect (stallBlock 0) Src.stallReplayEmergency
       v.rd Obj.supplyState ≠ supDisabled ∧ v.supplyClamp (v.rd Obj.supplyTargetMv + 50) ≠ v.rd Obj.supplyTargetMv)
    ∧ (supplied supMeasuring).rd Obj.supplyState = supMeasuring
    ∧ ((supplied supMeasuring).dueAt ((supplied supMeasuring).supply.openedAt + (supplied supMeasuring).rd Obj.supplyPeriod * 1000000 * nsUnit)).isSome = true
    ∧ (supplied supChanging).rd Obj.supplyState = supChanging
    ∧ ((supplied supChanging).dueAt ((supplied supChanging).supply.changedAt + 2000000 * nsUnit)).isSome = true
    ∧ (supplied supSettling).rd Obj.supplyState = supSettling
    ∧ ((supplied supSettling).dueAt ((supplied supSettling).supply.confirmedAt + (supplied supSettling).rd Obj.supplySettleUs * 1000 * nsUnit)).isSome = true
    ∧ ((supplied 1).stall 0).throttled = some 5 ∧ ((supplied 1).dueAt (5 + 1000000 * nsUnit)).isSome = true
    ∧ (supplied 1).supply.holdoffUntil ≠ 0 ∧ ((supplied 1).dueAt (supplied 1).supply.holdoffUntil).isSome = true := by decide +kernel

def bus (k : PmbKind) : State := updPower (fun p => { p with pmbus := [⟨k, 1, 800⟩] }) late
/-- D12 waits for the supply of slot 1. -/
def rising : State := { with' [(Obj.domainState 12, 0, 1), (Obj.domainVoteHost 12, 0, 2), (Obj.railAddress, 1, 0x40), (Obj.railRole, 1, 2),
  (Obj.railOn, 1, 1)] (updDomain 12 (fun x => { x with phase := 1 }) (device [1, 2, 3, 10, 13, 14, 15, 16, 17])) with now := 10 ^ 30 }
theorem test_meets_RailsComplete : (bus .opOn).powered ∧ (bus .opOn).power.pmbus = ⟨.opOn, 1, 800⟩ :: []
    ∧ ((bus .readVout |> nextPmb |> inc 32 Obj.railTransactions |> addE 32 Obj.railNacks 0 2).voutMv 1 0 < 65536)
    ∧ (let waits := (List.range 54).filter (fun d => ((settle rising).domain d).phase == 1 && ((settle rising).domainRails d).contains 1)
       minBy (fun d => (((settle rising).domain d).since : Int)) waits = some 12)
    ∧ bit (settle rising).power.pgood 1 = false
    ∧ ((settle rising).dueAt (((settle rising).domain 12).since + (settle rising).rd Obj.railPgoodTimeoutMs * 1000000 * nsUnit)).isSome = true
    ∧ late.power.alertAt = none := by decide +kernel

/-- Trough 5 holds 16 entries from the start of the loft, between HEAD and TAIL. -/
def ring (h t : Nat) : State := with' [(Obj.troughBase, 5, 0x1000000000), (Obj.troughSizeLog2, 5, 4), (Obj.troughHead, 5, h),
  (Obj.troughTail, 5, t), (Obj.hostLinkState, 0, 3)] late
theorem test_meets_TroughReadsComplete : (ring 0 16).powered ∧ (ring 0 16).isOn 1 = true
    ∧ (16 + 2 ^ 32 - (ring 0 16).rdE Obj.troughHead 5) % 2 ^ 32 ≤ (ring 0 16).troughCount 5
    ∧ (ring 0 16).troughCount 5 < (17 + 2 ^ 32 - (ring 0 16).rdE Obj.troughHead 5) % 2 ^ 32
    ∧ (ring 0 16).barsUp = true ∧ (ring 0 16).troughN 5 ≠ 0 ∧ inHostWindow ((ring 0 16).troughBase 5) = false
    ∧ (ring 7 7).troughCount 5 = 0 ∧ (ring (2 ^ 32 - 1) 3).troughCount 5 ≠ 0
    ∧ (ring (2 ^ 32 - 1) 3).poisoned (0x1000000000 + 15 * 64) 64 = [] ∧ (ring (2 ^ 32 - 1) 3).presentAll (0x1000000000 + 15 * 64) 64 = true := by
  decide +kernel
def entry : List Byte := List.replicate 64 7
theorem test_meets_TailAdvanceStores : let s := updTrough 5 (fun t => { t with sets := [[entry, entry]] }) (ring 0 15)
    s.powered ∧ s.quiet ∧ (s.trough 5).sets = [entry, entry] :: [] ∧ (∀ e ∈ [entry, entry], e.length = 64)
    ∧ (List.range 2).all (fun i => s.presentAll (s.troughBase 5 + (s.rdE Obj.troughTail 5 + i) % 2 ^ s.troughN 5 * 64) 64) = true
    ∧ s.troughUsable 5 = true ∧ s.troughBase 5 % 64 = 0 ∧ s.rdE Obj.troughShadow 5 = 0 ∧ [entry, entry].length ≤ 2 ^ s.troughN 5
    ∧ s.troughBase 5 + 64 * 2 ^ s.troughN 5 ≤ 0x2000000000 := by decide +kernel

def move : Desc := ⟨0x1000000000, 0x1000000100, 64, 0, 0, 0, 0, 0, 0⟩
def channel (st : Nat) : State := updEngine 7 (fun e => { e with running := some 255 })
  (updChan 255 (fun c => { c with desc := some move }) (with' [(Obj.chanState, 255, st)] late))
theorem test_meets_BarrowCompletes : (channel 0).powered ∧ (channel 0).serving
    ∧ [0, 1, 2, 3, 4].all (fun st => (channel st).chanState 255 == st) = true ∧ ((channel 4).chan 255).desc = some move
    ∧ (late.engine 0).running = none
    ∧ ((List.range 32).map (fun i => (((with' [(Obj.chanState, 3, 1)] late).engine 0).last + 1 + i) % 32)).find?
        (fun i => (with' [(Obj.chanState, 3, 1)] late).chanState (0 * 32 + i) == 1) = some 3
    ∧ ((channel 2).engine 7).running = some 255
    ∧ move.len ≤ (channel 2).rdE Obj.chanDone 255 + (channel 2).cleanPart move ((channel 2).rdE Obj.chanDone 255)
    ∧ inHostWindow move.dst = false ∧ move.still = false := by decide +kernel

def trainingA : State := updMemctl (fun m => { m with trained := [false, true], rates := [0, 16] }) late
theorem test_meets_MemoryCompletes : trainingA.powered ∧ trainingA.trains 0 = true ∧ 0 ∈ [0, 12, 14, 16] ∧ 16 ∈ [8, 16]
    ∧ trainingA.memctl.trained.getD 1 false = true ∧ trainingA.memctl.zeroed.getD 1 false = false ∧ trainingA.memctl.rates.getD 1 0 ≠ 0
    ∧ late.isOn (12 + 15 / 8) = true ∧ (late.dueAt (sget 0 late.memctl.retrainedAt 15 + 250000000 * nsUnit)).isSome = true
    ∧ late.gddrOn = true
    ∧ (let s := with' [(Obj.memProtectedTop, 0, 128)] late
       s.gddrOn = true ∧ (s.dueAt (s.memctl.scrubbedAt + s.scrubGap)).isSome = true ∧ s.poison.contains (s.rd Obj.memScrubAddr / 64) = false ∧ s.rd Obj.memScrubAddr + 64 < s.rd Obj.memProtectedTop)
    ∧ (let s := with' [(Obj.memCeLimit, 0, 1)] (updMemctl (fun m => { m with ceTimes := [(15, [10 ^ 30, 10 ^ 30])] }) late)
       s.rd Obj.memCeLimit < ((sget [] s.memctl.ceTimes 15).filter (fun t => decide (s.now < t + hourUnit))).length)
    ∧ (late.dueAt (late.memctl.sweptAt + 10 ^ 9 * nsUnit)).isSome = true := by decide +kernel

def linked (st : Nat) : State := with' [(Obj.hostLinkState, 0, st), (Obj.memProtectedTop, 0, 0x300000000)] late
theorem test_meets_HostLinkCompletes : (linked 0).powered ∧ (linked 0).isOn 2 = true ∧ (linked 0).link = 0 ∧ (linked 1).link = 1 ∧ (linked 2).link = 2
    ∧ (linked 3).link = 3 ∧ (linked 2).barsUp = true ∧ (linked 2).bar2Present 0 = true ∧ (linked 2).bar2Present (0 + 8 - 1) = true
    ∧ bar2Addr 0 = some 0 ∧ (memRead 0 8 (linked 2)).1.isSome = true := by decide +kernel

theorem test_meets_RecoveryCompletes : let s := updBoot (fun b => { b with phase := .rom }) (with' [(Obj.bootSource, 0, 2)] late)
    s.powered ∧ s.romServes 2 = true ∧ s.otpLost = false := by decide +kernel

/-- A clock identity that is not the device's own. -/
def otherId : Nat := Config.clockId.toNat + 1
def hdr : PtpHdr := ⟨1, 0, otherId, 1, 5, 0, 0, true⟩
def announce : AnnounceData := ⟨1, 128, 6, 0x20, 0, 128, 0, 37⟩
def master0 : Foreign := ⟨1, otherId, 1, announce, 0, none⟩
/-- PTP runs as a slave of another clock behind port 1. -/
def clocked (st mech : Nat) : State := with' [(Obj.portLink, 1, 1), (Obj.ptpEnable, 0, 1), (Obj.ptpServo, 0, 1), (Obj.ptpState, 0, st), (Obj.ptpDelayMech, 0, mech)]
  (updPtp (fun p => { p with master := some master0, delayReqAt := some (5, 0), syncDiff := some 0 })
    (updPtp (fun p => { p with pendingSync := some ⟨hdr, 10 ^ 30⟩, pdelayAt := [none, some (5, 0)] }) on1))

theorem fromMaster_otherId : ∀ s : State, s.ptp.master = some master0 → s.ptpOn = true → s.rd Obj.ptpDomain = 0 → s.fromMaster hdr = true := by
  intro s h1 h2 h3
  simp [State.fromMaster, State.ownDomain, h1, h2, h3, hdr, master0, otherId]
theorem test_meets_PtpReceiveCompletes : (clocked ptpSlave 0).powered ∧ (settle (clocked ptpSlave 0)).portUp 1 = true
    ∧ (clocked ptpSlave 0).p2p = false ∧ (clocked ptpSlave 1).p2p = true ∧ (clocked ptpMaster 0).rd Obj.ptpState = ptpMaster
    ∧ (clocked ptpSlave 1).ptpOn = true ∧ 0 = (clocked ptpSlave 1).rd Obj.ptpDomain ∧ announce.stepsRemoved < 255 ∧ hdr.stamped = true
    ∧ ({ hdr with stamped := false } : PtpHdr).stamped = false := by decide +kernel
/-- What `frameIn` and `forward` leave of the clock. -/
theorem test_meets_PtpReceiveCompletes_master : (clocked ptpSlave 0).fromMaster hdr = true :=
  fromMaster_otherId _ rfl (by decide +kernel) (by decide +kernel)
theorem test_meets_PtpReceiveCompletes_foreign : (updPtp (fun p => { p with master := none }) (clocked ptpSlave 0)).fromMaster hdr = false
    ∧ (updPtp (fun p => { p with master := none }) (clocked ptpSlave 0)).ownDomain hdr = true := by
  refine ⟨rfl, ?_⟩
  have h1 : (updPtp (fun p => { p with master := none }) (clocked ptpSlave 0)).ptpOn = true := by decide +kernel
  have h2 : (updPtp (fun p => { p with master := none }) (clocked ptpSlave 0)).rd Obj.ptpDomain = 0 := by decide +kernel
  simp [State.ownDomain, h1, h2, hdr, otherId]
def due (st mech : Nat) : State := { clocked st mech with now := 10 ^ 30 }
theorem test_meets_PtpTransmitCompletes : (due ptpMaster 0).powered ∧ (due ptpMaster 0).ptpOn = true ∧ (due ptpMaster 0).rd Obj.ptpState = ptpMaster
    ∧ ((due ptpMaster 0).ptpDue 0 (due ptpMaster 0).syncInterval).isSome = true ∧ (due ptpSlave 0).isSlave = true
    ∧ (due ptpSlave 0).p2p = false ∧ (due ptpSlave 1).p2p = true ∧ (due ptpSlave 0).rd Obj.ptpServo ≠ 0
    ∧ ((due ptpSlave 0).dueAt ((due ptpSlave 0).ptp.lastSyncAt + 3 * (due ptpSlave 0).syncInterval)).isSome = true
    ∧ (({ due ptpSlave 0 with now := 10 ^ 31 } : State).dueAt (10 ^ 30 + (due ptpSlave 0).syncInterval)).isSome = true
    ∧ (due ptpPreMaster 0).rd Obj.ptpState = ptpPreMaster ∧ ((due ptpPreMaster 0).dueAt (due ptpPreMaster 0).ptp.qualifyAt).isSome = true := by
  decide +kernel
theorem test_meets_announceTimeout : let s := updPtp (fun p => { p with master := none }) (due ptpListening 0)
    s.ptpOn = true ∧ s.rd Obj.ptpState = ptpListening ∧ s.ptp.master = none
    ∧ (s.dueAt (s.ptp.lastAnnounceAt + s.rd Obj.ptpAnnounceTimeout * s.announceInterval)).isSome = true
    ∧ (updPtp (fun p => { p with foreign := [] }) (dropMaster s)).bestForeign = none := by decide +kernel

def pulsing : State := updTout 7 (fun t => { t with active := true, endAt := 5 })
  (updTime (fun t => { t with gsyncActive := 1 }) (with' [(Obj.toutMode 7, 0, 1), (Obj.tcapEdge, 0, 3)] late))
theorem test_meets_TimeUnitCompletes : (settle late).serving ∧ (settle late).stepBarred = none ∧ pulsing.time.gsyncActive ≠ 0
    ∧ (pulsing.dueAt pulsing.time.gsyncEnd).isSome = true ∧ pulsing.rd (Obj.toutMode 7) ≠ 0 ∧ (pulsing.tout 7).next = 0
    ∧ (pulsing.dueAt (max (pulsing.toutTarget 7 0) (pulsing.tout 7).endAt)).isSome = true ∧ (pulsing.tout 7).active = true
    ∧ (pulsing.dueAt (pulsing.tout 7).endAt).isSome = true ∧ sget 0 pulsing.time.tcapLast 0 = 0
    ∧ bit (field (pulsing.rd Obj.tcapEdge) 1 0) 0 = true := by decide +kernel

/-- Node 9 serves member 0 of record 0, and leads record 1 of another job. -/
def networked : State := with' [(Obj.portLink, 0, 1), (Obj.yardMembers 0, 1, 0xC0090000), (Obj.jobState 1, 0, 5), (Obj.jobYard 1, 0, 1),
  (Obj.yardLead 1, 0, 9), (Obj.stepOpen, 0, 9)]
  { alive .computing leaf with slots := leaf.slots ++ [(1, { JobSlot.reset with yard := 1 })] }
def frame (k : Nat) (b : List Byte) : YardFrame := ⟨0, 0x4659, 1, k, 9, 0, 1, 0, 0, 0, 1, 3, b.length, b⟩
theorem test_meets_YardFramesComplete_frames : networked.powered ∧ networked.portUp 0 = true ∧ (frame 1 (List.replicate 104 0)).src = 9
    ∧ [(1, 104), (2, 16), (3, 64), (4, 12), (5, 4), (6, 24)].all (fun p => !networked.frameBad (frame p.1 (List.replicate p.2 0))) = true
    ∧ 9 ≠ networked.rd Obj.nodeNumber ∧ networked.partners.contains 9 = true ∧ (networked.peer 9).repeated 1 = false
    ∧ (collect (frame 3 (List.replicate 64 0)) networked).1.isSome = true ∧ networked.leadOf 9 ≠ [] := by decide +kernel
theorem test_meets_YardFramesComplete_settled : (settle networked).portUp 0 = true ∧ (settle networked).partners.contains 9 = true := by
  decide +kernel
theorem test_meets_PartnersComplete : let v := settle networked
    v.partners.contains 9 = true ∧ v.rdE Obj.netPeerState 9 ≠ 2 ∧ v.rd Obj.netLostSteps ≤ v.openStep ∧ v.boundary v.openStep ≤ v.now
    ∧ (v.peer 9).lastAt < v.boundary (v.openStep - v.rd Obj.netLostSteps) := by decide +kernel
/-- Record 1 of node 9's yard is announced to be re-mapped at step 12. -/
def announcing : State :=
  updPeer 9 (fun p => { p with beats := [⟨1, 5, [], [], 0, 0, 0, 12, 0, 0, 1⟩] }) networked
theorem test_meets_remapDeadline : let v := settle announcing
    (minBy (fun x => (x.2 : Int)) (v.runningSlots.flatMap (fun j =>
      let y := v.jobYard j
      let lead := v.rd (Obj.yardLead y)
      if lead < 4096 && (v.yard y).serveEnd.isNone then
        ((v.announced lead y).filter (fun k => v.openStep < k && !v.net.remaps.any (fun r => r.1 == k && r.2.1 == lead))).map (fun k => (y, k))
      else []))) = some (1, 12) ∧ (v.dueAt (v.boundary (12 - 1))).isSome = true := by decide +kernel

def portState : State := with' [(Obj.portIpv4, 1, 0x0A000001), (Obj.portIpv4Prefix, 1, 8), (Obj.portIpv6, 16, 0x20), (Obj.portIpv6Prefix, 1, 8),
  (Obj.portLink, 1, 1), (Obj.portMode, 1, 1)] late
theorem test_meets_PortsComplete : portState.powered ∧ portState.isOn 3 = true ∧ portState.rdE Obj.portMode 1 ≠ 0 ∧ portState.portUp 1 = true
    ∧ 0x0A000001 = (frameIn 1 portState).rdE Obj.portIpv4 1 ∧ (frameIn 1 portState).reaches 1 (mappedPrefix * 2 ^ 32 + 0x0A000002) = true
    ∧ (frameIn 1 portState).ownV6 1 (0x20 * 2 ^ 120) = true ∧ (frameIn 1 portState).reaches 1 (0x20 * 2 ^ 120 + 1) = true := by decide +kernel

/-- Domain 12 rises under a HOST vote, or falls without one. -/
def phased (st ph : Nat) : State := { with' [(Obj.domainState 12, 0, st)]
  (updDomain 12 (fun x => { x with phase := ph }) (device [1, 2, 3, 10, 12, 13, 14, 15, 16, 17])) with now := 10 ^ 30 }
theorem test_meets_DomainPhasesComplete : (phased 1 1).powered
    ∧ [1, 2, 4].all (fun ph => (((settle (phased 1 ph)).domain 12).phase == ph) && (settle (phased 1 ph)).isOn 1) = true
    ∧ ((settle (phased 1 1)).domState 12 = 1 ∨ (settle (phased 5 1)).domState 12 = 5) ∧ (settle (phased 1 1)).supplyReady 12 = true
    ∧ ((settle (phased 3 5)).domain 12).phase = 5 ∧ ((settle (phased 3 6)).domain 12).phase = 6
    ∧ (settle (phased 3 6)).domState 12 = 3 ∧ (settle (phased 6 6)).domState 12 ≠ 3
    ∧ ((settle (phased 3 5)).dueAt (((settle (phased 3 5)).domain 12).since + (settle (phased 3 5)).rd Obj.powerQuiesceUs * 1000 * nsUnit)).isSome = true := by
  decide +kernel

def waking (m : Nat) : State := with' [(Obj.wakeMode, 3, m)] late
theorem test_meets_WakeAndSleepComplete : (waking 1).powered ∧ wakeSelects ((settle (waking 1)).rdE Obj.wakeMode 3) .high = some true
    ∧ bit (settle (waking 1)).power.wakeAsserted 3 = false ∧ (settle (waking 1)).power.sleep = 0
    ∧ wakeSelects ((settle (waking 3)).rdE Obj.wakeMode 3) .rising = some false ∧ (settle (waking 3)).power.blindUntil ≤ (settle (waking 3)).now
    ∧ (settle (waking 3)).serving ∧ (settle (waking 3)).scheduleActive = false ∧ (settle (waking 3)).rdE Obj.wakeMode 3 ≠ 0 := by decide +kernel
theorem test_meets_ResetPinsComplete : dark.boot.powerReset = true ∧ late.boot.resetNLow = false ∧ late.boot.powerReset = false
    ∧ (updBoot (fun b => { b with resetNLow := true }) late).boot.resetNLow = true := by decide +kernel

def verified : State := updBoot (fun b => { b with phase := .verified }) late
def writing : QspiOp := ⟨2, [], 0x20000, [], []⟩
/-- A NOR whose sector 0 holds a boot pointer, and an image that can be read. -/
def pointed : State := with' [(Obj.memProtectedTop, 0, 0x300000000)] (updBoot (fun b => { b with op := some writing }) (updBoot (fun b => { b with
  qspi := (List.range 28).map (fun i => (i, (rec' 28 [(0, 0x4251), (2, 0x5450), (4, 1), (10, 1), (12, 64)]).getD i 0)) }) late))
theorem test_meets_BootCompletes : (settle verified).boot.phase = .verified ∧ (settle verified).isOn 1 = true ∧ late.serving
    ∧ late.qspiBusy = false ∧ pointed.imagePlace (pointed.rd Obj.bootImageAddr) (pointed.rd Obj.bootImageLen) = true
    ∧ pointed.rd Obj.bootImageLen ≤ imageLimit ∧ (memRead (pointed.rd Obj.bootImageAddr) (pointed.rd Obj.bootImageLen) pointed).1.isSome = true
    ∧ pointed.otpLost = false ∧ pointed.pointer.isSome = true ∧ pointed.boot.op = some writing ∧ writing.value ≠ 3
    ∧ late.boot.phase = .running := by decide +kernel

def faulty : State := with' [(Obj.faultSticky 36, 0, 5), (Obj.domainState 22, 0, 2), (Obj.domainVoteHost 22, 0, 2)] late
theorem test_meets_FaultCommandsComplete : faulty.powered ∧ (settle faulty).serving
    ∧ (settle faulty).rd (Obj.faultSticky 36) &&& 5 &&& faultGrave 36 = 0 ∧ (settle faulty).isOn (blockDomain 92) = true := by decide +kernel

def mucking (f : MuckUnit → MuckUnit) : State := updMuck 0 f (with' [(Obj.domainState 22, 0, 2), (Obj.domainVoteHost 22, 0, 2),
  (Obj.muckEnable, 0, 1)] late)
theorem test_meets_MuckCompletes : (mucking id).powered ∧ (mucking id).muckAllowed 0 = true ∧ (mucking id).marked 0 = false
    ∧ ((mucking id).muckUnit 0).active = false ∧ ((mucking (fun m => { m with queued := true })).muckUnit 0).queued = true
    ∧ ((mucking (fun m => { m with everRan := true })).dueAt
        (((mucking (fun m => { m with everRan := true })).muckUnit 0).startedAt + (mucking id).rd Obj.muckPassPeriod * 10 ^ 9 * nsUnit)).isSome = true
    ∧ (let v := settle (mucking (fun m => { m with active := true }))
       v.muckAllowed 0 = true ∧ (v.muckUnit 0).active = true ∧ (v.muckUnit 0).running = false ∧ v.muckRunning < 8 ∧ v.unitIdle 0 = true
       ∧ v.isOn (muckDomain 0) = true ∧ v.target (muckDomain 0) = 2)
    ∧ (mucking id).serving ∧ muckKind 86 ≠ 7 ∧ (with' [(Obj.muckOutOfService, 0, 1)] (mucking id)).marked 0 = true := by decide +kernel
theorem test_meets_MuckCompletes_slices :
    let v := settle (updStall 0 (fun s => { s with late := [⟨0, 0⟩] }) (mucking (fun m => { m with active := true, running := true })))
    (v.muckUnit 0).running = true ∧ v.unitIdle 0 = false ∧ (v.muckUnit 0).retry = none
    ∧ (v.dueAt ((v.muckUnit 0).sliceAt + muckSliceUs 0 * 1000 * nsUnit)).isSome = true := by decide +kernel

theorem test_meets_HeadWriteRule : (ring 0 16).quiet ∧ (ring 0 16).rdE (Obj.faultReact troughBlock) Src.troughHeadRefused % 16 < 4
    ∧ (settle (ring 0 16)).serving := by decide +kernel
theorem test_meets_SwapModes : let d := { move with control := 4 }
    [0x01, 0x02, 0x03, 0x04, 0x05, 0x06, 0x07, (0x08 : Byte)].length % swapUnit 4 = 0 ∧ d.swap ≤ 4 ∧ d.len % swapUnit d.swap = 0
    ∧ (d.swap = 0 → d.src ≠ d.dst) ∧ (memRead d.src d.len late).1.isSome = true ∧ late.presentAll d.dst d.len = true
    ∧ 4 < ({ move with control := 5 } : Desc).swap ∧ ({ d with len := 63 } : Desc).len % swapUnit d.swap ≠ 0 := by decide +kernel
theorem test_meets_TimeHighMovesSpan : (late.gate 0).thSet = false ∧ ((gated 3 [tepWord 8 5]).gate 0).thSet = true
    ∧ ((gated 3 [tepWord 8 5]).gate 0).fifo = tepWord 8 5 :: [] ∧ tepType (tepWord 8 5).word = 8
    ∧ (spanDelta 5 0).natAbs ≤ late.rd (Obj.gateJumpLimit 0) ∧ late.rd (Obj.gateJumpLimit 0) < (spanDelta (2 ^ 27) 0).natAbs := by decide +kernel
theorem test_meets_ChannelRefusals : (channel 0).serving ∧ (settle (channel 4)).serving ∧ (settle (channel 4)).chanState 255 ≠ 0
    ∧ [0, 1, 3, 4, 5].all (fun st => (channel st).chanState 255 == st) = true := by decide +kernel
theorem test_meets_DetectionRecorded : late.canDetect 92 0 = true ∧ late.rd (Obj.faultSticky 92) = 0 ∧ faulty.canDetect 36 0 = true
    ∧ faulty.rd (Obj.faultSticky 36) ≠ 0 := by decide +kernel
theorem test_meets_GraveBitsStay : let s := with' [(Obj.faultSticky padBlock, 0, 2 ^ 32 - 1)] late
    (settle s).serving ∧ (settle s).rd (Obj.faultSticky padBlock) &&& (2 ^ 32 - 1) &&& faultGrave padBlock ≠ 0
    ∧ faulty.rd (Obj.faultSticky 36) &&& 5 &&& faultGrave 36 = 0
    ∧ (List.range 32).all (fun i => !(wr (Obj.faultSticky 36) (andNot (faulty.rd (Obj.faultSticky 36)) 5) faulty).forcedSource 36 i
        && !(wr (Obj.faultSticky 36) (andNot (faulty.rd (Obj.faultSticky 36)) 5) faulty).lasting 36 i) = true := by decide +kernel
theorem test_meets_CommitRule : (commitCheck ⟨0, none⟩ late).isSome = true
    ∧ commitCheck ⟨0, none⟩ (stage 0 ⟨Obj.gateVcMask 0, 0, [.num 5], none, 0, false⟩ late).2 = none := by decide +kernel
theorem test_meets_PairsChecked : (settle late).serving ∧ isDiag Obj.stepPeriod = false ∧ (match findObj Obj.stepPeriod with
    | .found o => o.ty.isPair && o.inRange 0 1 && o.writable Obj.stepPeriod && !pairOk o.ty.width (1 % 2 ^ (8 * o.ty.size)) | _ => false) = true := by
  decide +kernel
theorem test_meets_AbsentBar2 : (linked 2).barsUp = true ∧ (linked 2).bar2Present 0x400000000 = false := by decide +kernel
theorem test_meets_ChipResetDefaults : late.powered ∧ late.boot.resetNLow = false ∧ keptAtReset Obj.troughHead = false := by decide +kernel
theorem test_meets_ObjectsFrame : mayChange (.toutPulseEnd 7) = some [] ∧ on1.quiet
    ∧ exec (.toutPulseEnd 7) on1 = .next on1 := ⟨rfl, rfl, rfl⟩

end Sys2Proof.Tests
end

section
/-! ## The machine as a whole: power-on reset and the reset pins -/
namespace Sys2Proof.Machine
open Sys2Proof

/-! ### What a command that is no pin input can do -/

/-- The outcome `o` of a command on `s` is that of a command behind the wrappers of `run`: nothing happens, or the device has
power and the new state keeps the queue and the pins of `s`. -/
def Contained (s : State) (o : Host.Outcome State Fault Refusal) : Prop :=
  o = .next s ∨ (s.boot.powerReset = false ∧ ∃ t, o = .next (outside s t))

theorem Contained.unpowered {s : State} {o : Host.Outcome State Fault Refusal} (h : Contained s o)
    (hp : s.boot.powerReset = true) : o = .next s := by
  rcases h with h | ⟨hp', _⟩
  · exact h
  · rw [hp] at hp'; cases hp'

theorem run_contained (f : State → State) (s : State) : Contained s (run f s) := by
  cases h : s.boot.powerReset with
  | true => exact .inl (run_unpowered f h)
  | false => exact .inr ⟨h, _, run_powered f h⟩

theorem runPower_contained (f : State → State) (s : State) : Contained s (runPower f s) := run_contained _ s

theorem runIf_contained (c : Bool) (f : State → State) (s : State) : Contained s (runIf c f s) := by
  cases c with
  | true => exact run_contained f s
  | false => exact .inl (runIf_false f s)

theorem runPowerIf_contained (c : Bool) (f : State → State) (s : State) : Contained s (runPowerIf c f s) := by
  cases c with
  | true => exact runPower_contained f s
  | false => exact .inl (runPowerIf_false f s)

/-- Every command but those of the reset pins and the PGOOD inputs runs behind one of the four wrappers. -/
theorem exec_contained (c : Instr) (s : State) (hc : pinInput c = false) : Contained s (exec c s) := by
  cases c
  case powerOnReset | powerOnResetRelease | resetNAssert | resetNRelease | pgoodRise | pgoodFall => cases hc
  case ingressClose | stretchLimitClose | fusionStart | solveCapped | holdResultReceive | holdWatchdogTrip |
      sdpReassemblyTimeout | sessionTimeout | read | readBlock | writeBlock | discard | list | sessionOpen | sessionClose |
      attest | baleDiscard | mbxGo | counterClear | groomCycleStart | groomEpochCommit | groomAccept | sieveEvaluation |
      supplyWindowEnd | supplyConfirmTimeout | supplySettled | holdoffEnd | pmbusStretchTimeout | pmbAlert | memScrubRead |
      scrubWriteback | granarySweep | usb4LinkUp | pcieTunnelUp | busMasterEnter | busMasterExit | pcieFunctionReset |
      usb4LinkLoss | bar2Access | timeSecondsLatch | statusClearOnRead | timeNowLatch | recoveryIdentify | recoveryLoad |
      recoveryBoot | recoveryStatus | announceRx | delayReqRx | pdelayReqRx | pdelayRespRx | managementRx | syncTx |
      announceTx | delayReqTx | announceTimeout | syncTimeout | followUpTimeout | gsyncPulseEnd | clockLoss | halo | records |
      tracks | pclkTrim | qspiWriteImage | qspiWriteConfig | qspiErasePointer | qspiWriteDone | rollbackAdvance |
      fwWatchdog | paddockResetDone | faultClearCounts | muckRequest | muckRelease | qualificationTimeout | troughResetDone =>
    exact run_contained _ s
  case bootReset => exact run_contained (fun s => afterResponse (serverDo bootResetCommand s)) s
  case stepBoundary | computeLimit | fusionComplete | stepDoneUnfused | write | commit | baleCommit | mbxResponse |
      registerWrite | timeSet | syncRx | followUpRx | delayRespRx | heartbeat | delivery | remap | remapDeadline |
      domainPhaseReady | domainSwitchesOpen | quiesceDone | quiesceTimeout | switchFail | wakeClear | retainedSleep |
      deepSleep | firmwareStart | faultClear | faultForce =>
    exact runPower_contained _ s
  case gateSilent | stallDeliver | holdReadbackMismatch | sdpDatagramRx | csi2Packet | evNeg | evPos | vecNeg | vecPos |
      timeHigh | marker | pad | status | reservedWord | stagingFlushTimeout | blockRelease | tableLoadLateSwitch |
      tableSwitchLimit | i2cXfer | i2cWrite | i2cRead | i2cWriteRead | i2cDelay | i2cEnd | i2cTimeout | biasScriptGiveUp |
      chainInput | chainSettled | jobLoad | jobUnload | jobLoadDone | haloArrival | haloDeadline | ingressBlockConsume |
      sheafSeal | spikeLayerStart | denseLayerStart | detectListMerge | gleanVisit | timingErrorReplay | replayEmergency |
      throttleEnd | operationOn | operationOff | voutCommand | readVout | statusWord | tailAdvance | headWrite | pop |
      chanStart | chanPause | chanResume | chanStop | engineTurn | descriptorEnd | pauseDrained | gddr6TrainingDone |
      gddr6ZeroingDone | memRetrain | ceLimitExceeded | pdelayReqTx | toutPulse | toutPulseEnd | tcapEdge | portLinkUp |
      portLinkDown | arpRequest | icmpEchoRequest | neighbourSolicitation | unwantedFrame | muckPassStart | deskewSequence |
      frameErrorRx =>
    exact runIf_contained _ _ s
  case yardReadmit | pgoodTimeout | peerLost | wakeInput | sliceStart | slicePreempt | sliceEnd | wakeRelease =>
    exact runPowerIf_contained _ _ s

/-! ### What power-on reset loses -/

/-- The queue, the control processor's record and the PGOOD inputs are no part of what power-on reset loses. -/
theorem Lost.frame {s : State} (h : Lost s) (queue : List Instr) (boot : Boot) (pgood : Nat) :
    Lost { s with pending := queue, boot := boot, power := { s.power with pgood := pgood } } where
  time := h.time
  settings := h.settings
  memory := h.memory
  steps := h.steps
  bales := h.bales
  gates := h.gates
  engines := h.engines
  jobs := h.jobs
  tracks := h.tracks
  domains := h.domains
  reactions := h.reactions

/-- A setting whose object is not kept reads as its default (R43). -/
theorem dget_keepObjects_dropped {keep : Nat → Bool} (d : Store) {addr e : Nat} (he : e < 2 ^ 24) (hk : keep addr = false) :
    dget (keepObjects keep d) addr e = objDefault addr e := by
  have haddr : dkey addr e / 2 ^ 24 = addr := by unfold dkey; rw [Nat.shiftLeft_eq]; omega
  have hfind : sfind (keepObjects keep d) (dkey addr e) = none := by
    rw [keepObjects, sfind_filter (fun k => keep (k / 2 ^ 24)), haddr, hk]; rfl
  rw [dget, dgetK, hfind, ← keyDefault_dkey addr he]; rfl

/-- Without power only the host's memory keeps its bytes. -/
theorem powerOnReset_byteAt (s : State) {a : Nat} (ha : a < 2 ^ 64) : (powerOnReset s).byteAt a = 0 := by
  have hfind : sfind (s.mem.filter (fun c => isHostByte c.1)) a = none := by
    rw [sfind_filter isHostByte, isHostByte, decide_eq_false (Nat.not_le.mpr ha)]; rfl
  simp only [State.byteAt, powerOnReset, sget, hfind, Option.getD_none]

theorem powerOnReset_lost (s : State) : Lost (powerOnReset s) where
  time := rfl
  settings := fun _ _ he hk => dget_keepObjects_dropped s.dict he hk
  memory := fun _ ha => powerOnReset_byteAt s ha
  steps := rfl
  bales := ⟨rfl, rfl⟩
  gates := ⟨rfl, rfl⟩
  engines := ⟨rfl, rfl, rfl, rfl⟩
  jobs := ⟨rfl, rfl, rfl⟩
  tracks := ⟨rfl, rfl⟩
  domains := rfl
  reactions := rfl

/-! ### The invariant under what a command leaves -/

/-- `setPins` sets up the invariant wherever D0 is empty when power-on reset holds it. -/
theorem setPins_inv (s : State) {p l : Bool} {t : State} (h : p = true → Lost t) : Inv (setPins s p l t) where
  lost := fun hp => (h hp).frame s.pending (setPins s p l t).boot t.power.pgood
  held := setPins_held s p l t

theorem Inv.dequeue {s : State} (h : Inv s) (rest : List Instr) : Inv { s with pending := rest } where
  lost := fun hp => (h.lost hp).frame rest s.boot s.power.pgood
  held := h.held

theorem Contained.inv {s t : State} (hs : Inv s) (h : Contained s (.next t)) : Inv t := by
  rcases h with h | ⟨hp, u, h⟩
  · cases h; exact hs
  · cases h; exact setPins_inv s (fun hp' => by rw [hp] at hp'; cases hp')

theorem pinGood_inv (r : Nat) (high : Bool) {s : State} (hs : Inv s) : Inv (pinGood r high s) where
  lost := fun hp => (hs.lost hp).frame s.pending s.boot (pinGood r high s).power.pgood
  held := hs.held

/-- A PGOOD input behaves as any other command, but that in power-on reset its level is still followed. -/
theorem pgood_inv {r : Nat} {high : Bool} {f : State → State} {s t : State} (hs : Inv s)
    (h : (if r < 4 then (if s.boot.powerReset then .next (pinGood r high s) else run f s) else .next s) = .next t) : Inv t := by
  split at h
  · split at h
    · cases h; exact pinGood_inv r high hs
    · exact Contained.inv hs (h ▸ run_contained f s)
  · cases h; exact hs

theorem powerOnResetRelease_inv {high : Bool} {bootsel : Nat} {s t : State} (hs : Inv s)
    (h : exec (.powerOnResetRelease high bootsel) s = .next t) : Inv t := by
  change execPowerOnResetRelease high bootsel s = .next t at h
  unfold execPowerOnResetRelease at h
  split at h
  · cases h; exact setPins_inv s nofun
  · cases h; exact hs

theorem resetNAssert_inv {lowNs : Nat} {s t : State} (hs : Inv s) (h : exec (.resetNAssert lowNs) s = .next t) : Inv t := by
  change execResetNAssert lowNs s = .next t at h
  unfold execResetNAssert at h
  split at h
  · cases h; exact hs
  · split at h
    · next hp => cases h; exact setPins_inv s (fun _ => hs.lost hp)
    · split at h
      · cases h
      · obtain rfl := Host.Outcome.next.inj h; exact setPins_inv s nofun

theorem resetNRelease_inv {bootsel : Nat} {s t : State} (hs : Inv s) (h : exec (.resetNRelease bootsel) s = .next t) :
    Inv t := by
  change execResetNRelease bootsel s = .next t at h
  unfold execResetNRelease at h
  split at h
  · cases h; exact hs
  · split at h
    · next hp => cases h; exact setPins_inv s (fun _ => hs.lost hp)
    · cases h; exact setPins_inv s nofun

theorem exec_inv {c : Instr} {s t : State} (hs : Inv s) (h : exec c s = .next t) : Inv t := by
  cases hc : pinInput c with
  | false => exact Contained.inv hs (h ▸ exec_contained c s hc)
  | true =>
    cases c
    case powerOnReset => obtain rfl := Host.Outcome.next.inj h; exact setPins_inv s (fun _ => powerOnReset_lost s)
    case powerOnResetRelease => exact powerOnResetRelease_inv hs h
    case resetNAssert => exact resetNAssert_inv hs h
    case resetNRelease => exact resetNRelease_inv hs h
    case pgoodRise | pgoodFall => exact pgood_inv hs h
    all_goals cases hc

/-- A tick with an empty queue leaves a device in power-on reset as it is. -/
theorem idle_inv {s : State} (hs : Inv s) : Inv (outside s (idleTick s)) :=
  setPins_inv s (fun hp => by rw [idleTick, if_pos hp]; exact hs.lost hp)

/-! ### The obligations -/

/-- Settles O8: a step runs one command or idles, and either keeps the invariant. -/
theorem stepKeepsInv : Obligations.StepKeepsInv := by
  intro s t hs h
  unfold step at h
  split at h
  · cases h; exact idle_inv hs
  · next c rest _ => exact exec_inv (hs.dequeue rest) h

/-- Settles O6: in power-on reset a contained command has no effect. -/
theorem powerOnResetHolds : Obligations.PowerOnResetHolds :=
  fun c s _ hp hc => (exec_contained c s hc).unpowered hp

/-- Settles O7: after reset neither reset pin holds the device. -/
theorem resetInv : Obligations.ResetInv where
  lost := nofun
  held := nofun

end Sys2Proof.Machine
end

section
/-! ## Gates: timeouts, releases, bank switches and deskew -/
namespace Sys2Proof.Machine
open Sys2Proof

/-- A command of gate g in a device with power (R3). -/
theorem runGate_powered {g : Nat} (f : State → State) {s : State} (hg : g < 36) (hp : s.powered) :
    runIf (g < 36) f s = .next (after s (f s)) :=
  runIf_powered f (decide_eq_true hg) hp

/-- `dueAt` as a function of which nothing is known but this equation. The proofs below move to it before they take a `match`
apart, so that the kernel never reckons with instants. -/
theorem exists_dueAt : ∃ due, State.dueAt = due := ⟨_, rfl⟩

theorem gateSilent_due {g : Nat} {s u : State} (hg : g < 36) (hs : s.gateState g ≠ 0) (he : (s.gate g).enabled = true)
    (hn : s.silent g = false) (hu : s.dueAt ((s.gate g).lastWordAt + 2 * s.periodUs * 1000 * nsUnit) = some u) :
    gateSilent g s = (u |> putBit Obj.stepSilentGates g true |> loseCover g
      |> updGate g (fun gt => { gt with taps := [none, none, none, none] }) |> detect (gateBlock g) Src.gateSilent
      |> checkCoverage g) := by
  have hgo : ¬(36 ≤ g ∨ s.gateState g = 0 ∨ !(s.gate g).enabled ∨ s.silent g) := by
    rintro (h | h | h | h)
    · exact absurd h (Nat.not_le.mpr hg)
    · exact hs h
    · rw [he] at h; cases h
    · rw [hn] at h; cases h
  rw [gateSilent, if_neg hgo, hu]

theorem stagingFlush_due {g : Nat} {s u : State} {b : StageBlock}
    (hb : minBy (fun b => (b.firstAt : Int)) ((s.gate g).staging.filter (fun b => !b.waiting)) = some b)
    (hu : s.dueAt (b.firstAt + 20000 * nsUnit) = some u) :
    stagingFlush g s = flushWhere g (fun x => !x.waiting && x.firstAt + 20000 * nsUnit ≤ u.now) u := by
  obtain ⟨due, hdue⟩ := exists_dueAt
  rw [stagingFlush, hdue]
  rw [hdue] at hu
  simp only [hb, hu]

theorem blockRelease_free {g block : Nat} {s : State} (hb : block ∈ (s.gate g).ringUsed)
    (hq : s.stalls.any (fun p => p.2.queue.any (fun b => b.gate == g && b.block == block)) = false) :
    blockRelease g block s
      = flushWhere g (fun b => b.waiting) (updGate g (fun gt => { gt with ringUsed := gt.ringUsed.erase block }) s) := by
  rw [blockRelease, if_pos (by rw [List.contains_iff_mem.mpr hb, hq]; rfl)]

theorem tableSwitchLimit_due {g : Nat} {s u : State} {l : TableLoad}
    (hl : minBy (fun l => (l.limitUs : Int)) (s.gate g).loads = some l)
    (hu : s.dueAt (l.limitUs * 1000 * nsUnit) = some u) :
    tableSwitchLimit g s
      = ((u.gate g).loads.filter (fun l => l.limitUs * 1000 * nsUnit ≤ u.now)).foldl (fun s l => switchBank g l s) u := by
  obtain ⟨due, hdue⟩ := exists_dueAt
  rw [tableSwitchLimit, hdue]
  rw [hdue] at hu
  simp only [hl, hu]

theorem deskewSequence_aligned (g : Nat) (s : State) : deskewSequence g true s = s := by
  rw [deskewSequence, Bool.not_true, Bool.and_false, Bool.false_and, detectIf_false]

theorem deskewSequence_failed {g : Nat} {s : State} (hg : g < 36) (hs : s.gateState g ≠ 0) :
    deskewSequence g false s = detect (gateBlock g) Src.gateDeskewFail s := by
  rw [deskewSequence, show (g < 36 && !false && s.gateState g != 0) = true by
    rw [decide_eq_true hg, bne_iff_ne.mpr hs]; rfl, detectIf_true]

/-- Settles O14, one event of the gate after the other. -/
theorem gateEventsComplete : Obligations.GateEventsComplete := by
  intro g s u hg hp
  refine ⟨fun hs he hn hu => ?_, fun b hb hu => ?_, fun block hb hq => ?_, ?_, fun l hl hu => ?_, fun hs => ?_, ?_⟩
  · rw [← gateSilent_due hg hs he hn hu]; exact runGate_powered (gateSilent g) hg hp
  · rw [← stagingFlush_due hb hu]; exact runGate_powered (stagingFlush g) hg hp
  · rw [← blockRelease_free hb hq]; exact runGate_powered (blockRelease g block) hg hp
  · exact runGate_powered (tableLoadLate g) hg hp
  · rw [← tableSwitchLimit_due hl hu]; exact runGate_powered (tableSwitchLimit g) hg hp
  · rw [← deskewSequence_failed hg hs]; exact runGate_powered (deskewSequence g false) hg hp
  · have h := runGate_powered (deskewSequence g true) hg hp
    rwa [deskewSequence_aligned] at h

end Sys2Proof.Machine

/-! ## Steps: boundary, ingress, compute limit and delivery -/
namespace Sys2Proof.Machine
open Sys2Proof

/-- At a boundary without a waiting bale and with the schedule as it was, step k opens (R10, R26). -/
theorem stepBoundary_due {s u v : State} (hu : s.dueAt (s.boundary s.time.nextBoundary) = some u)
    (hv : stretchSteps s.time.nextBoundary (checkBoundaryPairs u) = v) (hw : v.sdp.waiting = [])
    (hd : sameSchedule u.dict v.dict = true) :
    stepBoundary s = (v |> openStep s.time.nextBoundary |> gsyncBoundary s.time.nextBoundary
      |> boundaryWork s.time.nextBoundary) := by
  -- Unfolded as a function: an equation at `s` would have the kernel evaluate `s.dueAt`.
  have hdef : stepBoundary = stepBoundary := rfl
  conv at hdef => rhs; delta stepBoundary
  obtain ⟨due, hdue⟩ := exists_dueAt
  rw [hdef, hdue]
  rw [hdue] at hu
  simp only [hu, hv, hw, hd, List.isEmpty_nil, if_true]

/-- Settles O16: the boundary's own effect, under the power controller's wrapper. -/
theorem boundaryCompletes : Obligations.BoundaryCompletes := by
  intro s u v hp hu hv hw hd
  dsimp only
  rw [← stepBoundary_due hu hv hw hd]
  exact runPower_powered stepBoundary hp

section
variable {k : Nat} {s : State} {r : StepRec}

theorem ingressClose_caughtUp (hr : s.step? k = some r) (ho : r.phase.ingressOpen = true)
    (hk : k + 1 < s.time.nextBoundary) (hc : s.caughtUp k = true) : ingressClose k s = closeIngress k false s := by
  simp only [ingressClose, hr, ho, hk, hc, decide_true, Bool.and_self, if_true]

theorem stretchLimitClose_due {u : State} (hr : s.step? k = some r) (ho : r.phase.ingressOpen = true)
    (hk : k + 1 < s.time.nextBoundary) (hc : s.caughtUp k = false) (hu : s.dueAt (s.boundary (k + slOf r.cfg)) = some u) :
    stretchLimitClose k s = closeIngress k true u := by
  simp only [stretchLimitClose, hr, ho, hk, hc, hu, decide_true, Bool.not_false, Bool.and_self, if_true]

theorem computeLimit_due {u : State} (hr : s.step? k = some r) (hc : r.phase = .computing)
    (hu : s.dueAt (s.boundary (k + slOf r.cfg + 1)) = some u) :
    computeLimit k s
      = serveSteps k ((u.jobsOf k).foldl (fun v j => missStep j k (u.boundaryUs (k + slOf r.cfg + 1)) v) u) := by
  simp only [computeLimit, hr, hc, hu, beq_self_eq_true, if_true]

theorem stallDeliver_finished {i : Nat} {f : Leaf} (hf : s.leafOf i = some f) (hr : s.step? k = some r)
    (ha : r.awaits i = true) (hj : s.inRun f.j k = true) (hi : i ∈ s.cutOf f k) (hd : s.leafFinished f k = true) :
    stallDeliver i k s = (s |> updStep k (fun r => { r with delivered := r.delivered ++ [i] })
      |> wr (Obj.stallStepDone i) (newestStep (s.rd (Obj.stallStepDone i)) k s) |> clearMiss f.j i |> serveStep k f.j) := by
  simp only [stallDeliver, hf, hr, ha, hj, hd, List.contains_iff_mem.mpr hi, Bool.and_self, if_true]

end

/-- Settles O17: the four events of a step between its boundary and its fusion. -/
theorem stepEventsComplete : Obligations.StepEventsComplete := by
  intro k s u r hp
  refine ⟨fun hr ho hk hc => ?_, fun hr ho hk hc hu => ?_, fun hr hc hu => ?_, fun i f hi hf hr ha hj hc hd => ?_⟩
  · rw [← ingressClose_caughtUp hr ho hk hc]; exact run_powered (ingressClose k) hp
  · rw [← stretchLimitClose_due hr ho hk hc hu]; exact run_powered (stretchLimitClose k) hp
  · rw [← computeLimit_due hr hc hu]; exact runPower_powered (computeLimit k) hp
  · rw [← stallDeliver_finished hf hr ha hj hc hd]
    exact runIf_powered (stallDeliver i k) (decide_eq_true hi) hp

end Sys2Proof.Machine

/-! ## Fusion -/
namespace Sys2Proof.Machine
open Sys2Proof

theorem fusionStart_due {k : Nat} {s u : State} {r : StepRec} (hr : s.fusable k = some r)
    (hu : s.dueAt (s.boundary (k + 2)) = some u) :
    fusionStart k s = (u |> yardStepWrite k |> fuse r |> updStep k (fun r => { r with phase := .fusing })) := by
  rw [fusionStart, hr, hu]

theorem solveCapped_untold {s : State} {f : Fusion} (hf : s.paddock.fusion = some f) (hc : f.capped = true)
    (ht : f.cappedTold = false) :
    solveCapped s = (s |> updPaddock (fun p => { p with fusion := some { f with cappedTold := true } })
      |> inc 32 Obj.paddockSolveCapped |> detect padBlock Src.padSolveCapped) := by
  simp only [solveCapped, hf, hc, ht, Bool.not_false, Bool.and_self, if_true]

/-- A fusion that ends within its 300 µs publishes its result and makes its step DONE (R331, R537). -/
theorem fusionComplete_inTime {s u : State} {f : Fusion} {r : StepRec} (hf : s.paddock.fusion = some f)
    (hu : holdResult 0 0 0 0 (solveCapped s) = u) (hr : u.step? f.k = some r) (ht : u.now ≤ f.since + 300000 * nsUnit) :
    fusionComplete s = stepDone f.k (f.coObs.foldl (fun s o => takeCoObs o s)
      (u |> writeFused r f false |> publishFusion f |> sendTracks r f |> wr Obj.stepFused f.k |> trackSamples f)) := by
  rw [fusionComplete, hf]; dsimp only
  rw [hu, hr]; dsimp only
  rw [decide_eq_false (Nat.not_lt.mpr ht), if_neg Bool.false_ne_true]

theorem stepDoneUnfused_due {k : Nat} {s u : State} {r : StepRec} {later : List StepRec} (hs : s.steps = r :: later)
    (hk : r.k = k) (hc : r.phase = .computing) (hn : cfgN r.cfg Obj.paddockRun ≠ 1) (ha : s.allIn r = true)
    (hu : s.dueAt (s.boundary (k + 2)) = some u) : stepDoneUnfused k s = (u |> yardStepWrite k |> stepDone k) := by
  simp only [stepDoneUnfused, hs, hk, hc, ha, bne_iff_ne.mpr hn, hu, beq_self_eq_true, Bool.and_self, if_true]

theorem paddockResetDone_resetting {s : State} (h : s.paddock.resetting = true) :
    paddockResetDone s = updPaddock (fun p => { p with resetting := false, rearm := true }) s := by
  rw [paddockResetDone, if_pos h]

/-- Settles O18: start, cap and end of a fusion, the step that goes without, and the end of the paddock's reset. -/
theorem fusionCompletes : Obligations.FusionCompletes := by
  intro k s u r f hp
  refine ⟨fun hr hu => ?_, fun hf hc ht => ?_, fun hf hu hr ht => ?_, fun later hs hk hc hn ha hu => ?_, fun h => ?_⟩
  · rw [← fusionStart_due hr hu]; exact run_powered (fusionStart k) hp
  · rw [← solveCapped_untold hf hc ht]; exact run_powered solveCapped hp
  · rw [← fusionComplete_inTime hf hu hr ht]; exact runPower_powered fusionComplete hp
  · rw [← stepDoneUnfused_due hs hk hc hn ha hu]; exact runPower_powered (stepDoneUnfused k) hp
  · rw [← paddockResetDone_resetting h]; exact run_powered paddockResetDone hp

end Sys2Proof.Machine
end

section
/-! ## The dictionary: datagrams, timeouts and single writes -/
namespace Sys2Proof.Machine
open Sys2Proof

/-! ### Datagrams -/

/-- The message that datagram `b` begins where nothing of it is kept (R56). -/
def newPartial (port source : Nat) (b : List Byte) (s : State) : Partial :=
  ⟨source, port, beAt b 3 1, 0, beAt b 6 2, beAt b 8 4, beAt b 12 8, s.now, [], none⟩
/-- What is kept of the message of datagram `b`. -/
def State.keptPartial (s : State) (port source : Nat) (b : List Byte) : Option Partial :=
  s.sdp.partials.find? (samePartial (newPartial port source b s))
/-- The message of datagram `b` with the fragment that `b` brings. -/
def State.joined (s : State) (port source : Nat) (b : List Byte) : Partial :=
  addFragment ((s.keptPartial port source b).getD (newPartial port source b s)) (beAt b 24 4) (b.drop 28) (beAt b 4 2)
/-- The message of datagram `b` is kept, in the place of what was there of it. -/
def keepPartial (port source : Nat) (b : List Byte) (s : State) : State :=
  updSdp (fun d => { d with
    partials :=
      if (s.keptPartial port source b).isSome then
        d.partials.map (fun x => if samePartial (newPartial port source b s) x then s.joined port source b else x)
      else d.partials ++ [s.joined port source b] }) s
/-- The message of datagram `b` is complete up to `e`: its request comes to the server. -/
def passPartial (port source : Nat) (b : List Byte) (e : Nat × Nat) (s : State) : State :=
  s |> updSdp (fun d => { d with partials := s.sdp.partials.filter (fun x => !samePartial (newPartial port source b s) x) })
    |> updSession (s.joined port source b).session (fun x => { x with lastUse := s.now })
    |> enqueue ((s.joined port source b).request e)

section
variable {port : Nat} {source : Nat} {b : List Byte} {s : State}

theorem sdpDatagram_bad (hu : s.serverUp = true) (hp : s.portUp port = true) (hb : s.badDatagram b = true) :
    sdpDatagram port source b s = dropDatagram s := by
  rw [sdpDatagram, hu, hp, if_neg (by decide), if_pos hb]

/-- A good datagram is joined to its message, which is passed on as a whole or kept. -/
theorem sdpDatagram_good (hu : s.serverUp = true) (hp : s.portUp port = true) (hb : s.badDatagram b = false) :
    sdpDatagram port source b s = match (s.joined port source b).last with
      | some e => if e.1 + e.2 ≤ covered (s.joined port source b).parts then passPartial port source b e s
        else keepPartial port source b s
      | none => keepPartial port source b s := by
  rw [sdpDatagram, hu, hp, if_neg (by decide), hb, if_neg (by decide)]; rfl

theorem sdpDatagram_complete (hu : s.serverUp = true) (hp : s.portUp port = true) (hb : s.badDatagram b = false)
    {e : Nat × Nat} (he : (s.joined port source b).last = some e) (hc : e.1 + e.2 ≤ covered (s.joined port source b).parts) :
    sdpDatagram port source b s = passPartial port source b e s := by
  simp only [sdpDatagram_good hu hp hb, he, if_pos hc]

theorem sdpDatagram_incomplete (hu : s.serverUp = true) (hp : s.portUp port = true) (hb : s.badDatagram b = false)
    (hc : ∀ e, (s.joined port source b).last = some e → covered (s.joined port source b).parts < e.1 + e.2) :
    sdpDatagram port source b s = keepPartial port source b s := by
  rw [sdpDatagram_good hu hp hb]
  cases he : (s.joined port source b).last with
  | none => rfl
  | some e => exact if_neg (Nat.not_le.mpr (hc e he))

theorem keepPartial_first (h : s.keptPartial port source b = none) : keepPartial port source b s
    = updSdp (fun d => { d with partials := d.partials ++ [s.joined port source b] }) s := by
  simp only [keepPartial, h, Option.isSome_none, Bool.false_eq_true, if_false]

theorem keepPartial_later (h : (s.keptPartial port source b).isSome = true) : keepPartial port source b s
    = updSdp (fun d => { d with partials := d.partials.map (fun x =>
        if samePartial (newPartial port source b s) x then s.joined port source b else x) }) s := by
  simp only [keepPartial, h, if_true]

end

/-- Settles O22: a datagram is bad, completes its message, or is kept with it. -/
theorem datagramCompletes : Obligations.DatagramCompletes := by
  intro port source b s hport hp hu hl
  have hrun := runIf_powered (sdpDatagram port source b) (decide_eq_true hport) hp
  refine ⟨fun hb => ?_, fun hb e he hc => ?_, fun hb hc => ?_⟩
  · rw [← sdpDatagram_bad (source := source) hu hl hb]; exact hrun
  · rw [sdpDatagram_complete hu hl hb he hc] at hrun; exact hrun
  · rw [sdpDatagram_incomplete hu hl hb hc] at hrun
    exact ⟨fun hn => keepPartial_first hn ▸ hrun, fun hs => keepPartial_later hs ▸ hrun⟩

/-! ### Timeouts and the mailbox -/

section
variable {s u : State}

theorem reassemblyTimeout_due {source : Nat} {p : Partial} (hf : s.sdp.partials.find? (fun p => p.source == source) = some p)
    (hs : s.serverUp = true) (hu : s.dueAt (p.since + 200000000 * nsUnit) = some u) :
    reassemblyTimeout source s = (u |> updSdp (fun d => { d with partials := d.partials.erase p }) |> dropDatagram) := by
  obtain ⟨due, hdue⟩ := exists_dueAt
  rw [reassemblyTimeout, hdue]
  rw [hdue] at hu
  simp only [hf, hs, hu, Bool.not_true, Bool.false_eq_true, if_false]

theorem sessionTimeout_due {id : Nat} {x : Session} (hx : s.session? id = some x) (hs : s.serverUp = true)
    (hu : s.dueAt (x.lastUse + (if x.timeoutS = 0 then s.rd Obj.sdpSessionTimeout else x.timeoutS) * 1000000000 * nsUnit)
      = some u) : sessionTimeout id s = endSession id u := by
  obtain ⟨due, hdue⟩ := exists_dueAt
  rw [sessionTimeout, hdue]
  rw [hdue] at hu
  simp only [hx, hs, hu, Bool.not_true, Bool.false_eq_true, if_false]

theorem mbxGo_busy (hb : s.barsUp = true) (hm : s.mbx.state = 1) :
    mbxGo s = updMbx (fun m => { m with ignored := (m.ignored + 1) % 2 ^ 32 }) s := by
  rw [mbxGo, hb, if_neg (by decide), if_pos hm]

/-- The mailbox latches the request in its buffer and is BUSY (R74). -/
def latchRequest (s : State) : State :=
  updMbx (fun m => { m with
    state := 1, latched := (List.range (min s.mbx.reqLen 32513)).map (fun i => sget (0 : Byte) s.mbx.reqBuf i),
    busyTag := m.tag, answer := none, rspBuf := [] }) s

theorem mbxGo_idle (hb : s.barsUp = true) (hm : s.mbx.state ≠ 1) (hs : s.serverUp = true) :
    mbxGo s = enqueue (latchRequest s).mbxRequest (latchRequest s) := by
  rw [mbxGo, hb, if_neg (by decide), if_neg hm]
  exact if_pos hs

theorem mbxResponse_answered {b : List Byte} (hm : s.mbx.state = 1) (hb : s.barsUp = true) (ha : s.mbx.answer = some b)
    (hr : s.boot.resetAfterResponse = false) : mbxResponse s = mbxDone b s := by
  have hgo : ¬(s.mbx.state ≠ 1 || !s.barsUp) = true := by rw [hm, hb]; decide
  have hafter : (mbxDone b s).boot.resetAfterResponse = false := hr
  rw [mbxResponse, if_neg hgo, ha]
  simp only [afterResponse, hafter, Bool.false_eq_true, if_false]

end

/-- Settles O23: each timeout where its instant has come, and the two ends of a mailbox transfer. -/
theorem transportCompletes : Obligations.TransportCompletes := by
  intro s u hp
  refine ⟨fun source p hf hs hu => ?_, fun id x hx hs hu => ?_, fun hb hm => ?_, fun hb hm hs => ?_, fun b hm hb ha hr => ?_⟩
  · rw [← reassemblyTimeout_due hf hs hu]; exact run_powered (reassemblyTimeout source) hp
  · rw [← sessionTimeout_due hx hs hu]; exact run_powered (sessionTimeout id) hp
  · rw [← mbxGo_busy hb hm]; exact run_powered mbxGo hp
  · have h := run_powered mbxGo hp
    rw [mbxGo_idle hb hm hs] at h; exact h
  · rw [← mbxResponse_answered hm hb ha hr]; exact runPower_powered mbxResponse hp

/-! ### Single writes -/

section
variable {s : State}

theorem hostDo_open (f : State → Abort × State) (h : s.serving) (hs : s.rd Obj.mbxRequireSigned ≠ 1) :
    hostDo f s = answered (f s).1.1 (f s).1.2 (f s).2 := by
  obtain ⟨hup, hfree⟩ := h
  rw [hostDo, serverDo_serving _ hup hfree, if_neg hs]

theorem hostDo_signedOnly (f : State → Abort × State) (h : s.serving) (hs : s.rd Obj.mbxRequireSigned = 1) :
    hostDo f s = answered Ab.notAuthorised 0 s := by
  obtain ⟨hup, hfree⟩ := h
  rw [hostDo, serverDo_serving _ hup hfree, if_pos hs]

theorem runPower_hostDo_open (f : State → Abort × State) (hp : s.powered) (h : (settle s).serving)
    (hs : (settle s).rd Obj.mbxRequireSigned ≠ 1) :
    runPower (hostDo f) s = .next (afterPower s (answered (f (settle s)).1.1 (f (settle s)).1.2 (f (settle s)).2)) := by
  rw [runPower_powered _ hp, hostDo_open f h hs]

theorem runPower_hostDo_signedOnly (f : State → Abort × State) (hp : s.powered) (h : (settle s).serving)
    (hs : (settle s).rd Obj.mbxRequireSigned = 1) :
    runPower (hostDo f) s = .next (afterPower s (answered Ab.notAuthorised 0 (settle s))) := by
  rw [runPower_powered _ hp, hostDo_signedOnly f h hs]

theorem ownBale_session {id k : Nat} {x : Session} (n : Nat) (h : s.serving) (hx : s.session? id = some x)
    (hk : x.keySlot = some k) :
    ownBale (.session id) n s = (let r := baleCommand ⟨ownerCode (.session id), some k⟩ n s; answered r.1.1 r.1.2 r.2) := by
  obtain ⟨hup, hfree⟩ := h
  simp only [ownBale, hx, hk, serverDo_serving _ hup hfree]

theorem timeNowRead_serving (h : s.serving) :
    timeNowRead s = (s |> latchNow |> emit (.bytes (beBytes 8 (s.nowNs / 1000000000)))) := by
  obtain ⟨hup, hfree⟩ := h
  rw [timeNowRead, hup, hfree, if_neg (by decide)]

end

theorem pair_notBytes {t : Ty} (h : t.isPair = true) : ¬(t = .str ∨ t = .domain) := by
  rintro (rfl | rfl) <;> cases h

theorem valuesAbort_pair {o : ObjRow} {n : Nat} (hp : o.ty.isPair = true) (hn : pairOk o.ty.width n = false) :
    valuesAbort o [.num n] = Ab.pairMismatch := by
  have h : elemAbort o (.num n) = Ab.pairMismatch := by rw [elemAbort, hp, hn]; rfl
  rw [valuesAbort, List.map_singleton, h]; rfl

/-- A PAIR whose halves do not match is refused before anything is written (R37). -/
theorem objectWrite_badPair {s : State} {addr e n : Nat} {o : ObjRow} (hd : isDiag addr = false) (ho : findObj addr = .found o)
    (hp : o.ty.isPair = true) (he : o.inRange e 1 = true) (hw : o.writable addr = true)
    (hn : pairOk o.ty.width (n % 2 ^ (8 * o.ty.size)) = false) :
    objectWrite addr e [n] s = ((Ab.pairMismatch, 0), s) := by
  simp only [objectWrite, hd, ho, if_neg (pair_notBytes hp), List.length_singleton, he, hw, Bool.not_true,
    Bool.false_eq_true, if_false, List.map_singleton, valuesAbort_pair hp hn]
  rfl

/-- Settles O57. -/
theorem pairsChecked : Obligations.PairsChecked := by
  intro s addr e n o hp hs hsig hd ho hpair he hw hn
  have h := runPower_hostDo_open (objectWrite addr e [n]) hp hs hsig
  rw [objectWrite_badPair hd ho hpair he hw hn] at h
  exact h

/-- Settles O25: what the host sends passes `hostDo`; a session's COMMIT and the rest go to the server themselves. -/
theorem singleWritesComplete : Obligations.SingleWritesComplete := by
  intro s hp
  refine ⟨fun hs hsig => ⟨runPower_hostDo_open (baleCommand hostWriter 1) hp hs hsig,
      fun addr e vs => runPower_hostDo_open (objectWrite addr e vs) hp hs hsig,
      fun addr b => runPower_hostDo_open (writeBytes wireNat hostWriter addr 0 0 1 b) hp hs hsig⟩,
    fun hs hsig => ⟨runPower_hostDo_signedOnly (baleCommand hostWriter 1) hp hs hsig,
      fun addr e vs => runPower_hostDo_signedOnly (objectWrite addr e vs) hp hs hsig,
      fun addr b => runPower_hostDo_signedOnly (writeBytes wireNat hostWriter addr 0 0 1 b) hp hs hsig⟩,
    fun id x k hs hx hk => ?_, fun hs hsig => ?_, fun o b => runPower_powered (bar0Write o b) hp, fun addr ⟨hup, hfree⟩ => ?_,
    fun hs => ?_⟩
  · have h := runPower_powered (ownBale (.session id) 1) hp
    rw [ownBale_session 1 hs hx hk] at h; exact h
  · have h := run_powered (hostDo (baleCommand hostWriter 2)) hp
    rw [hostDo_open _ hs hsig] at h; exact h
  · have h := run_powered (serverDo (fun s => (noAbort, counterClear addr s))) hp
    rw [serverDo_serving _ hup hfree] at h; exact h
  · rw [← timeNowRead_serving hs]; exact run_powered timeNowRead hp

end Sys2Proof.Machine
end

section
/-! ## The dictionary: requests that every check lets through -/
namespace Sys2Proof.Machine
open Sys2Proof

/-! ### Requests that every check lets through -/

/-- The sequence of the slot that signed a mailbox request advances (R70, R74). -/
def noteSlot (q : Request) (slot : Option Nat) (s : State) : State :=
  match slot with
  | some k => wrE Obj.sdpSlotSequence k q.seq s
  | none => s

section
variable {s v : State} {q : Request} {who : Committer} {keep : Bool} {slot : Option Nat}

/-- A mailbox request with good lengths and authority is accepted (R74). -/
theorem serveMailbox_admitted (act : OpAct) (hf : formOk q.op q.payload = true) (hs : q.session = 0)
    (hlo : 24 ≤ s.mbx.latched.length) (hhi : s.mbx.latched.length ≤ 32512) (hl : q.payloadLen = q.msg.length)
    (h8 : q.op ≠ 8) (h9 : q.op ≠ 9)
    (ha : authorise q (s.rd Obj.mbxRequireSigned == 1 && s.mustSign q.op false) (fun _ => true) s = (Ab.ok, slot))
    (hseq : ∀ k, slot = some k → s.rdE Obj.sdpSlotSequence k < q.seq) :
    serveMailbox q act s = accept q ⟨ownerCode .mailbox, slot⟩ act false (noteSlot q slot s) := by
  have hlen : s.mbxLengthBad q = false := by
    rw [State.mbxLengthBad, decide_eq_true hlo, decide_eq_true hhi, hl, bne_self_eq_false]; rfl
  have hop : ¬(q.op = 8 ∨ q.op = 9) := fun h => h.elim h8 h9
  simp only [serveMailbox, hs, ne_eq, not_true_eq_false, hlen, Bool.false_eq_true, hop, ha, hf, Bool.not_true, if_false]
  cases slot with
  | none => rfl
  | some k =>
    have hnew : decide (q.seq ≤ s.rdE Obj.sdpSlotSequence k) = false := decide_eq_false (Nat.not_le.mpr (hseq k rfl))
    simp only [hnew, Bool.false_eq_true, if_false, noteSlot]

theorem serveOutside_admitted (act : OpAct) (hf : formOk q.op q.payload = true) (hs : q.signed = false) :
    serveOutside q act s = accept q ⟨ownerCode (.session 0), none⟩ act false s := by
  rw [serveOutside, hs, if_neg Bool.false_ne_true, hf, if_neg (by decide)]

/-- A new request of an open session with authority is accepted (R69 to R71). -/
theorem serveSession_admitted (act : OpAct) {x : Session} (hf : formOk q.op q.payload = true)
    (hrep : ¬(x.lastSeq = some q.seq ∧ x.lastOp = q.op)) (hkey : q.signed = true → x.keySlot ≠ none)
    (ha : authorise q (s.mustSign q.op x.keySlot.isSome) (fun k => x.keySlot == some k) s = (Ab.ok, slot))
    (hseq : s.staleSeq x q slot = false) :
    serveSession q x act s = accept q ⟨ownerCode (.session q.session), slot⟩ act true (noteSequence q slot s) := by
  have hsig : (q.signed && x.keySlot.isNone) = false := by
    cases hs : q.signed with
    | false => rfl
    | true => rw [Bool.true_and, Option.isNone_eq_false_iff, Option.isSome_iff_ne_none]; exact hkey hs
  have hauth : authSession q x s = (Ab.ok, slot) := by rw [authSession, hsig, if_neg Bool.false_ne_true, ha]
  simp only [serveSession, hauth, ne_eq, not_true_eq_false, hrep, hseq, hf, Bool.not_true, Bool.false_eq_true, if_false]

/-- An admitted request is accepted, by whichever way it came. -/
theorem serveRequest_admitted (act : OpAct) (h : Admitted s q who keep v) : serveRequest q act s = accept q who act keep v := by
  obtain ⟨hfree, hf, slot, hmail | hout | hsess⟩ := h
  · obtain ⟨hm, hs, hlo, hhi, hl, h8, h9, ha, hseq, rfl, rfl, rfl⟩ := hmail
    rw [serveRequest, hfree, if_neg Bool.false_ne_true, if_pos hm, serveMailbox_admitted act hf hs hlo hhi hl h8 h9 ha hseq]
    rfl
  · obtain ⟨hm, hs, hsig, rfl, rfl, rfl⟩ := hout
    rw [serveRequest, hfree, if_neg Bool.false_ne_true, hm, if_neg Bool.false_ne_true, if_pos hs,
      serveOutside_admitted act hf hsig]
  · obtain ⟨hm, hs, x, hx, hrep, hkey, ha, hseq, rfl, rfl, rfl⟩ := hsess
    rw [serveRequest, hfree, if_neg Bool.false_ne_true, hm, if_neg Bool.false_ne_true, if_neg hs, hx]
    exact serveSession_admitted act hf hrep hkey ha hseq

/-- The op at the front of the queue of a running server is executed and answered. -/
theorem serveOp_admitted {rest : List Request} (act : OpAct) (hu : s.serverUp = true) (hq : s.sdp.queue = q :: rest)
    (h : Admitted (updSdp (fun d => { d with queue := rest }) s) q who keep v) :
    serveOp q.op act s = requestEnd q (accept q who act keep v) := by
  simp only [serveOp, hq, hu, ne_eq, not_true_eq_false, decide_false, Bool.not_true, Bool.or_self, Bool.false_eq_true, if_false,
    serveRequest_admitted act h]
  rfl

end

/-- Settles O24: each op of the table is `serveOp` of its number with its own effect. -/
theorem opsServed : Obligations.OpsServed := by
  intro s v q rest who keep hp
  refine ⟨fun hu hq h => ?_, fun hu hq h => ?_⟩
  · have hrun (act : OpAct) : run (serveOp q.op act) s = .next (after s (requestEnd q (accept q who act keep v))) := by
      rw [run_powered _ hp, serveOp_admitted act hu hq h]
    refine ⟨fun ho => ?_, fun ho => ?_, fun ho => ?_, fun ho => ?_, fun ho => ?_, fun ho => ?_, fun ho => ?_, fun ho => ?_⟩ <;>
      rw [← hrun, ho] <;> rfl
  · have hrun (act : OpAct) : runPower (serveOp q.op act) s = .next (afterPower s (requestEnd q (accept q who act keep v))) := by
      rw [runPower_powered _ hp, serveOp_admitted act hu hq h]
    refine ⟨fun ho => ?_, fun ho => ?_⟩ <;> rw [← hrun, ho] <;> rfl

end Sys2Proof.Machine
end

section
/-! ## The dictionary: COMMIT -/
namespace Sys2Proof.Machine
open Sys2Proof

/-! ### Starting slots and loading tables leave the dictionary server alone -/

theorem sendSet_sdp (kind dst lead member step : Nat) (parts : List (List Byte)) (s : State) :
    (sendSet kind dst lead member step parts s).sdp = s.sdp := by
  unfold sendSet
  split
  · refine foldl_keeps (fun (p : Nat × List Byte) s => _) State.sdp (fun p s => ?_) _ s
    exact foldl_keeps (fun p s => incE 64 Obj.portTxFrames p s) State.sdp (fun _ _ => rfl) _ _
  · rfl

theorem sendBeats_sdp (p : Nat → Bool) (j y : Nat) (up : Bool) (s : State) : (sendBeats p j y up s).sdp = s.sdp := by
  have hmembers (own : List Nat) (remap : Nat) (l : List (Nat × Nat)) : (l.foldl (fun s m =>
      if p m.1 then sendSet 1 m.1 y m.2 s.openStep [s.heartbeatBody 1 j remap 0 own] s else s) s).sdp = s.sdp := by
    refine foldl_keeps (fun m s => _) State.sdp (fun m s => ?_) l s
    split
    · exact sendSet_sdp ..
    · rfl
  unfold sendBeats
  dsimp only
  split
  · split
    · rw [sendSet_sdp, hmembers]
    · exact hmembers ..
  · rfl

theorem setJobState_sdp (j n : Nat) (s : State) : (setJobState j n s).sdp = s.sdp := by
  rw [setJobState, sendBeats_sdp, wr_eq, wrV_sdp]

theorem loadTables_sdp (g j boundaryUs sl : Nat) (vals : List (Nat × Val)) (s : State) :
    (loadTables g j boundaryUs sl vals s).sdp = s.sdp := by
  unfold loadTables
  split <;> rfl

theorem loadRegions_sdp (j k boundaryUs : Nat) (cut : List Nat) (s : State) : (loadRegions j k boundaryUs cut s).sdp = s.sdp := by
  unfold loadRegions
  split
  · rfl
  · exact foldl_keeps (fun (p : Nat × Nat) s => _) State.sdp (fun p s => loadTables_sdp ..) _ s

theorem loadAllTables_sdp (old : Store) (j boundaryUs sl : Nat) (ws : List Staged) (s : State) :
    (loadAllTables old j boundaryUs sl ws s).sdp = s.sdp :=
  foldl_keeps (fun g s => loadTables g j boundaryUs sl (tableVals old g ws) s) State.sdp (fun _ _ => loadTables_sdp ..) _ s

theorem startSlots_sdp (old : Store) (j boundaryUs : Nat) (ws : List Staged) (s : State) :
    (startSlots old j boundaryUs ws s).sdp = s.sdp := by
  refine foldl_keeps (fun n s => _) State.sdp (fun n s => ?_) (List.range 64) s
  split
  · exact (loadRegions_sdp ..).trans (setJobState_sdp ..)
  · rfl

/-! ### COMMIT -/

/-- What BALE.LAST_ABORT and BALE.LAST_DETAIL of owner `o` hold after abort `a`. -/
def noteAbort (o : Nat) (a : Abort) (s : State) : State := updBale o (fun b => { b with lastAbort := a.1, lastDetail := a.2 }) s
/-- JOB.REJECT_DETAIL takes the reason of a refused start (R182). -/
def noteReject (o : Nat) (a : Abort) (s : State) : State :=
  if a.1 = Ab.jobRejected then
    ((check8All (s.checkOf o) s).find? (fun b => b.2 == a)).elim s (fun b => wr (Obj.jobRejectDetail (b.1 / 256 - 0x3200)) a.2 s)
  else s

section
variable {who : Committer} {s : State}

theorem commitBale_refused {a : Abort} (h : commitCheck who (checkPair 32 Obj.stepPeriod 0 s) = some a) :
    commitBale who s = (a, 0, noteReject who.owner a (noteAbort who.owner a (checkPair 32 Obj.stepPeriod 0 s))) := by
  generalize hv : checkPair 32 Obj.stepPeriod 0 s = v at h
  unfold commitBale
  rw [hv]
  dsimp only
  rw [h]
  unfold noteReject noteAbort
  dsimp only
  by_cases hj : a.1 = Ab.jobRejected
  · rewrite [if_pos hj, if_pos hj]
    generalize List.find? _ _ = r
    cases r <;> rfl
  · rw [if_neg hj, if_neg hj]

theorem commitBale_accepted (h : commitCheck who (checkPair 32 Obj.stepPeriod 0 s) = none) :
    commitBale who s = (noAbort, (acceptBale who.owner (checkPair 32 Obj.stepPeriod 0 s)).1,
      noteAbort who.owner noAbort (acceptBale who.owner (checkPair 32 Obj.stepPeriod 0 s)).2) := by
  simp only [commitBale, h]; rfl

end

theorem bale_updBale_same (o : Nat) (f : Bale → Bale) (s : State) : (updBale o f s).bale o = f (s.bale o) :=
  sget_supd_same ..

theorem noteAbort_staged (o : Nat) (a : Abort) (s : State) : ((noteAbort o a s).bale o).staged = (s.bale o).staged := by
  rw [noteAbort, bale_updBale_same]

/-- A refused start writes JOB.REJECT_DETAIL of one slot, or nothing. -/
theorem noteReject_cases (o : Nat) (a : Abort) (s : State) :
    noteReject o a s = s ∨ ∃ j, noteReject o a s = wr (Obj.jobRejectDetail j) a.2 s := by
  unfold noteReject
  split
  · generalize List.find? _ _ = r
    cases r with
    | none => exact .inl rfl
    | some b => exact .inr ⟨_, rfl⟩
  · exact .inl rfl

theorem noteReject_sdp (o : Nat) (a : Abort) (s : State) : (noteReject o a s).sdp = s.sdp := by
  obtain h | ⟨j, h⟩ := noteReject_cases o a s <;> rw [h]; rfl

theorem noteReject_mem (o : Nat) (a : Abort) (s : State) : (noteReject o a s).mem = s.mem := by
  obtain h | ⟨j, h⟩ := noteReject_cases o a s <;> rw [h]; rfl

theorem noteReject_dget (o : Nat) (a : Abort) (s : State) {addr e : Nat} (he : e < 2 ^ 24)
    (ha : ∀ j, addr ≠ Obj.jobRejectDetail j) : dget (noteReject o a s).dict addr e = dget s.dict addr e := by
  obtain h | ⟨j, h⟩ := noteReject_cases o a s <;> rw [h]
  rw [wr_eq, wrV_dict, dget_dset _ _ (Nat.two_pow_pos 24) he, if_neg (fun h => ha j h.1.symm)]

theorem bale_congr {s t : State} (h : t.sdp = s.sdp) (o : Nat) : t.bale o = s.bale o := by
  rw [State.bale, State.bale, h]

/-- The apply step of the bale of owner `o`, with its boundary in µs (R51). -/
def State.applyOf (s : State) (o : Nat) : Nat × Nat :=
  s.applyStepFor (s.bale o).bytes
    (tableGroups ((s.bale o).addrs.filter (differs s.waitingSet (overlay s.waitingSet (s.bale o).staged))))

/-- `applyStepFor` as a function of which nothing is known but this equation, so that the kernel never reckons with
instants. -/
theorem exists_applyStepFor : ∃ ap, State.applyStepFor = ap := ⟨_, rfl⟩

theorem acceptBale_step (o : Nat) (s : State) : (acceptBale o s).1 = (s.applyOf o).1 := by
  obtain ⟨ap, hap⟩ := exists_applyStepFor
  rw [acceptBale, State.applyOf, hap]

/-- An accepted bale is empty, and its writes wait for its apply step (R50). -/
theorem acceptBale_sdp (o : Nat) (s : State) : (acceptBale o s).2.sdp = { s.sdp with
    bales := supd Bale.reset o (fun b => { b with staged := [], applyStep := (s.applyOf o).1 }) s.sdp.bales,
    waiting := s.sdp.waiting ++ [⟨o, (s.applyOf o).1, (s.applyOf o).2, (s.bale o).staged⟩] } := by
  obtain ⟨ap, hap⟩ := exists_applyStepFor
  rw [acceptBale, State.applyOf, hap]
  dsimp only
  rw [startSlots_sdp, loadAllTables_sdp]
  split <;> rfl

theorem acceptBale_staged (o : Nat) (s : State) : ((acceptBale o s).2.bale o).staged = [] := by
  rw [State.bale, acceptBale_sdp, sget_supd_same]

theorem acceptBale_waiting (o : Nat) (s : State) : ∃ w : WaitingBale, (acceptBale o s).2.sdp.waiting = s.sdp.waiting ++ [w] ∧
    w.owner = o ∧ w.step = (acceptBale o s).1 ∧ w.writes = (s.bale o).staged :=
  ⟨⟨o, (s.applyOf o).1, (s.applyOf o).2, (s.bale o).staged⟩, by rw [acceptBale_sdp], rfl, (acceptBale_step o s).symm, rfl⟩

theorem noteAbort_waiting (o : Nat) (a : Abort) (s : State) : (noteAbort o a s).sdp.waiting = s.sdp.waiting := rfl

theorem checkPair_sdp (w addr e : Nat) (s : State) : (checkPair w addr e s).sdp = s.sdp := by
  unfold checkPair detectIf
  split
  · exact detect_sdp ..
  · rfl

theorem checkPair_mem (w addr e : Nat) (s : State) : (checkPair w addr e s).mem = s.mem := by
  unfold checkPair detectIf
  split
  · exact detect_mem ..
  · rfl

theorem checkPair_ok {w addr e : Nat} {s : State} (h : pairOk w (s.rdE addr e) = true) : checkPair w addr e s = s := by
  rw [checkPair, h, Bool.not_true, detectIf_false]

/-- Settles O56: what a refused and what an accepted COMMIT leave, from the two outcomes of `commitBale`. -/
theorem commitRule : Obligations.CommitRule := by
  intro who s q b
  refine ⟨checkPair_ok, fun a ha => ?_, fun hn => ?_⟩
  · rw [commitBale_refused ha]
    refine ⟨rfl, ?_, ?_, ?_, fun addr e he hj => noteReject_dget _ _ _ he hj⟩
    · dsimp only
      rw [bale_congr (noteReject_sdp ..), noteAbort_staged, bale_congr (checkPair_sdp ..)]
    · dsimp only
      rw [noteReject_sdp, noteAbort_waiting, checkPair_sdp]
    · dsimp only
      rw [noteReject_mem]; exact checkPair_mem ..
  · have hop : (opCommit q b who s).1.step = some (commitBale who s).2.1 := by rw [opCommit, commitBale_accepted hn]; rfl
    obtain ⟨w, hwait, hw⟩ := acceptBale_waiting who.owner (checkPair 32 Obj.stepPeriod 0 s)
    rw [checkPair_sdp] at hwait
    rw [bale_congr (checkPair_sdp ..)] at hw
    rw [hop, commitBale_accepted hn]
    exact ⟨rfl, (noteAbort_staged ..).trans (acceptBale_staged ..), rfl, w, hwait, hw⟩

end Sys2Proof.Machine
end

section
/-! ## Frames: commands that detect nothing -/
namespace Sys2Proof.Machine
open Sys2Proof

/-! ### The frame of commands that detect nothing -/

/-- From `s` to `t` the objects `objs` may have changed, and memory, the poisoned blocks, the steps, the bales and the
sessions, the job slots, the HOLD drivers and the waiting reactions are as they were. -/
structure Framed (objs : List Nat) (s t : State) : Prop where
  dict : ∀ addr e, e < 2 ^ 24 → addr ∉ objs → dget t.dict addr e = dget s.dict addr e
  mem : t.mem = s.mem
  poison : t.poison = s.poison
  steps : t.steps = s.steps
  sdp : t.sdp = s.sdp
  slots : t.slots = s.slots
  hold : t.hold = s.hold
  reacts : t.reacts = s.reacts

/-- What the frame holds fixed, as one value. -/
def framedPart (s : State) := (s.dict, s.mem, s.poison, s.steps, s.sdp, s.slots, s.hold, s.reacts)

namespace Framed
variable {objs : List Nat} {s t u : State}

/-- An update of none of these parts is within every frame. -/
theorem same (h : framedPart t = framedPart s) : Framed objs s t := by
  simp only [framedPart, Prod.mk.injEq] at h
  obtain ⟨hd, hm, hp, hst, hsdp, hsl, hh, hr⟩ := h
  exact ⟨fun addr e _ _ => congrArg (fun d => dget d addr e) hd, hm, hp, hst, hsdp, hsl, hh, hr⟩

theorem refl : Framed objs s s := same rfl

theorem trans (h : Framed objs s t) (h' : Framed objs t u) : Framed objs s u where
  dict addr e he ha := (h'.dict addr e he ha).trans (h.dict addr e he ha)
  mem := h'.mem.trans h.mem
  poison := h'.poison.trans h.poison
  steps := h'.steps.trans h.steps
  sdp := h'.sdp.trans h.sdp
  slots := h'.slots.trans h.slots
  hold := h'.hold.trans h.hold
  reacts := h'.reacts.trans h.reacts

/-- A write of a named object stays within the frame. -/
theorem wrV {a e : Nat} (v : Val) (h : Framed objs s t) (ha : a ∈ objs) (he : e < 2 ^ 24) : Framed objs s (wrV a e v t) :=
  h.trans ⟨fun addr e' he' ho => by
    rw [wrV_dict, dget_dset _ _ he he', if_neg (by rintro ⟨rfl, -⟩; exact ho ha)], rfl, rfl, rfl, rfl, rfl, rfl, rfl⟩

theorem wrE {a e : Nat} (n : Nat) (h : Framed objs s t) (ha : a ∈ objs) (he : e < 2 ^ 24) : Framed objs s (wrE a e n t) :=
  h.wrV (.num n) ha he
theorem wr {a : Nat} (n : Nat) (h : Framed objs s t) (ha : a ∈ objs) : Framed objs s (wr a n t) :=
  h.wrE n ha (Nat.two_pow_pos 24)
theorem incE {a e : Nat} (w : Nat) (h : Framed objs s t) (ha : a ∈ objs) (he : e < 2 ^ 24) : Framed objs s (incE w a e t) :=
  h.wrE _ ha he
theorem inc {a : Nat} (w : Nat) (h : Framed objs s t) (ha : a ∈ objs) : Framed objs s (inc w a t) :=
  h.incE w ha (Nat.two_pow_pos 24)

theorem clearObj {a n : Nat} (h : Framed objs s t) (ha : a ∈ objs) (hn : n ≤ 2 ^ 24) : Framed objs s (clearObj a n t) := by
  refine h.trans ⟨fun addr e he ho => ?_, rfl, rfl, rfl, rfl, rfl, rfl, rfl⟩
  have hkey : (!(decide (dkey a 0 ≤ dkey addr e) && decide (dkey addr e < dkey a n))) = true := by
    have hne : addr ≠ a := by rintro rfl; exact ho ha
    rw [Bool.not_eq_true', Bool.and_eq_false_iff, decide_eq_false_iff_not, decide_eq_false_iff_not]
    unfold dkey; rw [Nat.shiftLeft_eq, Nat.shiftLeft_eq]; omega
  rw [dget, dget, dgetK, dgetK, Machine.clearObj,
    sfind_filter (fun k => !(decide (dkey a 0 ≤ k) && decide (k < dkey a n))), if_pos hkey]

theorem foldl {α : Type} {f : State → α → State} (hf : ∀ t x, Framed objs t (f t x)) (l : List α) :
    ∀ s, Framed objs s (l.foldl f s) := by
  induction l with
  | nil => intro s; exact refl
  | cons x l ih => intro s; exact (hf s x).trans (ih (f s x))

/-- Device time that moves on to an instant stays within the frame. -/
theorem dueAt {n : Nat} (h : s.dueAt n = some t) : Framed objs s t := by
  unfold State.dueAt at h
  split at h
  · cases h; exact refl
  · split at h
    · cases h; exact same rfl
    · cases h

end Framed

section
variable {objs : List Nat} {s : State}

/-- The aborts that the server counts (R69, R70, R74). -/
abbrev countedAborts : List Nat := [Ab.staleSequence, Ab.notAuthorised, Ab.badSignature]

theorem ok_not_counted : Ab.ok ∉ countedAborts := by decide
theorem valueRange_not_counted : Ab.valueRange ∉ countedAborts := by decide
theorem blockRunning_not_counted : Ab.blockRunning ∉ countedAborts := by decide
theorem busy_not_counted : Ab.busy ∉ countedAborts := by decide

/-- An answer of the server that is no refusal for want of authority and none of an old sequence stays within the frame. -/
theorem serverDo_framed {f : State → Abort × State} (hf : Framed objs s (f s).2)
    (ha : (f s).1.1 ∉ countedAborts) : Framed objs s (serverDo f s) := by
  simp only [List.mem_cons, List.not_mem_nil, or_false, not_or] at ha
  obtain ⟨hold, hauth, hsig⟩ := ha
  cases hu : s.serverUp with
  | false => rw [serverDo_down f hu]; exact .refl
  | true =>
    cases hb : s.serverBusy with
    | true => rw [serverDo_busy f hu hb]; exact .same rfl
    | false =>
      rw [serverDo_serving f hu hb, answered_plain _ _ hold hauth hsig]
      exact hf.trans (.same rfl)

theorem abortAt_code (a addr : Nat) : (abortAt a addr).1 = a := by
  unfold abortAt
  split <;> rfl

theorem serverDo_withDetail_framed {addr : Nat} {f : State → Nat × State} (ha : (f s).1 ∉ countedAborts)
    (hf : Framed objs s (f s).2) : Framed objs s (serverDo (fun s => withDetail addr (f s)) s) :=
  serverDo_framed hf (by rw [withDetail, abortAt_code]; exact ha)

/-! #### The commands -/

theorem padWord_framed (g : Nat) : Framed objs s (padWord g s) := by
  unfold padWord popWord
  split
  · exact .refl
  · next h =>
    split at h
    · cases h
    · split at h <;> cases h
      exact .same rfl

theorem holdoffEnd_framed : Framed objs s (holdoffEnd s) := by
  unfold holdoffEnd
  split
  · exact .refl
  · split
    · exact .refl
    · next h => exact (Framed.dueAt h).trans (.same rfl)

theorem throttleEnd_framed (i : Nat) : Framed objs s (throttleEnd i s) := by
  unfold throttleEnd
  split
  · exact .refl
  · split
    · exact .refl
    · split
      · exact .refl
      · next h => exact (Framed.dueAt h).trans (.same rfl)

theorem openWindow_framed (ho : Obj.supplyState ∈ objs) : Framed objs s (openWindow s) := by
  unfold openWindow
  dsimp only
  refine .trans (.trans (.wr supMeasuring .refl ho) ?_) (Framed.foldl ?_ (List.range 32) _)
  · exact .same rfl
  · exact fun _ _ => .same rfl

theorem supplySettled_framed (ho : Obj.supplyState ∈ objs) : Framed objs s (supplySettled s) := by
  unfold supplySettled
  split
  · exact .refl
  · split
    · exact .refl
    · next h => exact (Framed.dueAt h).trans (openWindow_framed ho)

theorem chanStart_not_counted (c : Nat) : (chanStart c s).1 ∉ countedAborts := by
  unfold chanStart
  split
  · exact blockRunning_not_counted
  · exact ok_not_counted

theorem chanStart_framed {c : Nat} (hc : c < 256) (hcur : Obj.chanCurrent ∈ objs) (hdone : Obj.chanDone ∈ objs)
    (hch : Obj.chanChains ∈ objs) (hst : Obj.chanState ∈ objs) : Framed objs s (chanStart c s).2 := by
  have he : c < 2 ^ 24 := by omega
  unfold chanStart
  split
  · exact .refl
  · exact .wrE 1 (.trans (.incE 32 (.wrE 0 (.wrE _ .refl hcur he) hdone he) hch he) (.same rfl)) hst he

theorem chanPause_not_counted (c : Nat) : (chanPause c s).1 ∉ countedAborts := by
  unfold chanPause
  split
  · exact blockRunning_not_counted
  · split
    · exact ok_not_counted
    · split
      · exact ok_not_counted
      · exact valueRange_not_counted

theorem chanPause_framed {c : Nat} (hc : c < 256) (hst : Obj.chanState ∈ objs) : Framed objs s (chanPause c s).2 := by
  have he : c < 2 ^ 24 := by omega
  unfold chanPause
  split
  · exact .refl
  · split
    · exact Framed.refl.wrE _ hst he
    · split
      · exact Framed.refl.wrE _ hst he
      · exact .refl

theorem chanResume_not_counted (c : Nat) : (chanResume c s).1 ∉ countedAborts := by
  unfold chanResume
  split
  · exact blockRunning_not_counted
  · split
    · exact ok_not_counted
    · exact valueRange_not_counted

theorem chanResume_framed {c : Nat} (hc : c < 256) (hst : Obj.chanState ∈ objs) : Framed objs s (chanResume c s).2 := by
  have he : c < 2 ^ 24 := by omega
  unfold chanResume
  split
  · exact .refl
  · split
    · exact Framed.refl.wrE _ hst he
    · exact .refl

theorem scrubWriteback_framed : Framed objs s (scrubWriteback s) := by
  unfold scrubWriteback
  split
  · exact .same rfl
  · exact .refl

theorem usb4LinkUp_framed (rate : Nat) (hst : Obj.hostLinkState ∈ objs) (hr : Obj.hostLinkRate ∈ objs) :
    Framed objs s (usb4LinkUp rate s) := by
  unfold usb4LinkUp
  split
  · exact (Framed.refl.wr 1 hst).wr rate hr
  · exact .refl

theorem pcieTunnelUp_framed (hst : Obj.hostLinkState ∈ objs) (hp : Obj.hostMaxPayload ∈ objs) (hr : Obj.hostReadRequest ∈ objs) :
    Framed objs s (pcieTunnelUp s) := by
  unfold pcieTunnelUp
  split
  · exact ((Framed.refl.wr 2 hst).wr 128 hp).wr 512 hr
  · exact .refl

theorem busMasterEnter_framed (hst : Obj.hostLinkState ∈ objs) (hep : Obj.hostLinkEpoch ∈ objs) :
    Framed objs s (busMasterEnter s) := by
  unfold busMasterEnter
  split
  · exact .inc 32 (.wr 3 (.same rfl) hst) hep
  · exact .refl

theorem timeSecondsLatch_framed : Framed objs s (timeSecondsLatch s) := by
  unfold timeSecondsLatch
  split
  · exact .same rfl
  · exact .refl

theorem statusClear_framed (o : Nat) (hb : Obj.hostBadAccess ∈ objs) (ha : Obj.hostBar2Absent ∈ objs) :
    Framed objs s (statusClear o s) := by
  unfold statusClear
  split
  · exact .refl
  · split
    · exact .wr 0 (.same rfl) hb
    · split
      · exact .wr 0 (.same rfl) ha
      · exact .refl

theorem usbTransfer_framed (op : Nat) (h : RecHdr) {f : State → Nat × List Byte × State} (hf : Framed objs s (f s).2.2) :
    Framed objs s (usbTransfer op h f s) := by
  unfold usbTransfer
  split
  · exact .refl
  · split
    · exact .same rfl
    · exact hf.trans (.same rfl)

theorem qualificationTimeout_framed (hst : Obj.ptpState ∈ objs) : Framed objs s (qualificationTimeout s) := by
  unfold qualificationTimeout
  split
  · split
    · exact .refl
    · next h => exact (Framed.dueAt h).wr ptpMaster hst
  · exact .refl

theorem followUpTimeout_framed : Framed objs s (followUpTimeout s) := by
  unfold followUpTimeout
  split
  · split
    · exact .refl
    · next h => exact (Framed.dueAt h).trans (.same rfl)
  · exact .refl

theorem gsyncPulseEnd_framed : Framed objs s (gsyncPulseEnd s) := by
  unfold gsyncPulseEnd
  split
  · exact .refl
  · split
    · exact .refl
    · next h => exact (Framed.dueAt h).trans (.same rfl)

theorem toutPulse_framed {i : Nat} (he : Obj.toutEdges i ∈ objs) : Framed objs s (toutPulse i s) := by
  unfold toutPulse
  dsimp only
  split
  · exact .refl
  · split
    · exact .refl
    · next h => exact .inc 64 (.trans (.dueAt h) (.same rfl)) he

theorem toutPulseEnd_framed (i : Nat) : Framed objs s (toutPulseEnd i s) := by
  unfold toutPulseEnd
  split
  · split
    · exact .refl
    · next h => exact (Framed.dueAt h).trans (.same rfl)
  · exact .refl

theorem tcapEdge_framed {i : Nat} (rising : Bool) (ns : Nat) (hi : i < 2) (ht : Obj.tcapTime ∈ objs)
    (hc : Obj.tcapCaptures ∈ objs) : Framed objs s (tcapEdge i rising ns s) := by
  unfold tcapEdge
  dsimp only
  split
  · exact .refl
  · by_cases hsel : bit (field (s.rd Obj.tcapEdge) (2 * i + 1) (2 * i)) (if rising then 0 else 1) = true
    · rw [if_pos hsel]
      exact .incE 64 (.wrE _ (.same rfl) ht (by omega)) hc (by omega)
    · rw [if_neg hsel]
      exact .same rfl

theorem portLinkUp_framed {p : Nat} (hp : p < 2) (hl : Obj.portLink ∈ objs) : Framed objs s (portLinkUp p s) := by
  unfold portLinkUp
  split
  · exact Framed.refl.wrE 1 hl (by omega)
  · exact .refl

theorem unwantedFrame_framed {p : Nat} (why : Unwanted) (hp : p < 2) (hd : Obj.portRxDropped ∈ objs) :
    Framed objs s (unwantedFrame p why s) := by
  unfold unwantedFrame
  split
  · exact .refl
  · split
    · exact .refl
    · exact Framed.refl.incE 32 hd (by omega)

theorem mergeLists_framed (j n : Nat) : Framed objs s (mergeLists j n s) := by
  unfold mergeLists
  split
  · exact .refl
  · dsimp only
    split
    · exact .refl
    · split
      · exact .refl
      · exact .same rfl

theorem paddockResetDone_framed : Framed objs s (paddockResetDone s) := by
  unfold paddockResetDone
  split
  · exact .same rfl
  · exact .refl

theorem pgoodRise_framed (r : Nat) : Framed objs s (pgoodRise r s) := by
  unfold pgoodRise
  split
  · exact .same rfl
  · exact .refl

theorem muckRequest_not_counted (u : Nat) : (muckRequest u s).1 ∉ countedAborts := by
  unfold muckRequest
  split
  · exact valueRange_not_counted
  · exact ok_not_counted

theorem muckRequest_framed (u : Nat) : Framed objs s (muckRequest u s).2 := by
  unfold muckRequest
  split
  · exact .refl
  · exact .same rfl

theorem rollbackAdvance_not_counted (v : Nat) : (rollbackAdvance v s).1 ∉ countedAborts := by
  unfold rollbackAdvance
  split
  · exact valueRange_not_counted
  · split
    · exact busy_not_counted
    · exact ok_not_counted

theorem rollbackAdvance_framed (v : Nat) (hr : Obj.secRollback ∈ objs) (hk : Obj.secRootRevoked ∈ objs) :
    Framed objs s (rollbackAdvance v s).2 := by
  unfold rollbackAdvance
  split
  · exact .refl
  · split
    · exact .refl
    · exact (Framed.refl.wr _ hr).wr _ hk

theorem faultClearCounts_framed (b : Nat) (hobjs : [Obj.faultCount b, Obj.faultFirstStep b, Obj.faultLastStep b, Obj.faultLastTime b,
    Obj.faultSourceCount b, Obj.faultFirstSource b, Obj.faultLastSource b] ⊆ objs) : Framed objs s (faultClearCounts b s) := by
  unfold faultClearCounts
  split
  · exact .refl
  · simp only [List.cons_subset] at hobjs
    obtain ⟨hn, hfs, hls, hlt, hsc, hf, hl, -⟩ := hobjs
    exact ((((((Framed.refl.wr 0 hn).wr 0 hfs).wr 0 hls).wr 0 hlt).clearObj hsc (by decide)).wr _ hf).wr _ hl

end

/-! #### The wrappers -/

section
variable {objs : List Nat} {s t : State} {f : State → State}

theorem run_framed (hq : s.quiet) (hf : Framed objs s (f s)) (h : run f s = .next t) : Framed objs s t := by
  cases hp : s.boot.powerReset with
  | true => rw [run_unpowered f hp] at h; cases h; exact .refl
  | false =>
    rw [run_powered f hp, after_quiet (hf.reacts.trans hq)] at h; cases h
    exact hf.trans (.same rfl)

theorem runIf_framed {c : Prop} [Decidable c] (hq : s.quiet) (hf : c → Framed objs s (f s))
    (h : runIf (decide c) f s = .next t) : Framed objs s t := by
  by_cases hc : c
  · rw [decide_eq_true hc] at h; exact run_framed hq (hf hc) h
  · rw [decide_eq_false hc, runIf_false] at h; cases h; exact .refl

theorem pgood_framed {r : Nat} (hq : s.quiet) (h : execPgoodRise r s = .next t) : Framed objs s t := by
  unfold execPgoodRise at h
  split at h
  · split at h
    · cases h; exact .same rfl
    · exact run_framed hq (pgoodRise_framed r) h
  · cases h; exact .refl

end

/-- A command with a frame keeps to it in a quiet device. -/
theorem exec_framed {c : Instr} {objs : List Nat} {s t : State} (hm : mayChange c = some objs) (hq : s.quiet)
    (h : exec c s = .next t) : Framed objs s t := by
  cases c
  case pad g => exact runIf_framed hq (fun _ => padWord_framed g) h
  case holdoffEnd => exact run_framed hq holdoffEnd_framed h
  case throttleEnd i => exact runIf_framed hq (fun _ => throttleEnd_framed i) h
  case troughResetDone => exact run_framed (f := troughResetDone) hq (.same rfl) h
  case scrubWriteback => exact run_framed hq scrubWriteback_framed h
  case timeSecondsLatch => exact run_framed hq timeSecondsLatch_framed h
  case recoveryIdentify hd => exact run_framed hq (usbTransfer_framed 1 hd .refl) h
  case recoveryStatus hd => exact run_framed hq (usbTransfer_framed 4 hd .refl) h
  case followUpTimeout => exact run_framed hq followUpTimeout_framed h
  case gsyncPulseEnd => exact run_framed hq gsyncPulseEnd_framed h
  case toutPulseEnd i => exact runIf_framed hq (fun _ => toutPulseEnd_framed i) h
  case detectListMerge j n => exact runIf_framed hq (fun _ => mergeLists_framed j n) h
  case paddockResetDone => exact run_framed hq paddockResetDone_framed h
  case pgoodRise r => exact pgood_framed hq h
  case pclkTrim => exact run_framed (f := pclkTrim) hq (.same rfl) h
  case muckRequest u => exact run_framed hq (serverDo_withDetail_framed (muckRequest_not_counted u) (muckRequest_framed u)) h
  case supplySettled =>
    obtain rfl := Option.some.inj hm
    exact run_framed hq (supplySettled_framed (by simp)) h
  case chanStart c =>
    obtain rfl := Option.some.inj hm
    exact runIf_framed hq (fun hc => serverDo_withDetail_framed (chanStart_not_counted c)
      (chanStart_framed hc (by simp) (by simp) (by simp) (by simp))) h
  case chanPause c =>
    obtain rfl := Option.some.inj hm
    exact runIf_framed hq (fun hc => serverDo_withDetail_framed (chanPause_not_counted c) (chanPause_framed hc (by simp))) h
  case chanResume c =>
    obtain rfl := Option.some.inj hm
    exact runIf_framed hq (fun hc => serverDo_withDetail_framed (chanResume_not_counted c) (chanResume_framed hc (by simp))) h
  case usb4LinkUp rate =>
    obtain rfl := Option.some.inj hm
    exact run_framed hq (usb4LinkUp_framed rate (by simp) (by simp)) h
  case pcieTunnelUp =>
    obtain rfl := Option.some.inj hm
    exact run_framed hq (pcieTunnelUp_framed (by simp) (by simp) (by simp)) h
  case busMasterEnter =>
    obtain rfl := Option.some.inj hm
    exact run_framed hq (busMasterEnter_framed (by simp) (by simp)) h
  case statusClearOnRead o =>
    obtain rfl := Option.some.inj hm
    exact run_framed hq (statusClear_framed o (by simp) (by simp)) h
  case qualificationTimeout =>
    obtain rfl := Option.some.inj hm
    exact run_framed hq (qualificationTimeout_framed (by simp)) h
  case toutPulse i =>
    obtain rfl := Option.some.inj hm
    exact runIf_framed hq (fun _ => toutPulse_framed (by simp)) h
  case tcapEdge i rising ns =>
    obtain rfl := Option.some.inj hm
    exact runIf_framed hq (fun hi => tcapEdge_framed rising ns hi (by simp) (by simp)) h
  case portLinkUp p =>
    obtain rfl := Option.some.inj hm
    exact runIf_framed hq (fun hp => portLinkUp_framed hp (by simp)) h
  case unwantedFrame p why =>
    obtain rfl := Option.some.inj hm
    exact runIf_framed hq (fun hp => unwantedFrame_framed why hp (by simp)) h
  case rollbackAdvance v =>
    obtain rfl := Option.some.inj hm
    exact run_framed hq (serverDo_withDetail_framed (rollbackAdvance_not_counted v)
      (rollbackAdvance_framed v (by simp) (by simp))) h
  case faultClearCounts b =>
    obtain rfl := Option.some.inj hm
    exact run_framed hq (serverDo_framed (faultClearCounts_framed b (List.Subset.refl _)) ok_not_counted) h
  all_goals cases hm

/-- Settles O60: the frame of each command, with the parts named. -/
theorem objectsFrame : Obligations.ObjectsFrame := by
  intro c objs s t hm hq h
  have hf := exec_framed hm hq h
  exact ⟨hf.dict, fun a => by rw [State.byteAt, State.byteAt, hf.mem], hf.poison, hf.steps, hf.sdp, hf.slots, hf.hold⟩

end Sys2Proof.Machine
end

section
/-! ## Chip reset: what it keeps -/
namespace Sys2Proof.Machine
open Sys2Proof

theorem setPins_dict (s : State) (p l : Bool) (t : State) : (setPins s p l t).dict = t.dict := rfl

/-- A device after reset in which sticky bit 0 of fault block 0 is set. -/
def detected : State := wr (Obj.faultSticky 0) 1 State.reset

theorem detected_reset : exec (.resetNAssert 1000) detected = .next (setPins detected false true (heldReset detected)) := rfl

theorem detected_flags_before : dget detected.dict (Obj.faultFlags 0) 0 = .num 0 := by decide
theorem detected_flags_after : dget (heldReset detected).dict (Obj.faultFlags 0) 0 = .num 2 := by decide +kernel

/-- Refutes O59 in its last clause: FAULT.FLAGS is among the kept objects (R43), and the reset of `detected` sets its bit 1
(R482). -/
theorem not_chipResetDefaults : ¬ Obligations.ChipResetDefaults := by
  intro h
  obtain ⟨t, ht, _, _, _, _, _, hkept⟩ := h detected 1000 rfl rfl (Nat.le_refl 1000)
  rw [detected_reset] at ht
  obtain rfl := Host.Outcome.next.inj ht
  have hflags := hkept (Obj.faultFlags 0) 0 (by decide) (by decide)
  rw [setPins_dict, detected_flags_before, detected_flags_after] at hflags
  cases hflags

end Sys2Proof.Machine
end

section
/-! ## Gates: what a detection and a loss of hitching leave of the objects -/
namespace Sys2Proof.Machine
open Sys2Proof

/-! ### Detections of a gate -/

/-- The objects of block b that record a detection (R471). -/
def faultRecord (b : Nat) : List Nat :=
  [Obj.faultFirstSource b, Obj.faultFirstStep b, Obj.faultSticky b, Obj.faultCount b, Obj.faultSourceCount b,
    Obj.faultLastSource b, Obj.faultLastStep b, Obj.faultLastTime b]

theorem not_mem_faultRecord {b addr : Nat} (h : addr < 0x700000) : addr ∉ faultRecord b := by
  have hrec : ∀ a ∈ faultRecord b, 0x700000 ≤ a := by simp [faultRecord, Nat.le_add_right_of_le]
  exact fun hm => absurd (hrec addr hm) (Nat.not_le.mpr h)

theorem recordDetection_framed {b i : Nat} (s : State) (hi : i < 2 ^ 24) :
    Framed (faultRecord b) s (recordDetection b i s) := by
  have hfirst : Framed (faultRecord b) s (if s.rd (Obj.faultSticky b) = 0 then
      s |> wr (Obj.faultFirstSource b) i |> wr (Obj.faultFirstStep b) s.openStep else s) := by
    split
    · exact (Framed.refl.wr _ (by simp [faultRecord])).wr _ (by simp [faultRecord])
    · exact .refl
  exact (((((hfirst.wr _ (by simp [faultRecord])).inc 32 (by simp [faultRecord])).wrE _ (by simp [faultRecord]) hi).wr _
    (by simp [faultRecord])).wr _ (by simp [faultRecord])).wr _ (by simp [faultRecord])

theorem Framed.rdE {objs : List Nat} {s t : State} (h : Framed objs s t) {addr e : Nat} (he : e < 2 ^ 24) (ha : addr ∉ objs) :
    t.rdE addr e = s.rdE addr e := congrArg Val.toNat (h.dict addr e he ha)

/-- No source of a gate forces the HOLD pairs (R327, R424). -/
theorem forcesHold_gate {g : Nat} (hg : g < 36) (i : Nat) : forcesHold (gateBlock g) i = false := by
  have hne (b : Nat) (hb : 36 ≤ b) : (g == b) = false := beq_eq_false_iff_ne.mpr (by omega)
  simp only [forcesHold, hne padBlock (by decide), hne dictBlock (by decide), hne timeBlock (by decide),
    Bool.false_and, Bool.or_false]

section
variable {g addr e : Nat} (hg : g < 36) (he : e < 2 ^ 24) (ha : addr < 0x700000)
include hg he ha

theorem detect_gate_rdE {i : Nat} (s : State) (hi : i < 2 ^ 24) : (detect (gateBlock g) i s).rdE addr e = s.rdE addr e := by
  have hrec := (recordDetection_framed (b := gateBlock g) s hi).rdE he (not_mem_faultRecord ha)
  simp only [detect, forcesHold_gate hg, Bool.false_eq_true, if_false]
  split
  · split
    · exact hrec
    · split <;> exact hrec
  · rfl

theorem checkCoverage_rdE (s : State) : (checkCoverage g s).rdE addr e = s.rdE addr e := by
  unfold checkCoverage
  split
  · exact detect_gate_rdE hg he ha s (by decide)
  · rfl

end

/-! ### Loss of hitching -/

theorem gate_congr {s t : State} (h : t.gates = s.gates) (g : Nat) : t.gate g = s.gate g := by rw [State.gate, State.gate, h]

@[simp] theorem dropMarkers_dict (g : Nat) (s : State) : (dropMarkers g s).dict = s.dict := by
  unfold dropMarkers; split <;> rfl
@[simp] theorem dropMarkers_gates (g : Nat) (s : State) : (dropMarkers g s).gates = s.gates := by
  unfold dropMarkers; split <;> rfl
@[simp] theorem loseCover_dict (g : Nat) (s : State) : (loseCover g s).dict = s.dict := rfl
@[simp] theorem loseCover_gates (g : Nat) (s : State) : (loseCover g s).gates = s.gates := rfl
@[simp] theorem checkCoverage_gates (g : Nat) (s : State) : (checkCoverage g s).gates = s.gates := by
  unfold checkCoverage
  split
  · exact detect_gates ..
  · rfl

theorem rdE_congr {s t : State} (h : t.dict = s.dict) (addr e : Nat) : t.rdE addr e = s.rdE addr e := by
  rw [State.rdE, State.rdE, h]

section
variable {g : Nat} (hg : g < 36)
include hg

theorem gateState_addr_lt : Obj.gateState g < 0x700000 := by show 0x21000D + g * 0x100 < _; omega
theorem gateWordCounts_addr_lt : Obj.gateWordCounts g < 0x700000 := by show 0x210015 + g * 0x100 < _; omega

omit hg in
theorem gateWordCounts_ne_gateState (g' : Nat) : Obj.gateWordCounts g ≠ Obj.gateState g' := by
  show 0x210015 + g * 0x100 ≠ 0x21000D + g' * 0x100; omega

/-- Unhitching leaves the word counts of its gate but for the count of unhitchings (R95). -/
theorem unhitch_wordCounts {e : Nat} (jump : Bool) (s : State) (he : e < 2 ^ 24) (hne : e ≠ 11) :
    (unhitch g jump s).rdE (Obj.gateWordCounts g) e = s.rdE (Obj.gateWordCounts g) e := by
  have ha := gateWordCounts_addr_lt hg
  unfold unhitch
  dsimp only
  split
  · rw [checkCoverage_rdE hg he ha, detect_gate_rdE hg he ha _ (by decide), incE, addE, rdE_wrE _ _ (by decide) he,
      if_neg (fun h => hne h.2.symm), rdE_congr (loseCover_dict ..), wr, rdE_wrE _ _ (by decide) he,
      if_neg (fun h => gateWordCounts_ne_gateState g h.1.symm), rdE_congr (dropMarkers_dict ..)]
    rfl
  · rfl

theorem unhitch_gateState_ne (jump : Bool) (s : State) : (unhitch g jump s).gateState g ≠ 3 := by
  have ha := gateState_addr_lt hg
  have h0 : 0 < 2 ^ 24 := by decide
  unfold unhitch
  dsimp only
  split
  · show State.rdE _ (Obj.gateState g) 0 ≠ 3
    rw [checkCoverage_rdE hg h0 ha, detect_gate_rdE hg h0 ha _ (by decide), incE, addE, rdE_wrE _ _ (by decide) h0,
      if_neg (fun h => gateWordCounts_ne_gateState g h.1), rdE_congr (loseCover_dict ..), wr, rdE_wrE_same]
    decide
  · assumption

omit hg in
theorem unhitch_th (g : Nat) (jump : Bool) (s : State) : ((unhitch g jump s).gate g).th = (s.gate g).th := by
  unfold unhitch
  dsimp only
  split
  · rw [gate_congr (checkCoverage_gates ..), gate_congr (detect_gates ..)]
    show (State.gate (dropMarkers g _) g).th = _
    rw [gate_congr (dropMarkers_gates ..), updGate_same, updGate_same]
  · rw [updGate_same]

/-! ### Time discontinuities -/

theorem timeJump_count (s : State) :
    (timeJump g s).rdE (Obj.gateWordCounts g) 10 = (s.rdE (Obj.gateWordCounts g) 10 + 1) % 2 ^ 32 := by
  rw [timeJump, unhitch_wordCounts hg true _ (by decide) (by decide),
    detect_gate_rdE hg (by decide) (gateWordCounts_addr_lt hg) _ (by decide), incE, addE, rdE_wrE_same,
    rdE_congr (dropMarkers_dict ..)]

theorem timeJump_gateState_ne (s : State) : (timeJump g s).gateState g ≠ 3 := unhitch_gateState_ne hg true _

omit hg in
theorem timeJump_th (g : Nat) (s : State) : ((timeJump g s).gate g).th = (s.gate g).th := by
  rw [timeJump, unhitch_th, gate_congr (detect_gates ..)]
  show (State.gate (dropMarkers g s) g).th = _
  rw [gate_congr (dropMarkers_gates ..)]

end

end Sys2Proof.Machine
end

section
/-! ## Gates: words of the FIFO -/
namespace Sys2Proof.Machine
open Sys2Proof

/-! ### Words that are taken -/

section
variable {g : Nat} {s : State} {w : FifoWord} {rest : List FifoWord}

theorem popWord_front {types : List Nat} (hf : (s.gate g).fifo = w :: rest) (ht : tepType w.word ∈ types) :
    popWord g types s = some (w, wordTaken g w rest s) := by
  rw [popWord, hf]
  exact if_pos (List.contains_iff_mem.mpr ht)

theorem timeHighWord_front (hf : (s.gate g).fifo = w :: rest) (ht : tepType w.word = 8) :
    timeHighWord g s = (let v := takeSpan g (field w.word.toNat 27 0) (wordTaken g w rest s)
      (rebaseWord g ((v.gate g).th * 64) v).2) := by
  rw [timeHighWord, popWord_front hf (by rw [ht]; decide)]

theorem markerWord_front (hf : (s.gate g).fifo = w :: rest) (ht : tepType w.word = 0xA) :
    markerWord g s = (let u := wordTaken g w rest s
      if (u.gate g).span then timedMarker g (field w.word.toNat 7 0) ((u.gate g).sensorTime w.word) u
      else countWord g 12 1 u) := by
  rw [markerWord, popWord_front hf (by rw [ht]; decide)]

theorem reservedWord_front (hf : (s.gate g).fifo = w :: rest) (ht : tepType w.word ∈ [4, 5, 6, 7, 9, 0xB, 0xC, 0xD]) :
    reservedWord g s = countWord g 7 1 (wordTaken g w rest s) := by
  rw [reservedWord, popWord_front hf ht]

theorem padWord_front (hf : (s.gate g).fifo = w :: rest) (ht : tepType w.word = 0xE) : padWord g s = wordTaken g w rest s := by
  rw [padWord, popWord_front hf (by rw [ht]; decide)]

end

/-! ### STATUS words and the power of the groom -/

theorem sfind_dset {a a' e e' : Nat} (d : Store) (v : Val) (h : dkey a e ≠ dkey a' e') :
    sfind (dset d a e v) (dkey a' e') = sfind d (dkey a' e') := by
  unfold dset dsetK
  split
  · rw [sfind_serase, if_neg h]
  · rw [sfind_sput, if_neg h]

/-- Counting the words of a gate moves no domain. -/
theorem countWord_isOn {g e : Nat} (n d : Nat) (s : State) (he : e < 2 ^ 24) :
    (countWord g e n s).isOn d = s.isOn d := by
  have hkey : dkey (Obj.gateWordCounts g) e ≠ dkey (Obj.domainState d) 0 := by
    rw [Ne, dkey_inj he (by decide)]
    rintro ⟨h, -⟩
    change 0x210015 + g * 0x100 = 0x604005 + d * 0x100 at h
    omega
  rw [State.isOn, State.isOn, State.domState, State.domState, State.rdZ, State.rdZ, countWord, addE_eq, wrV_dict,
    sfind_dset _ _ hkey]

theorem statusWordIn_front {g : Nat} {s : State} {w : FifoWord} {rest : List FifoWord}
    (hf : (s.gate g).fifo = w :: rest) (ht : tepType w.word = 0xF) :
    statusWordIn g s = (let u := countWord g 13 1 (wordTaken g w rest s)
      if s.isOn 10 then wrE Obj.groomSensorStatus g w.word.toNat u else u) := by
  have hon : (countWord g 13 1 (wordTaken g w rest s)).isOn 10 = s.isOn 10 := countWord_isOn 1 10 _ (by decide)
  rw [statusWordIn, popWord_front hf (by rw [ht]; decide)]
  dsimp only
  rw [hon]

/-! ### TIME_HIGH and the span count -/

/-- The signed difference is within 28 bits (R85). -/
theorem spanDelta_range (v : Nat) (th : Int) : -(2 ^ 27) ≤ spanDelta v th ∧ spanDelta v th < 2 ^ 27 := by
  rw [spanDelta, toSigned]
  split <;> omega

/-- The span count follows the word modulo 2²⁸ (R85). -/
theorem spanDelta_congr (v : Nat) (th : Int) : (th + spanDelta v th - (v : Int)) % 2 ^ 28 = 0 := by
  rw [spanDelta, toSigned, ofSigned]
  split <;> omega

section
variable {g v : Nat} {s : State}

theorem takeSpan_first (h : (s.gate g).thSet = false) :
    takeSpan g v s = updGate g (fun gt => { gt with th := (v : Int), thSet := true, span := true }) s := by
  simp only [takeSpan, h, Bool.not_false, if_true]

theorem takeSpan_jump (h : (s.gate g).thSet = true) (hj : s.rd (Obj.gateJumpLimit g) < (spanDelta v (s.gate g).th).natAbs) :
    takeSpan g v s = timeJump g (updGate g (fun gt => { gt with th := (v : Int), span := true }) s) := by
  simp only [takeSpan, h, Bool.not_true, Bool.false_eq_true, if_false, gt_iff_lt, hj, if_true]

theorem takeSpan_near (h : (s.gate g).thSet = true) (hj : (spanDelta v (s.gate g).th).natAbs ≤ s.rd (Obj.gateJumpLimit g)) :
    takeSpan g v s = (let t := updGate g (fun gt => { gt with th := gt.th + spanDelta v (s.gate g).th, span := true }) s
      if spanDelta v (s.gate g).th < 0 then countWord g 9 1 t else t) := by
  simp only [takeSpan, h, Bool.not_true, Bool.false_eq_true, if_false, gt_iff_lt, Nat.not_lt.mpr hj]

theorem takeSpan_near_th (h : (s.gate g).thSet = true)
    (hj : (spanDelta v (s.gate g).th).natAbs ≤ s.rd (Obj.gateJumpLimit g)) :
    ((takeSpan g v s).gate g).th = (s.gate g).th + spanDelta v (s.gate g).th := by
  rw [takeSpan_near h hj]
  have hth : ((updGate g (fun gt => { gt with th := gt.th + spanDelta v (s.gate g).th, span := true }) s).gate g).th
      = (s.gate g).th + spanDelta v (s.gate g).th := congrArg Gate.th (updGate_same ..)
  dsimp only
  split <;> exact hth

end

/-! ### A device that no reset pin holds -/

/-- What has the queue and the boot state of `s`, where no reset pin holds the device, `outside` leaves as it is. -/
theorem outside_same {s t : State} (hq : t.pending = s.pending) (hb : t.boot = s.boot) (hp : s.powered)
    (hl : s.boot.resetNLow = false) : outside s t = t := by
  have hphase : (if s.boot.powerReset || s.boot.resetNLow then .held else t.boot.phase) = t.boot.phase := by rw [hp, hl]; rfl
  rw [outside, setPins, hphase, ← hq, ← hb]

/-! ### The obligations -/

/-- Settles O13: a quiet device keeps its pins, so that the taken word is all that is left of the command. -/
theorem padIsIgnored : Obligations.PadIsIgnored := by
  intro g s w rest hg hp hq hl hf ht
  have hquiet : (wordTaken g w rest s).quiet := hq
  have hpins : outside s (wordTaken g w rest s) = wordTaken g w rest s := outside_same rfl rfl hp hl
  have h := runGate_powered (padWord g) hg hp
  rwa [padWord_front hf ht, after_quiet hquiet, hpins] at h

/-- Settles O12, one type of word after the other. -/
theorem otherWordsComplete : Obligations.OtherWordsComplete := by
  intro g s w rest hg hp hf
  refine ⟨fun ht => ?_, fun ht hs => ?_, fun ht hs => ?_, fun ht ho => ?_, fun ht ho => ?_, fun ht => ?_⟩
  · have h := runGate_powered (timeHighWord g) hg hp
    rw [timeHighWord_front hf ht] at h; exact h
  · have h := runGate_powered (markerWord g) hg hp
    rw [markerWord_front hf ht] at h; dsimp only at h; rw [if_pos hs] at h; exact h
  · have h := runGate_powered (markerWord g) hg hp
    rw [markerWord_front hf ht] at h; dsimp only at h; rw [hs, if_neg Bool.false_ne_true] at h; exact h
  · have h := runGate_powered (statusWordIn g) hg hp
    rw [statusWordIn_front hf ht] at h; dsimp only at h; rw [if_pos ho] at h; exact h
  · have h := runGate_powered (statusWordIn g) hg hp
    rw [statusWordIn_front hf ht] at h; dsimp only at h; rw [ho, if_neg Bool.false_ne_true] at h; exact h
  · have h := runGate_powered (reservedWord g) hg hp
    rw [reservedWord_front hf ht] at h; exact h

/-- Settles O52: the three outcomes of `takeSpan` with the arithmetic of the signed difference. -/
theorem timeHighMovesSpan : Obligations.TimeHighMovesSpan := by
  refine ⟨fun _ _ => rfl, fun g v s hg hv hs => ?_, fun g s w rest hg hp hf => (otherWordsComplete g s w rest hg hp hf).1,
    fun g v s hg hv hs => ⟨⟨(spanDelta_range ..).1, (spanDelta_range ..).2, spanDelta_congr ..⟩, fun hj => ?_, fun hj => ?_⟩⟩
  · rw [takeSpan_first hs]
    dsimp only
    rw [updGate_same]
    exact ⟨rfl, rfl, rfl, rfl⟩
  · refine ⟨takeSpan_near_th hs hj, fun hneg => ?_, fun hpos => ?_⟩
    · rw [takeSpan_near hs hj]
      dsimp only
      rw [if_pos hneg]
      exact rdE_wrE_same ..
    · rw [takeSpan_near hs hj]
      dsimp only
      rw [if_neg (Int.not_lt.mpr hpos)]
      rfl
  · rw [takeSpan_jump hs hj, timeJump_th, updGate_same, timeJump_count hg]
    exact ⟨rfl, rfl, timeJump_gateState_ne hg _⟩

end Sys2Proof.Machine
end

section
/-! ## Gates: packets -/
namespace Sys2Proof.Machine
open Sys2Proof

/-! ### The header -/

section
variable {g : Nat} {p : Packet} {s : State} (hg : g < 36) (hgang : ¬(g % 2 = 1 ∧ s.ganged g = true))
include hg hgang

theorem csi2Packet_goodHeader (hh : p.header ≠ .uncorrectable) (hst : s.gateState (s.packetGate g p) ≠ 0) :
    csi2Packet g p s = takePacket (s.packetGate g p) p s := by
  rw [csi2Packet, if_neg (fun h => h.elim (Nat.not_le.mpr hg) hgang), if_neg hh]
  exact if_neg hst

theorem csi2Packet_uncorrectable (hh : p.header = .uncorrectable) (hst : s.gateState g ≠ 0) :
    csi2Packet g p s = (s |> countWord g 2 1 |> detect (gateBlock g) Src.gateHeaderEcc |> loseSpan g) := by
  rw [csi2Packet, if_neg (fun h => h.elim (Nat.not_le.mpr hg) hgang), if_pos hh, if_neg hst]

end

/-! ### A packet that passes every check -/

/-- Gate g has received words: silence ends, and the bytes that fill no word are counted (R7, R19, R98). -/
def receiveWords (g : Nat) (p : Packet) (s : State) : State :=
  updGate g (fun gt => { gt with packetSince := true })
    (if (payloadWords p.payload).isEmpty then countWord g 6 (p.payload.length % 4) s
     else wordArrives g (countWord g 6 (p.payload.length % 4) s))

/-- The words of one packet as they stand in the FIFO: the last is marked (R87), and the first where the stream has broken
before it (R88). -/
def queuedWords (brk : Bool) (ws : List Word) : List FifoWord :=
  ((List.range ws.length).zip ws).map (fun p => ⟨p.2, p.1 + 1 == ws.length, p.1 == 0 && brk⟩)

theorem queuedWords_words (brk : Bool) (ws : List Word) : (queuedWords brk ws).map (·.word) = ws := by
  rw [queuedWords, List.map_map]
  exact List.map_snd_zip (Nat.le_of_eq List.length_range.symm)

/-- The words `ws` stand in the FIFO of gate g behind those that wait. -/
def queueWords (g : Nat) (ws : List Word) (s : State) : State :=
  updGate g (fun gt => { gt with
    fifo := gt.fifo ++ queuedWords (s.gate g).brk ws, brk := gt.brk && ws.length == 0 }) s

theorem queueWords_fifo (g : Nat) (ws : List Word) (s : State) :
    ((queueWords g ws s).gate g).fifo.map (·.word) = (s.gate g).fifo.map (·.word) ++ ws := by
  rw [queueWords, updGate_same, List.map_append, queuedWords_words]

theorem queueWords_gate_ne {g h : Nat} (ws : List Word) (s : State) (hne : g ≠ h) : (queueWords g ws s).gate h = s.gate h :=
  updGate_ne _ _ hne

theorem queueWords_mem (g : Nat) (ws : List Word) (s : State) : (queueWords g ws s).mem = s.mem := rfl
theorem queueWords_reacts (g : Nat) (ws : List Word) (s : State) : (queueWords g ws s).reacts = s.reacts := rfl

section
variable {g : Nat} {s : State}

/-- Words for which the FIFO has room are all kept (R90). -/
theorem pushWords_room {ws : List Word} (h : (s.gate g).fifo.length + ws.length ≤ 1024) :
    pushWords g ws s = queueWords g ws s := by
  have hall : ws.take (1024 - (s.gate g).fifo.length) = ws := List.take_of_length_le (by omega)
  simp only [pushWords, hall, Nat.lt_irrefl, if_false]
  rfl

theorem gateState_wrE {a e : Nat} (n : Nat) (he : e < 2 ^ 24) (ha : a ≠ Obj.gateState g) :
    (wrE a e n s).gateState g = s.gateState g :=
  (rdE_wrE s n he (Nat.two_pow_pos 24)).trans (if_neg (fun h => ha h.1))

theorem countWord_gateState {e : Nat} (g' n : Nat) (he : e < 2 ^ 24) : (countWord g' e n s).gateState g = s.gateState g :=
  gateState_wrE _ he (gateWordCounts_ne_gateState g)

theorem putBit_gateState {a : Nat} (i : Nat) (b : Bool) (ha : a ≠ Obj.gateState g) :
    (putBit a i b s).gateState g = s.gateState g :=
  gateState_wrE _ (Nat.two_pow_pos 24) ha

theorem stepSilentGates_ne_gateState (hg : g < 36) : Obj.stepSilentGates ≠ Obj.gateState g := by
  show 0x501009 ≠ 0x21000D + g * 0x100; omega

end

section
variable {g : Nat} (p : Packet) (s : State)

theorem updGate_gateState (f : Gate → Gate) : (updGate g f s).gateState g = s.gateState g := rfl

theorem wordArrives_gateState (hg : g < 36) : (wordArrives g s).gateState g = s.gateState g :=
  putBit_gateState g false (stepSilentGates_ne_gateState hg)

theorem receiveWords_gateState (hg : g < 36) : (receiveWords g p s).gateState g = s.gateState g := by
  have hcount := countWord_gateState (g := g) (s := s) g (p.payload.length % 4) (show 6 < 2 ^ 24 by decide)
  rw [receiveWords, updGate_gateState]
  split
  · exact hcount
  · rw [wordArrives_gateState _ hg, hcount]

theorem wordArrives_gate (g : Nat) : (wordArrives g s).gate g = { s.gate g with lastWordAt := s.now } :=
  updGate_same g (fun gt => { gt with lastWordAt := s.now }) s

theorem wordArrives_fifo (g : Nat) : ((wordArrives g s).gate g).fifo = (s.gate g).fifo := by rw [wordArrives_gate]

theorem wordArrives_gate_ne {h : Nat} (hne : g ≠ h) : (wordArrives g s).gate h = s.gate h :=
  updGate_ne (fun gt => { gt with lastWordAt := s.now }) s hne

theorem receiveWords_fifo (g : Nat) : ((receiveWords g p s).gate g).fifo = (s.gate g).fifo := by
  rw [receiveWords, updGate_same]
  dsimp only
  split
  · rfl
  · exact wordArrives_fifo ..

theorem receiveWords_gate_ne {h : Nat} (hne : g ≠ h) : (receiveWords g p s).gate h = s.gate h := by
  rw [receiveWords, updGate_ne _ _ hne]
  split
  · rfl
  · exact wordArrives_gate_ne _ hne

theorem receiveWords_mem (g : Nat) : (receiveWords g p s).mem = s.mem := by unfold receiveWords; split <;> rfl
theorem receiveWords_reacts (g : Nat) : (receiveWords g p s).reacts = s.reacts := by unfold receiveWords; split <;> rfl

end

/-- A packet with payload for pipeline g that passes every check of R80 reaches the FIFO of a gate that has left LINK_WAIT. -/
theorem takePacket_good {g : Nat} {p : Packet} {s : State} (hg : g < 36) (hh : p.header = .ok) (hst : 2 ≤ s.gateState g)
    (hext : p.extVc = 0) (hvc : p.vc ≤ 3) (hbit : s.vcBit g p.vc = true) (hs : p.short = false) (hcrc : p.crcOk = true)
    (hlo : 0x30 ≤ p.dataType) (hhi : p.dataType ≤ 0x37) :
    takePacket g p s = pushWords g (payloadWords p.payload) (receiveWords g p s) := by
  have hcorr : ¬p.header = .corrected := by rw [hh]; nofun
  have hchan : ¬(p.extVc ≠ 0 ∨ p.vc > 3 ∨ (!s.vcBit g p.vc) = true) := by
    rintro (h | h | h)
    · exact h hext
    · omega
    · rw [hbit] at h; cases h
  have htype : ¬(p.dataType < 0x30 ∨ 0x37 < p.dataType) := by omega
  have hrun : (receiveWords g p s).gateState g ≠ 1 := by rw [receiveWords_gateState p s hg]; omega
  rw [takePacket, if_neg hcorr]
  dsimp only
  rw [if_neg hchan, hs, if_neg Bool.false_ne_true, hcrc, if_neg (by decide), if_neg htype]
  unfold receiveWords at hrun ⊢
  rw [if_neg hrun]

theorem outside_gate (s t : State) (g : Nat) : (outside s t).gate g = t.gate g := rfl
theorem outside_byteAt (s t : State) (a : Nat) : (outside s t).byteAt a = t.byteAt a := rfl

/-! ### The obligations -/

/-- Settles O9: the two outcomes of a header at the port of gate g. -/
theorem packetCompletes : Obligations.PacketCompletes := by
  intro g p s hg hp hgang
  have h := runGate_powered (csi2Packet g p) hg hp
  refine ⟨fun hh hst => ?_, fun hh hst => ?_⟩
  · rw [csi2Packet_goodHeader hg hgang hh hst] at h; exact h
  · rw [csi2Packet_uncorrectable hg hgang hh hst] at h; exact h

/-- Settles O10: the packet's words are queued whole, and what comes before the FIFO is no other gate's and no memory's. -/
theorem packetEntersFifo : Obligations.PacketEntersFifo := by
  intro g p s hg hp hq hgang hh hpipe hst hext hvc hbit hs hcrc hlo hhi hroom
  have hok : p.header ≠ .uncorrectable := by rw [hh]; nofun
  have hquiet : (queueWords g (payloadWords p.payload) (receiveWords g p s)).quiet := by
    rw [State.quiet, queueWords_reacts, receiveWords_reacts]; exact hq
  have hrun := (packetCompletes g p s hg hp hgang).1 hok (by rw [hpipe]; omega)
  rw [hpipe, takePacket_good hg hh hst hext hvc hbit hs hcrc hlo hhi,
    pushWords_room (by rw [receiveWords_fifo]; exact hroom), after_quiet hquiet] at hrun
  refine ⟨_, hrun, ?_, fun h hne => ?_, fun a => ?_⟩
  · rw [outside_gate, queueWords_fifo, receiveWords_fifo]
  · rw [outside_gate, queueWords_gate_ne _ _ hne.symm, receiveWords_gate_ne p s hne.symm]
  · rw [outside_byteAt, State.byteAt, State.byteAt, queueWords_mem, receiveWords_mem]

end Sys2Proof.Machine
end

section
/-! ## The I²C masters -/
namespace Sys2Proof.Machine
open Sys2Proof

/-- A command of group grp in a device with power (R110). -/
theorem runGroup_powered {grp : Nat} (f : State → State) {s : State} (hg : grp < 6) (hp : s.powered) :
    runIf (grp < 6) f s = .next (after s (f s)) :=
  runIf_powered f (decide_eq_true hg) hp

/-! ### Scripts that are written -/

section
variable {g : Nat} {b : List Byte} {s : State}

theorem scriptWrite_queued (hb : b.length ≤ 4096) (hq : (s.i2cm g).queue.length < 4) :
    scriptWrite g b s = ((Ab.ok, 0), i2cAppend g .xfer b s) := by
  rw [scriptWrite, if_neg (Nat.not_lt.mpr hb), i2cXfer, i2cQueue, if_neg (Nat.not_le.mpr hq)]; rfl

theorem scriptWrite_busy (hb : b.length ≤ 4096) (hq : 4 ≤ (s.i2cm g).queue.length) :
    scriptWrite g b s = ((Ab.busy, 0), s) := by
  rw [scriptWrite, if_neg (Nat.not_lt.mpr hb), i2cXfer, i2cQueue, if_pos hq]; rfl

end

/-! ### Records of a running script -/

section
variable {g op addr n : Nat} {s : State}

theorem i2cHead_some (hh : s.i2cHead g = some (op, addr, n)) :
    (s.i2cm g).running.isSome = true ∧ 4 ≤ (s.i2cm g).rest.length := by
  unfold State.i2cHead at hh
  dsimp only at hh
  split at hh
  · rename_i hc; simpa using hc
  · cases hh

/-- A record that is well formed goes out on the bus (R112). -/
theorem i2cTransfer_good {a : I2cAnswer} {counts : Nat → Nat × Nat} {good : Nat → Bool} (hh : s.i2cHead g = some (op, addr, n))
    (hgood : good n = true) (ha : addr < 0x80) (hlen : 4 + (counts n).1 ≤ (s.i2cm g).rest.length) :
    i2cTransfer g op a counts good s = (s |> emit (.i2c g op addr (slice (s.i2cm g).rest 4 (counts n).1))
      |> i2cRecord g (i2cStatus a) (4 + (counts n).1) (i2cData (counts n).2 a)) := by
  have hok : (!good n || decide (0x80 ≤ addr) || decide ((s.i2cm g).rest.length < 4 + (counts n).1)) = false := by
    rw [hgood, decide_eq_false (Nat.not_le.mpr ha), decide_eq_false (Nat.not_lt.mpr hlen)]; rfl
  simp only [i2cTransfer, hh, ne_eq, not_true_eq_false, hok, Bool.false_eq_true, if_false]

/-- A length of WRITE and READ that R112 allows. -/
theorem recordLength_good (hlo : 1 ≤ n) (hhi : n ≤ 256) : (decide (1 ≤ n) && decide (n ≤ 256)) = true := by
  rw [decide_eq_true hlo, decide_eq_true hhi]; rfl

theorem i2cWrite_good {a : I2cAnswer} (hh : s.i2cHead g = some (1, addr, n)) (hlo : 1 ≤ n) (hhi : n ≤ 256) (ha : addr < 0x80)
    (hlen : 4 + n ≤ (s.i2cm g).rest.length) :
    i2cWrite g a s = (s |> emit (.i2c g 1 addr (slice (s.i2cm g).rest 4 n))
      |> i2cRecord g (i2cStatus a) (4 + n) (i2cData 0 a)) :=
  i2cTransfer_good hh (recordLength_good hlo hhi) ha hlen

theorem i2cRead_good {a : I2cAnswer} (hh : s.i2cHead g = some (2, addr, n)) (hlo : 1 ≤ n) (hhi : n ≤ 256) (ha : addr < 0x80) :
    i2cRead g a s = (s |> emit (.i2c g 2 addr []) |> i2cRecord g (i2cStatus a) 4 (i2cData n a)) :=
  i2cTransfer_good hh (recordLength_good hlo hhi) ha (i2cHead_some hh).2

theorem i2cWriteRead_good {a : I2cAnswer} (hh : s.i2cHead g = some (3, addr, n)) (ha : addr < 0x80)
    (hlen : 4 + n % 256 ≤ (s.i2cm g).rest.length) :
    i2cWriteRead g a s = (s |> emit (.i2c g 3 addr (slice (s.i2cm g).rest 4 (n % 256)))
      |> i2cRecord g (i2cStatus a) (4 + n % 256) (i2cData (n / 256) a)) :=
  i2cTransfer_good hh rfl ha hlen

theorem i2cDelay_due {u : State} (hh : s.i2cHead g = some (4, addr, n))
    (hu : s.dueAt ((s.i2cm g).since + n * 10000 * nsUnit) = some u) : i2cDelay g s = i2cRecord g 0 4 [] u := by
  obtain ⟨due, hdue⟩ := exists_dueAt
  rw [i2cDelay, hdue]
  rw [hdue] at hu
  simp only [hh, hu]

theorem i2cTimeout_due {u : State} (hh : s.i2cHead g = some (op, addr, n)) (hop : 1 ≤ op ∧ op ≤ 3)
    (hu : s.dueAt ((s.i2cm g).since + s.rd Obj.i2cTimeout * 1000000 * nsUnit) = some u) :
    i2cTimeout g s = i2cRecord g 3 4 [] u := by
  obtain ⟨due, hdue⟩ := exists_dueAt
  rw [i2cTimeout, hdue]
  rw [hdue] at hu
  simp only [hh, hop, hu, and_self, if_true]

theorem i2cEnd_record (hh : s.i2cHead g = some (5, addr, n)) : i2cEnd g s = i2cFinish g true s := by
  obtain ⟨hrun, hlen⟩ := i2cHead_some hh
  have hnone : ¬(s.i2cm g).running.isNone = true := by rw [Option.isNone_eq_false_iff.mpr hrun]; exact Bool.false_ne_true
  have hrest : ¬(s.i2cm g).rest.isEmpty = true := by
    rw [List.isEmpty_iff]; intro h; rw [h] at hlen; exact absurd hlen (by decide)
  rw [i2cEnd, if_neg hnone, if_neg hrest, hh]
  exact if_pos rfl

end

/-! ### The obligation -/

/-- Settles O15: the write of a script, then each record at the head of a running one. -/
theorem i2cCompletes : Obligations.I2cCompletes := by
  refine ⟨fun g b s hg hp hserve hb => ?_, fun g addr n a s u hg hp => ?_⟩
  · obtain ⟨hup, hfree⟩ := hserve
    have h := runGroup_powered (serverDo (scriptWrite g b)) hg hp
    rw [serverDo_serving _ hup hfree] at h
    refine ⟨fun hq => ?_, fun hq => ?_⟩
    · rw [scriptWrite_queued hb hq] at h; exact h
    · rw [scriptWrite_busy hb hq] at h; exact h
  · refine ⟨fun hh hlo hhi ha hlen => ?_, fun hh hlo hhi ha => ?_, fun hh ha hlen => ?_, fun hh hu => ?_, fun hh => ?_,
      fun hh hu => ?_⟩
    · rw [← i2cWrite_good hh hlo hhi ha hlen]; exact runGroup_powered (i2cWrite g a) hg hp
    · rw [← i2cRead_good hh hlo hhi ha]; exact runGroup_powered (i2cRead g a) hg hp
    · rw [← i2cWriteRead_good hh ha hlen]; exact runGroup_powered (i2cWriteRead g a) hg hp
    · rw [← i2cDelay_due hh hu]; exact runGroup_powered (i2cDelay g) hg hp
    · rw [← i2cEnd_record hh]; exact runGroup_powered (i2cEnd g) hg hp
    · rw [← i2cTimeout_due hh (by decide) hu]; exact runGroup_powered (i2cTimeout g) hg hp

end Sys2Proof.Machine
end

section
/-! ## The groom -/
namespace Sys2Proof.Machine
open Sys2Proof

/-! ### The start of a cycle -/

section
variable {s : State} {bc : Nat}

/-- From when the cycle that starts takes its samples; the first cycle has none before it (log entry 94). -/
def State.samplesFrom (s : State) : Option Int :=
  if s.groom.nextCycle = s.groom.cycleStart then none else some ((s.groom.cycleStart / (1000 * nsUnit) : Nat) : Int)

/-- What the cycle that starts at `bc` estimates: every gate, then the pairs that the paddock reported (R122, R140). -/
def estimateCycle (bc : Nat) (s : State) : State :=
  let us := bc / (1000 * nsUnit)
  let est := (List.range 36).foldl (fun t g => estimateGate us s.samplesFrom g t)
    (s |> inc 32 Obj.groomCycles |> pruneCoObs (us / 1000000))
  est.groom.checks.foldl (fun t p => checkPairAlign us p t) est

/-- The window of the cycle that starts at `bc` is closed, and its estimates wait for their epoch (R122). -/
def closeWindow (bc : Nat) (s : State) : State :=
  updGroom (fun gr => { gr with
    cycleStart := bc, nextCycle := bc + s.rd Obj.groomPeriod * 10 ^ 9 * nsUnit, checks := [], estimated := true, flicked := [],
    samples := gr.samples.filter (fun p => ((bc / (1000 * nsUnit) : Nat) : Int) ≤ p.2.2.2) }) s

theorem groomCycleStart_signalled (hbc : s.boundaryAfter s.groom.nextCycle = bc) (hon : s.isOn 10 = true) (hnow : bc ≤ s.now)
    (hk : s.time.nextBoundary ≠ 0) (hlt : bc < s.boundary s.time.nextBoundary) (hw : (estimateCycle bc s).epochWaits = false) :
    groomCycleStart s = closeWindow bc (estimateCycle bc s) := by
  have hgo : ¬(!s.isOn 10 || s.now < bc || s.time.nextBoundary = 0 || s.boundary s.time.nextBoundary ≤ bc) = true := by
    rw [hon, decide_eq_false (Nat.not_lt.mpr hnow), decide_eq_false hk, decide_eq_false (Nat.not_le.mpr hlt)]
    exact Bool.false_ne_true
  rw [groomCycleStart, hbc]
  unfold estimateCycle State.samplesFrom at hw ⊢
  simp only [if_neg hgo, hw, Bool.false_eq_true, if_false]
  rfl

end

/-! ### The epoch of a cycle -/

section
variable {s : State}

theorem refreshMask_of_not_hot {p : Proposal} (h : p.category ≠ catHot) : s.refreshMask p = p :=
  if_neg (fun hp => h hp.1)

/-- Drafts that the epoch writes as they are: AUTO, with no table and no mask to look at again, and no address that another bale
has claimed. -/
def PlainDrafts (s : State) (l : List Proposal) : Prop :=
  ∀ p ∈ l, p.disposition = 1 ∧ p.category ≠ catTime ∧ p.category ≠ catHot ∧ s.claimedByOther (ownerCode .groom) p.writes = false

theorem plainDrafts_of_all {l : List Proposal}
    (ha : l.all (fun p => p.disposition == 1 && p.category != catTime && p.category != catHot) = true)
    (hc : l.any (fun p => s.claimedByOther (ownerCode .groom) p.writes) = false) : PlainDrafts s l := by
  intro p hp
  have hplain := List.all_eq_true.mp ha p hp
  simp only [Bool.and_eq_true, beq_iff_eq, bne_iff_ne] at hplain
  obtain ⟨⟨hd, ht⟩, hh⟩ := hplain
  exact ⟨hd, ht, hh, Bool.eq_false_iff.mpr (List.any_eq_false.mp hc p hp)⟩

/-- No draft is dropped for its table (R134), laid over another mask (R137) or deferred for a claim (R128). -/
theorem PlainDrafts.kept {l : List Proposal} (h : PlainDrafts s l) :
    ((l.filter (fun p => p.category != catTime || s.tableAllowed p.gate)).map s.refreshMask).map (fun p =>
      if p.disposition = 1 && s.claimedByOther (ownerCode .groom) p.writes then { p with disposition := 2 } else p) = l := by
  have hfilter : l.filter (fun p => p.category != catTime || s.tableAllowed p.gate) = l := by
    refine List.filter_eq_self.mpr fun p hp => ?_
    obtain ⟨-, ht, -, -⟩ := h p hp
    rw [bne_iff_ne.mpr ht, Bool.true_or]
  have hmap : ∀ f : Proposal → Proposal, (∀ p ∈ l, f p = p) → l.map f = l := fun f hf =>
    (List.map_congr_left hf).trans (List.map_id' l)
  rw [hfilter, hmap s.refreshMask fun p hp => ?_, hmap _ fun p hp => ?_]
  · obtain ⟨-, -, -, hc⟩ := h p hp
    rw [hc, Bool.and_false]; rfl
  · obtain ⟨-, -, hh, -⟩ := h p hp
    exact refreshMask_of_not_hot hh

theorem PlainDrafts.autos {l : List Proposal} (h : PlainDrafts s l) : l.filter (fun p => p.disposition == 1) = l :=
  List.filter_eq_self.mpr fun p hp => beq_iff_eq.mpr (h p hp).1

theorem groomEpochCommit_plain {j : Nat} {v : State} (he : s.groom.estimated = true) (hw : s.epochWaits = false)
    (hne : s.groom.drafts ≠ []) (hp : PlainDrafts s s.groom.drafts)
    (hc : commitEpoch (ownerCode .groom) Obj.groomEpochsRefused (s.groom.drafts.flatMap (·.writes))
      (updGroom (fun gr => { gr with drafts := [], estimated := false }) s) = (some j, v)) :
    groomEpochCommit s = s.groom.drafts.foldl (fun s p => issueProposal j p s) v := by
  have hgo : ¬(!s.groom.estimated) = true := by simp [he]
  have hsome : ¬s.groom.drafts.isEmpty = true := by rwa [List.isEmpty_iff]
  rw [groomEpochCommit, if_neg hgo, if_neg (Bool.eq_false_iff.mp hw)]
  simp only [hp.kept, hp.autos, if_neg hsome, hc, Option.isNone_some, detectIf_false, Bool.and_false, Bool.false_eq_true, if_false,
    Option.getD_some]

end

/-! ### A proposal that is accepted by hand -/

/-- Proposal p of number n passes every check of a write to GROOM.ACCEPT (R144). -/
structure Acceptable (s : State) (n : Nat) (p : Proposal) : Prop where
  kept : s.groom.proposals.find? (fun p => p.number == n) = some p
  notApplied : p.disposition ≠ 1
  notInformational : p.disposition ≠ 3
  notRefused : p.disposition ≠ 4
  current : s.proposalCurrent p = true
  table : p.category = catTime → s.tableAllowed p.gate = true
  noEpoch : s.epochWaits = false

/-- Proposal p of number n gets disposition d, and its entry is written once more (R144). -/
def redecide (n : Nat) (p : Proposal) (d j : Nat) (s : State) : State :=
  let q : Proposal := { p with disposition := d }
  writeProposal q j (updGroom (fun gr => { gr with proposals := gr.proposals.map (fun x => if x.number = n then q else x) }) s)

section
variable {s : State} {n : Nat} {p : Proposal}

/-- What becomes of a proposal that is accepted: deferred by the claim of another bale (R128, log entry 44), else applied or
refused by the epoch committed at once (R144). -/
def decideAccepted (p : Proposal) (s : State) : Nat × Nat × State :=
  if s.claimedByOther (ownerCode .groom) p.writes then (2, 0, s)
  else match commitEpoch (ownerCode .groom) Obj.groomEpochsRefused p.writes s with
    | (some j, s) => (1, j, s)
    | (none, s) => (4, 0, detect groomBlock Src.groomEpochRefused s)

theorem decideAccepted_claimed (h : s.claimedByOther (ownerCode .groom) p.writes = true) : decideAccepted p s = (2, 0, s) :=
  if_pos h

theorem decideAccepted_committed {j : Nat} {v : State} (h : s.claimedByOther (ownerCode .groom) p.writes = false)
    (hc : commitEpoch (ownerCode .groom) Obj.groomEpochsRefused p.writes s = (some j, v)) : decideAccepted p s = (1, j, v) := by
  rw [decideAccepted, if_neg (Bool.eq_false_iff.mp h), hc]

theorem Acceptable.groomAccept_eq (h : Acceptable s n p) {d j : Nat} {v : State} (hd : decideAccepted p s = (d, j, v)) :
    groomAccept n s = (Ab.ok, redecide n p d j v) := by
  have hdisp : ¬(p.disposition = 1 ∨ p.disposition = 3 ∨ p.disposition = 4) := by
    simp [h.notApplied, h.notInformational, h.notRefused]
  have hcur : ¬(!s.proposalCurrent p) = true := by simp [h.current]
  have htab : ¬(p.category = catTime ∧ (!s.tableAllowed p.gate) = true) := by
    rintro ⟨hp, ht⟩
    rw [h.table hp] at ht
    cases ht
  rw [groomAccept, h.kept]
  refine (if_neg hdisp).trans ((if_neg hcur).trans ((if_neg htab).trans
    ((if_neg (Bool.eq_false_iff.mp h.noEpoch)).trans ?_)))
  exact congrArg (fun r : Nat × Nat × State => (Ab.ok, redecide n p r.1 r.2.1 r.2.2)) hd

theorem Acceptable.exec_groomAccept (h : Acceptable s n p) (hp : s.powered) (hs : s.serving) {d j : Nat} {v : State}
    (hd : decideAccepted p s = (d, j, v)) :
    exec (.groomAccept n) s = .next (after s (answered Ab.ok 0 (redecide n p d j v))) := by
  obtain ⟨hup, hfree⟩ := hs
  have hrun := run_powered (serverDo (fun s => withDetail Obj.groomAccept (groomAccept n s))) hp
  rw [serverDo_serving _ hup hfree, h.groomAccept_eq hd] at hrun
  exact hrun

end

/-! ### A bias script that is given up -/

theorem biasGiveUp_due {s u : State} {g : Nat} {b : BiasScript} (hb : s.groom.bias.find? (fun b => b.gate == g) = some b)
    (hu : s.dueAt (b.since + s.rd Obj.groomPeriod * 10 ^ 9 * nsUnit) = some u) :
    biasGiveUp g s = (u |> updGroom (fun gr => { gr with bias := gr.bias.filter (fun x => x != b) })
      |> detect groomBlock Src.groomBiasScriptFail) := by
  obtain ⟨due, hdue⟩ := exists_dueAt
  rw [biasGiveUp, hdue]
  rw [hdue] at hu
  simp only [hb, hu]

/-! ### The obligation -/

/-- Settles O26: the groom's two commands of a cycle, a proposal accepted by hand in its two outcomes, and the script given up. -/
theorem groomCompletes : Obligations.GroomCompletes := by
  intro s u hp
  refine ⟨fun hon hnow hk hlt hw => ?_, fun v j he hw hne ha hc hv => ?_,
    fun n p hs hf h1 h3 h4 hcur htab hw hc => ?_, fun n j v hs p hf h1 h3 h4 hcur htab hw hc hv => ?_, fun g b hg hb hu => ?_⟩
  · have hrun := run_powered groomCycleStart hp
    -- `estimateCycle` is unfolded by name: left to the unifier, the 36 gates would be gone through.
    have hw' : (estimateCycle (s.boundaryAfter s.groom.nextCycle) s).epochWaits = false := by
      unfold estimateCycle State.samplesFrom
      exact hw
    rw [groomCycleStart_signalled rfl hon hnow hk hlt hw'] at hrun
    unfold closeWindow estimateCycle State.samplesFrom at hrun
    exact hrun
  · rw [← groomEpochCommit_plain he hw hne (plainDrafts_of_all ha hc) hv]
    exact run_powered groomEpochCommit hp
  · exact Acceptable.exec_groomAccept ⟨hf, h1, h3, h4, hcur, htab, hw⟩ hp hs (decideAccepted_claimed hc)
  · exact Acceptable.exec_groomAccept ⟨hf, h1, h3, h4, hcur, htab, hw⟩ hp hs (decideAccepted_committed hc hv)
  · rw [← biasGiveUp_due hb hu]
    exact runIf_powered (biasGiveUp g) (decide_eq_true hg) hp

end Sys2Proof.Machine
end

section
/-! ## The sieve -/
namespace Sys2Proof.Machine
open Sys2Proof

section
variable {s : State} {c : Nat}

/-- The oldest sample leaves the inbox and enters the chain; those from before the start of the chain are ignored (R148, R158). -/
theorem chainInput_sinceStart {t : Int} {v : Option Int} {rest : List (Int × Option Int)} (hin : (s.chain c).inbox = (t, v) :: rest)
    (hstart : 2 * ((s.chain c).startUs : Int) ≤ t) :
    chainInput c s = takeSample c t v (updChain c (fun ch => { ch with inbox := rest }) s) := by
  have hnot : ¬t < 2 * (((updChain c (fun ch => { ch with inbox := rest }) s).chain c).startUs : Int) := by
    rw [updChain_same]; exact Int.not_lt.mpr hstart
  rw [chainInput, hin]
  exact if_neg hnot

theorem chainSettled_enough (hst : s.rd (Obj.chainState c) = 1) (hmade : s.rd (Obj.chainSettle c) ≤ (s.chain c).made) :
    chainSettled c s = (s |> wr (Obj.chainState c) 2 |> clearDetector c) := by
  have hgo : (s.rd (Obj.chainState c) = 1 && s.rd (Obj.chainSettle c) ≤ (s.chain c).made) = true := by
    rw [decide_eq_true hst, decide_eq_true hmade]; rfl
  rw [chainSettled, if_pos hgo]

/-- The boundary of an evaluation has been signalled, and no epoch of the sieve waits (R163). -/
theorem sieveEvaluation_signalled {bc : Nat} (hbc : s.boundaryAfter (s.sieveAt + s.rd Obj.sieveUpdatePeriod * 10 ^ 9 * nsUnit) = bc)
    (hon : s.isOn 10 = true) (hnow : bc ≤ s.now) (hk : s.time.nextBoundary ≠ 0) (hlt : bc < s.boundary s.time.nextBoundary)
    (hw : s.sdp.waiting.any (fun w => w.owner == ownerCode .sieve) = false) :
    sieveEvaluation s = sieveEpoch { s with sieveAt := max bc (s.boundary (s.time.nextBoundary - 1)) } := by
  have hgo : ¬(!s.isOn 10 || s.now < bc || s.time.nextBoundary = 0 || s.boundary s.time.nextBoundary ≤ bc) = true := by
    rw [hon, decide_eq_false (Nat.not_lt.mpr hnow), decide_eq_false hk, decide_eq_false (Nat.not_le.mpr hlt)]
    exact Bool.false_ne_true
  rw [sieveEvaluation, hbc]
  simp only [if_neg hgo, hw, Bool.false_eq_true, if_false]

end

/-- Settles O27: a sample at the head of a chain's inbox, a chain that has settled, and an evaluation that is due. -/
theorem sieveCompletes : Obligations.SieveCompletes := by
  intro s hp
  refine ⟨fun c t v rest hc hin hstart => ?_, fun c hc hst hmade => ?_, fun hon hnow hk hlt hw => ?_⟩
  · rw [← chainInput_sinceStart hin hstart]
    exact runIf_powered (chainInput c) (decide_eq_true hc) hp
  · rw [← chainSettled_enough hst hmade]
    exact runIf_powered (chainSettled c) (decide_eq_true hc) hp
  · rw [← sieveEvaluation_signalled rfl hon hnow hk hlt hw]
    exact run_powered sieveEvaluation hp

end Sys2Proof.Machine
end

section
/-! ## Jobs, yards and halos -/
namespace Sys2Proof.Machine
open Sys2Proof

/-- A request of the dictionary that succeeds answers OK without a detail. -/
theorem serverDo_withDetail_ok {addr : Nat} {f : State → Nat × State} {s t : State} (hs : s.serving) (hf : f s = (Ab.ok, t)) :
    serverDo (fun s => withDetail addr (f s)) s = answered Ab.ok 0 t := by
  obtain ⟨hup, hfree⟩ := hs
  rw [serverDo_serving _ hup hfree, hf]
  rfl

/-! ### Job slots -/

section
variable {j : Nat} {s : State}

/-- A command of job slot j in a device with power. -/
theorem runJob_powered (f : State → State) (hj : j < 64) (hp : s.powered) : runIf (j < 64) f s = .next (after s (f s)) :=
  runIf_powered f (decide_eq_true hj) hp

/-- A load starts where none is under way and the slot's job does not run (R179). -/
theorem jobLoad_idle (h : s.rd (Obj.jobState j) ∈ [0, 2, 3]) :
    jobLoad j s = (Ab.ok, s |> setJobState j 1 |> wr (Obj.jobAreaKib j) 0
      |> updSlot j (fun _ => { JobSlot.reset with latched := (s.rd (Obj.jobImageAddr j), s.rd (Obj.jobImageLen j)) })) := by
  obtain ⟨hload, hrun⟩ : s.rd (Obj.jobState j) ≠ 1 ∧ ¬4 ≤ s.rd (Obj.jobState j) := by
    simp only [List.mem_cons, List.not_mem_nil, or_false] at h
    omega
  rw [jobLoad, if_neg hload, if_neg hrun]

/-- A LOADED or REJECTED slot becomes EMPTY, and its job area is free (R180). -/
theorem jobUnload_held (h : s.rd (Obj.jobState j) ∈ [2, 3]) :
    jobUnload j s = (Ab.ok, s |> setJobState j 0 |> wr (Obj.jobAreaKib j) 0 |> updSlot j (fun _ => JobSlot.reset)) := by
  obtain ⟨hload, hrun, hheld⟩ : s.rd (Obj.jobState j) ≠ 1 ∧ ¬4 ≤ s.rd (Obj.jobState j) ∧ s.rd (Obj.jobState j) ≠ 0 := by
    simp only [List.mem_cons, List.not_mem_nil, or_false] at h
    omega
  rw [jobUnload, if_neg hload, if_neg hrun, if_neg hheld]

/-- An image at a place and of a length that R179 allows is accepted or rejected as its checks say (R180). -/
theorem jobLoadDone_read {a n : Nat} {b : List Byte} {u : State} (hst : s.rd (Obj.jobState j) = 1)
    (hl : (s.slot j).latched = (a, n)) (hplace : s.imagePlace a n = true) (hlen : within 128 268435456 n = true)
    (hread : memReadZero a n s = (b, u)) :
    jobLoadDone j s = match u.loadBad j b n with | none => acceptLoad j b u | some e => rejectLoad j e u := by
  rw [jobLoadDone, if_neg (not_not_intro hst)]
  simp only [hl, hplace, hlen, hread, Bool.not_true, Bool.false_eq_true, if_false, if_true]
  cases u.loadBad j b n <;> rfl

end

/-! ### Re-admission -/

section
variable {j y m : Nat} {s : State}

/-- A failed member that is ready comes back by a re-map, two steps ahead where every leaf of it is local, else eight (R196,
R199). -/
theorem yardReadmit_ready
    (hj : s.runningSlots.find? (fun k => s.jobYard k < 256 && (yardsBelow s.dict 9 (s.jobYard k)).contains y) = some j)
    (hf : s.memberFailed j y m = true) (hr : s.memberReady j y m = true) :
    yardReadmit y m s = (Ab.ok, scheduleRemap j s.nowUs
      (if (s.slotLeaves s.dict y m).all isLocal && ((s.slotMembers y m).map memberCode).isEmpty then 2 else 8)
      (s.slotLeaves s.dict y m) ((s.slotMembers y m).map memberCode) s) := by
  have hgo : ¬(!(s.memberFailed j y m && s.memberReady j y m)) = true := by
    rw [hf, hr]; exact Bool.false_ne_true
  rw [yardReadmit, hj]
  exact if_neg hgo

theorem readmitWrite_slot (hm : m < 64) (s : State) :
    readmitWrite y m s = withDetail (Obj.yardReadmit y) (yardReadmit y m s) :=
  if_neg (Nat.not_le.mpr hm)

theorem serverDo_readmitWrite_ok {t : State} (hm : m < 64) (hs : s.serving) (h : yardReadmit y m s = (Ab.ok, t)) :
    serverDo (readmitWrite y m) s = answered Ab.ok 0 t := by
  rw [show readmitWrite y m = fun s => withDetail (Obj.yardReadmit y) (yardReadmit y m s) from funext (readmitWrite_slot hm)]
  exact serverDo_withDetail_ok hs h

end

/-! ### Halos -/

section
variable {i layer n k : Nat} {s : State} {f : Leaf}

/-- A command of stall i in a device with power. -/
theorem runStall_powered (f : State → State) (hi : i < 32) (hp : s.powered) : runIf (i < 32) f s = .next (after s (f s)) :=
  runIf_powered f (decide_eq_true hi) hp

/-- A slot of the layer that waits for the consumer's step k, or for one before it. -/
def HaloSlot.reached (layer i k : Nat) (h : HaloSlot) : Bool := h.layer == layer && h.consumer == i && decide (h.step ≤ k)

/-- The slots that the consumer has reached are released (R190, R191). -/
def releaseHalos (layer i k : Nat) (s : State) : State :=
  { s with halos := s.halos.filter (fun h => !h.reached layer i k) }

@[simp] theorem releaseHalos_stall (m : Nat) : (releaseHalos layer i k s).stall m = s.stall m := rfl

/-- The one slot that waits holds rows of the step that the consumer computes: they are used at once (R190). -/
theorem haloArrival_one {h : HaloSlot} (hf : s.leafOf i = some f) (hn : s.haloReader f layer = some n)
    (hk : (s.stall i).layerStep n = k) (hone : s.halos.filter (HaloSlot.reached layer i k) = [h]) (hstep : h.step = k)
    (hnew : (s.stall i).halosIn.contains (layer, k, h.producer) = false) (hopen : (s.stall i).finished layer k = false) :
    haloArrival i layer s = takeSlot f (f.img.passed ((releaseHalos layer i k s).cutOf f k) f.gates.length layer h.producer i) h
      (releaseHalos layer i k s) := by
  have huse : (h.step == k && !((releaseHalos layer i k s).stall i).halosIn.contains (layer, k, h.producer)) = true := by
    rw [beq_iff_eq.mpr hstep, releaseHalos_stall, hnew]; rfl
  have hwait : ¬((releaseHalos layer i k s).stall i).finished layer k = true := by
    rw [releaseHalos_stall, hopen]; exact Bool.false_ne_true
  unfold HaloSlot.reached at hone
  unfold releaseHalos HaloSlot.reached at huse hwait ⊢
  simp only [haloArrival, hf, hn, hk, hone, List.foldl_cons, List.foldl_nil]
  rw [if_pos huse, if_neg hwait]

/-- The producers of the layer whose rows of step k the consumer has not used and that wait in no slot (R192). -/
def State.halosLacking (s : State) (f : Leaf) (i layer k : Nat) : List Nat :=
  (f.img.producers (s.cutOf f k) f.gates.length layer i).filter (fun p => !(s.stall i).halosIn.contains (layer, k, p)
    && !s.halos.any (fun h => h.layer == layer && h.consumer == i && h.producer == p && h.step == k))

/-- At the deadline what waits is taken first, and only then is the rest zero-filled (R192). -/
theorem haloDeadline_due {u : State} (hf : s.leafOf i = some f) (hn : s.haloReader f layer = some n)
    (hk : (s.stall i).layerStep n = k) (hlacks : s.halosLacking f i layer k ≠ []) (hrun : s.inRun f.j k = true)
    (hu : s.dueAt ((s.boundaryUs (k + slOf (s.cfgOf k) + 1) * 1000 - s.tailNs f (f.img.groupOf n) k) * nsUnit) = some u) :
    haloDeadline i layer s = (s.halosLacking f i layer k).foldl (fun s p => zeroFill f layer k p s) (haloArrival i layer u) := by
  obtain ⟨due, hdue⟩ := exists_dueAt
  have hgo : ¬((s.halosLacking f i layer k).isEmpty || !s.inRun f.j k) = true := by
    rw [hrun, List.isEmpty_eq_false_iff.mpr hlacks]; exact Bool.false_ne_true
  unfold State.halosLacking at hgo ⊢
  rw [haloDeadline, hdue]
  rw [hdue] at hu
  simp only [hf, hn, hk, if_neg hgo, hu]

end

/-! ### The obligation -/

/-- Settles O28: the commands of a slot, the re-admission of a member, and the two ways in which halos reach a leaf. -/
theorem jobsAndHalosComplete : Obligations.JobsAndHalosComplete := by
  refine ⟨fun j s hj hp => ⟨fun hs hst => ?_, fun hs hst => ?_, fun a n b u hst hl hplace hlen hread => ?_,
    fun y m hy hm hs hslot hf hr => ?_⟩, fun i layer n s u f h hi hp hf hn => ⟨fun hone hstep hnew hopen => ?_,
    fun hlacks hin hu => ?_⟩⟩
  · rw [← serverDo_withDetail_ok (addr := Obj.jobLoad j) hs (jobLoad_idle hst)]
    exact runJob_powered _ hj hp
  · rw [← serverDo_withDetail_ok (addr := Obj.jobLoad j) hs (jobUnload_held hst)]
    exact runJob_powered _ hj hp
  · have hrun := runJob_powered (jobLoadDone j) hj hp
    rw [jobLoadDone_read hst hl hplace hlen hread] at hrun
    exact hrun
  · have hrun := runPowerIf_powered (serverDo (readmitWrite y m)) (decide_eq_true hy) hp
    rw [serverDo_readmitWrite_ok hm hs (yardReadmit_ready hslot hf hr)] at hrun
    exact hrun
  · have hrun := runStall_powered (haloArrival i layer) hi hp
    rw [haloArrival_one hf hn rfl hone hstep hnew hopen] at hrun
    exact hrun
  · have hrun := runStall_powered (haloDeadline i layer) hi hp
    rw [haloDeadline_due hf hn rfl hlacks hin hu] at hrun
    exact hrun

end Sys2Proof.Machine
end

section
/-! ## The work of a leaf -/
namespace Sys2Proof.Machine
open Sys2Proof

theorem leafOf_stall {s : State} {i : Nat} {f : Leaf} (h : s.leafOf i = some f) : f.i = i := by
  unfold State.leafOf at h
  split at h
  · cases h
  · split at h
    · cases h
    · obtain ⟨img, -, rfl⟩ := Option.map_eq_some_iff.mp h
      rfl

/-- A command of stall i in a device with power leaves what its effect makes of the state. -/
theorem runStall_of_eq {i : Nat} {s t : State} (g : State → State) (hi : i < 32) (hp : s.powered) (h : g s = t) :
    runIf (i < 32) g s = .next (after s t) := h ▸ runStall_powered g hi hp

/-! ### Ingress blocks -/

section
variable {i : Nat} {s : State} {f : Leaf} {b : BlockRec}

/-- A block of a step that is over goes before everything else (R25, R194; the order is log entry 46). -/
theorem ingressBlockConsume_over (hf : s.leafOf i = some f)
    (hb : (s.stall i).queue.find? (fun b => decide (b.step < (s.stall i).eventStep)) = some b) :
    ingressBlockConsume i s = retryStaging (releaseUnread i b s) := by
  simp only [ingressBlockConsume, hf, hb]

/-- Next goes a block of late events, whatever step the leaf is at (R24, R106). -/
theorem ingressBlockConsume_late (hf : s.leafOf i = some f)
    (ho : (s.stall i).queue.find? (fun b => decide (b.step < (s.stall i).eventStep)) = none)
    (hb : (s.stall i).queue.find? (·.late) = some b) :
    ingressBlockConsume i s = retryStaging (takeLateBlock f b s) := by
  simp only [ingressBlockConsume, hf, ho, hb]

/-- Stall i has no block to pass on before the events of its step, and may begin on them (R222, R223). -/
structure EventsReady (s : State) (i : Nat) (f : Leaf) : Prop where
  noneOver : (s.stall i).queue.find? (fun b => decide (b.step < (s.stall i).eventStep)) = none
  noneLate : (s.stall i).queue.find? (·.late) = none
  inRun : s.inRun f.j (s.stall i).eventStep = true
  closed : (s.stall i).eventStep ≤ (s.stall i).first ∨ s.ingressOpen ((s.stall i).eventStep - 1) = false
  sealed : f.img.sheafLayers.all (fun m => decide ((s.stall i).eventStep ≤ (s.stall i).layerStep m)) = true
  noOlder : s.olderWork f (s.stall i).eventStep = false

/-- The events of step k that stall i takes in next: what the late-carry buffer holds, else a block on time (R222). -/
def takeEvents (i k : Nat) (f : Leaf) (s : State) : State :=
  if (s.stall i).late.any (fun x => x.step == k) then applyLate f k s
  else match (s.stall i).queue.find? (fun b => b.step == k) with
    | some b => consumeBlock f k b s
    | none => s

theorem takeEvents_carried {k : Nat} (h : (s.stall i).late.any (fun x => x.step == k) = true) :
    takeEvents i k f s = applyLate f k s := if_pos h

theorem takeEvents_onTime {k : Nat} (h : (s.stall i).late.any (fun x => x.step == k) = false)
    (hb : (s.stall i).queue.find? (fun b => b.step == k) = some b) : takeEvents i k f s = consumeBlock f k b s := by
  rw [takeEvents, if_neg (Bool.eq_false_iff.mp h), hb]

theorem EventsReady.ingressBlockConsume_eq (h : EventsReady s i f) (hf : s.leafOf i = some f) :
    ingressBlockConsume i s
      = retryStaging (finishEvents f (s.stall i).eventStep (takeEvents i (s.stall i).eventStep f s)) := by
  have hclosed : (decide ((s.stall i).eventStep ≤ (s.stall i).first)
      || !s.ingressOpen ((s.stall i).eventStep - 1)) = true := by
    rw [Bool.or_eq_true, decide_eq_true_iff, Bool.not_eq_true']
    exact h.closed
  simp only [ingressBlockConsume, hf, h.noneOver, h.noneLate, h.inRun, hclosed, h.sealed, h.noOlder, Bool.not_true, Bool.not_false,
    Bool.and_true, Bool.false_eq_true, if_false]
  rfl

end

/-! ### Layers -/

section
variable {i n k : Nat} {s : State} {f : Leaf}

/-- The sheaf is complete once the events of the layer's step are over (R240). -/
theorem sheafSeal_eventsOver (hf : s.leafOf i = some f) (hk : (s.stall i).layerStep n = k) (hty : lyType (f.img.layer n) = tySheaf)
    (hn : n < f.img.layers.length) (hover : k < (s.stall i).eventStep) (hfree : s.slotBlocked f n k = false) :
    sheafSeal i n s = (s |> sealCells f n k |> storeRows f n k (f.img.computed (s.cutOf f k) f.gates.length f.i n)
      |> busyFor (Obj.threshBusyCycles i) i (16
        + ceilDiv ((f.img.owned (s.cutOf f k) f.gates.length i n).length * lyW (f.img.layer n) * groupWidth (lyOut (f.img.layer n))) 64)
      |> finishLayer f n k) := by
  have hgo : ¬(lyType (f.img.layer n) ≠ tySheaf ∨ f.img.layers.length ≤ n ∨ (s.stall i).eventStep ≤ k
      ∨ s.slotBlocked f n k = true) := by
    simp [hty, hn, hover, hfree]
  subst hk
  simp only [sheafSeal, hf, if_neg hgo]

theorem spikeReady_of (hk : (s.stall f.i).layerStep n = k) (hty : lyType (f.img.layer n) = tySpikeConv)
    (hn : n < f.img.layers.length) (hrun : s.inRun f.j k = true)
    (hbefore : (List.range n).all (fun m => !isSpike (f.img.layer m) || (s.stall f.i).finished m k) = true)
    (hsrc : s.sourceReady f (lySource (f.img.layer n)) k = true) (hgrp : s.groupReady f n (lySource (f.img.layer n)) k = true)
    (hfree : s.slotBlocked f n k = false) : s.spikeReady f n = true := by
  subst hk
  simp only [State.spikeReady, hty, hn, hrun, hbefore, hsrc, hgrp, hfree, beq_self_eq_true, decide_true, Bool.not_false,
    Bool.and_self]

/-- A SPIKE_CONV layer that is ready runs unless it must give way to an older step (R222, R223). -/
theorem spikeLayerStart_ready (hf : s.leafOf i = some f) (hk : (s.stall i).layerStep n = k)
    (hready : s.spikeReady f n = true) (holder : s.olderWork f k = false) :
    spikeLayerStart i n s = finishSpike (s.spikeCtx f n k) [lySource (f.img.layer n)]
      (((flushContrib f s).convInputs (s.spikeCtx f n k)).foldl (fun t x => addInput (s.spikeCtx f n k) x t) (flushContrib f s)) := by
  subst hk
  simp only [spikeLayerStart, hf, hready, holder, Bool.not_true, Bool.or_self, Bool.false_eq_true, if_false]
  rfl

theorem denseLayerStart_ready (hf : s.leafOf i = some f) (hk : (s.stall i).layerStep n = k) (hn : n < f.img.layers.length)
    (hdense : isDense (f.img.layer n) = true) (hty : lyType (f.img.layer n) ≠ tySheaf) (hrun : s.inRun f.j k = true)
    (hready : s.denseReady f n k = true) (hfree : s.slotBlocked f n k = false) :
    denseLayerStart i n s = (s |> runDense f n k |> storeRows f n k (s.computedRows f n k) |> finishLayer f n k) := by
  have hgo : ¬(f.img.layers.length ≤ n ∨ (!isDense (f.img.layer n)) = true ∨ lyType (f.img.layer n) = tySheaf
      ∨ (!(s.inRun f.j k && s.denseReady f n k)) = true ∨ s.slotBlocked f n k = true) := by
    simp [hdense, hty, hrun, hready, hfree, hn]
  subst hk
  simp only [denseLayerStart, hf, if_neg hgo]

end

/-! ### The yard's list -/

/-- What each leaf of a step's cut contributes to the list of layer n (R258). -/
def State.leafLists (s : State) (j n : Nat) (r : StepRec) : List (Option (List Box)) :=
  (s.ownCut (s.jobYard j) r.k).map (fun leaf => s.leafBoxes r n leaf)

/-- The boxes of layer n in step k that the other devices of the yard sent. -/
def State.farBoxes (s : State) (j n k : Nat) : List Box :=
  (s.net.boxesGot.filter (fun b => (remoteMembers s.dict (s.jobYard j)).contains (b.1, b.2.1) && b.2.2.1 == k
    && b.2.2.2.1 == n)).flatMap (fun b => b.2.2.2.2)

theorem mergeLists_complete {j n : Nat} {s : State} {img : JobImage} {r : StepRec} (himg : (s.slot j).image = some img)
    (hn : n < img.layers.length) (hty : lyType (img.layer n) = tyDetect)
    (hr : s.steps.find? (fun r => s.inRun j r.k && !s.lists.any (fun x => x.1 == j && x.2.1 == n && x.2.2.1 == r.k)
      && (s.leafLists j n r).all (·.isSome)) = some r) :
    mergeLists j n s = { s with lists := s.lists ++ [(j, n, r.k, (sortBy boxBefore ((s.leafLists j n r).flatMap (fun x => x.getD [])
      ++ s.farBoxes j n r.k)).take (deK (img.layer n)))] } := by
  have hgo : ¬(lyType (img.layer n) ≠ tyDetect ∨ img.layers.length ≤ n) := by simp [hty, hn]
  unfold State.leafLists at hr ⊢
  unfold State.farBoxes
  simp only [mergeLists, himg, hr, if_neg hgo]

/-! ### Gleaning and replays -/

/-- A visit reaches a neuron of a running spike layer in a row that the leaf owns (R213). -/
theorem gleanVisit_owned {i n port y x ch k : Nat} {s : State} {f : Leaf} (hf : s.leafOf i = some f)
    (hk : (s.stall i).layerStep n = k) (hspike : isSpike (f.img.layer n) = true) (hn : n < f.img.layers.length)
    (hport : port < f.gates.length) (hy : y < lyH (f.img.layer n)) (hx : x < lyW (f.img.layer n)) (hch : ch < lyOut (f.img.layer n))
    (hrun : s.inRun f.j k = true)
    (hown : f.img.owner (s.cutOf f k) f.gates.length n (port * lyH (f.img.layer n) + y) = some i) :
    gleanVisit i n port y x ch s
      = gleanNeuron (s.spikeCtx f n k) (placeOf n (port * lyH (f.img.layer n) + y) x ch) s := by
  subst hk
  simp only [gleanVisit, hf, hspike, hn, hport, hy, hx, hch, hrun, hown, decide_true, beq_self_eq_true, Bool.and_self, if_true]

/-- The count of a replay: 3 active cycles of the stall (R288, R289). -/
def countReplay (i : Nat) (s : State) : State := s |> inc 64 (Obj.winnowReplays i) |> addE 64 (Obj.winnowActiveCycles i) 0 3

@[simp] theorem countReplay_stall (i k : Nat) (s : State) : (countReplay i s).stall k = s.stall k := rfl

theorem timingErrorReplay_counted {i m : Nat} {s : State} (hi : i < 32) (hon : s.isOn (stallDomain i) = true)
    (hidle : (s.muckUnit i).running = false) (hfast : (s.stall i).throttled = none) (hm : m ≠ 16) :
    timingErrorReplay i m s = updStall i (fun st => { st with
      replays := ((countReplay i s).rd (Obj.winnowActiveCycles i) :: st.replays).take 9 }) (countReplay i s) := by
  have hgo : (decide (i < 32) && s.isOn (stallDomain i) && !(s.muckUnit i).running) = true := by
    rw [decide_eq_true hi, hon, hidle]; rfl
  have hunthrottled : ¬((countReplay i s).stall i).throttled.isSome = true := by
    rw [countReplay_stall, hfast]; exact Bool.false_ne_true
  unfold countReplay at hunthrottled ⊢
  simp only [timingErrorReplay, if_pos hgo, if_neg hunthrottled, if_neg hm]

/-! ### The obligation -/

/-- Settles O29: a block or the events of a step, each kind of layer, the merged list, a gleaned neuron and a replay. -/
theorem leavesComplete : Obligations.LeavesComplete := by
  refine ⟨fun i n s f hi hp hf => ⟨fun b hb => ?_, fun b ho hb => ?_, fun b ho hl hrun hcl hse hold => ?_,
      fun hty hn hover hfree => ?_, fun hty hn hrun hbefore hsrc hgrp hfree hold => ?_,
      fun hn hdense hty hrun hready hfree => ?_⟩,
    fun i n s hp => ⟨fun j img r hj himg hn hty hr => ?_, fun f port y x ch hi hf hspike hn hport hy hx hch hrun hown => ?_,
      fun m hi hon hidle hfast hm => ?_⟩⟩
  · exact runStall_of_eq (ingressBlockConsume i) hi hp (ingressBlockConsume_over hf hb)
  · exact runStall_of_eq (ingressBlockConsume i) hi hp (ingressBlockConsume_late hf ho hb)
  · have hevents := EventsReady.ingressBlockConsume_eq ⟨ho, hl, hrun, hcl, hse, hold⟩ hf
    refine ⟨fun hcarried => ?_, fun hnone hb => ?_⟩
    · rw [takeEvents_carried hcarried] at hevents
      exact runStall_of_eq (ingressBlockConsume i) hi hp hevents
    · rw [takeEvents_onTime hnone hb] at hevents
      exact runStall_of_eq (ingressBlockConsume i) hi hp hevents
  · exact runStall_of_eq (sheafSeal i n) hi hp (sheafSeal_eventsOver hf rfl hty hn hover hfree)
  · obtain rfl := leafOf_stall hf
    exact runStall_of_eq (spikeLayerStart f.i n) hi hp
      (spikeLayerStart_ready hf rfl (spikeReady_of rfl hty hn hrun hbefore hsrc hgrp hfree) hold)
  · exact runStall_of_eq (denseLayerStart i n) hi hp (denseLayerStart_ready hf rfl hn hdense hty hrun hready hfree)
  · have hmerge := runJob_powered (mergeLists j n) hj hp
    rw [mergeLists_complete himg hn hty hr] at hmerge
    exact hmerge
  · exact runStall_of_eq (gleanVisit i n port y x ch) hi hp (gleanVisit_owned hf rfl hspike hn hport hy hx hch hrun hown)
  · exact runStall_of_eq (timingErrorReplay i m) hi hp (timingErrorReplay_counted hi hon hidle hfast hm)

end Sys2Proof.Machine
end

section
/-! ## The adaptive supply -/
namespace Sys2Proof.Machine
open Sys2Proof

/-! ### The emergency of a stall -/

section
variable {i : Nat} {s : State}

/-- The stall has counted its emergency, and watches for the next one from here on (R292). -/
def countEmergency (i : Nat) (s : State) : State :=
  s |> inc 32 (Obj.winnowEmergencies i) |> updStall i (fun st => { st with replays := [] })
    |> detect (stallBlock i) Src.stallReplayEmergency

/-- The loop asks for 50 mV more ahead of every other request, holds off its steps down, and slows stall i until the rail
confirms (R292). -/
def answerEmergency (i : Nat) (s : State) : State :=
  s |> inc 32 Obj.supplyEmergencies |> supplyTarget .emergency (s.rd Obj.supplyTargetMv + 50)
    |> updSupply (fun p => { p with holdoffUntil := s.now + s.rd Obj.supplyHoldoffMs * 1000000 * nsUnit })
    |> updStall i (fun st => { st with throttled := some 0 })

/-- While the target can still rise, the loop reports no ceiling. -/
theorem replayEmergency_raises {l : State} (hi : i < 32) (hon : s.isOn (stallDomain i) = true) (hem : s.inEmergency i = true)
    (hloop : (countEmergency i s).rd Obj.supplyState ≠ supDisabled) (hl : checkLimits (countEmergency i s) = l)
    (hroom : l.supplyClamp (l.rd Obj.supplyTargetMv + 50) ≠ l.rd Obj.supplyTargetMv) :
    replayEmergency i s = answerEmergency i l := by
  have hgo : (decide (i < 32) && s.isOn (stallDomain i) && s.inEmergency i) = true := by
    rw [decide_eq_true hi, hon, hem]; rfl
  unfold countEmergency at hloop hl
  rw [replayEmergency, if_pos hgo]
  simp only [if_neg hloop, hl, beq_eq_false_iff_ne.mpr hroom, detectIf_false, answerEmergency]

end

/-! ### The instants of the loop -/

section
variable {i : Nat} {s u : State}

/-- Every stall's rate of the window is published, and with them the worst (R291). -/
def publishRates (s : State) : State :=
  let v := (List.range 32).foldl (fun s i => wr (Obj.winnowReplayRate i) (s.rateOf i) s) s
  v |> wr Obj.supplyWorstStall (s.worstStall.getD 0xFF) |> wr Obj.supplyWorstRate ((s.worstStall.map v.rateOf).getD 0)

/-- The worst stall is picked before the rates are published, and the loop decides on it. -/
theorem supplyWindowEnd_due (hst : s.rd Obj.supplyState = supMeasuring)
    (hu : s.dueAt (s.supply.openedAt + s.rd Obj.supplyPeriod * 1000000 * nsUnit) = some u) :
    supplyWindowEnd s = supplyDecide u.worstStall (publishRates u) := by
  obtain ⟨due, hdue⟩ := exists_dueAt
  unfold publishRates
  rw [supplyWindowEnd, if_neg (not_not_intro hst), hdue]
  rw [hdue] at hu
  simp only [hu]

/-- A request that nothing confirms settles like one that was confirmed, and is reported (R293). -/
theorem supplyConfirmTimeout_due (hst : s.rd Obj.supplyState = supChanging)
    (hu : s.dueAt (s.supply.changedAt + 2000000 * nsUnit) = some u) :
    supplyConfirmTimeout s = (u |> wr Obj.supplyState supSettling |> updSupply (fun p => { p with confirmedAt := u.now })
      |> detect powerBlock Src.powerSupplyPmbus) := by
  obtain ⟨due, hdue⟩ := exists_dueAt
  rw [supplyConfirmTimeout, if_neg (not_not_intro hst), hdue]
  rw [hdue] at hu
  simp only [hu]

theorem supplySettled_due (hst : s.rd Obj.supplyState = supSettling)
    (hu : s.dueAt (s.supply.confirmedAt + s.rd Obj.supplySettleUs * 1000 * nsUnit) = some u) :
    supplySettled s = openWindow u := by
  obtain ⟨due, hdue⟩ := exists_dueAt
  rw [supplySettled, if_neg (not_not_intro hst), hdue]
  rw [hdue] at hu
  simp only [hu]

/-- A throttle that was confirmed at t ends; one that still waits for the rail is marked 0 (R292). -/
theorem throttleEnd_due {t : Nat} (ht : (s.stall i).throttled = some t) (hconf : t ≠ 0)
    (hu : s.dueAt (t + 1000000 * nsUnit) = some u) :
    throttleEnd i s = updStall i (fun st => { st with throttled := none }) u := by
  obtain ⟨due, hdue⟩ := exists_dueAt
  rw [throttleEnd, hdue]
  rw [hdue] at hu
  simp only [ht, if_neg hconf, hu]

theorem holdoffEnd_due (hh : s.supply.holdoffUntil ≠ 0) (hu : s.dueAt s.supply.holdoffUntil = some u) :
    holdoffEnd s = updSupply (fun p => { p with holdoffUntil := 0 }) u := by
  obtain ⟨due, hdue⟩ := exists_dueAt
  rw [holdoffEnd, if_neg hh, hdue]
  rw [hdue] at hu
  simp only [hu]

end

/-! ### The obligation -/

/-- Settles O30: a stall's emergency, then each instant that the loop waits for. -/
theorem supplyCompletes : Obligations.SupplyCompletes := by
  intro i s u hp
  refine ⟨fun hi hon hem hloop hroom => ?_, fun hst hu => ?_, fun hst hu => ?_, fun hst hu => ?_, fun t hi ht hconf hu => ?_,
    fun hh hu => ?_⟩
  · exact runStall_of_eq (replayEmergency i) hi hp (replayEmergency_raises hi hon hem hloop rfl hroom)
  · have hrun := run_powered supplyWindowEnd hp
    rw [supplyWindowEnd_due hst hu] at hrun
    exact hrun
  · rw [← supplyConfirmTimeout_due hst hu]; exact run_powered supplyConfirmTimeout hp
  · rw [← supplySettled_due hst hu]; exact run_powered supplySettled hp
  · exact runStall_of_eq (throttleEnd i) hi hp (throttleEnd_due ht hconf hu)
  · rw [← holdoffEnd_due hh hu]; exact run_powered holdoffEnd hp

end Sys2Proof.Machine
end

section
/-! ## PMBus transactions and rails -/
namespace Sys2Proof.Machine
open Sys2Proof

/-- A command of rail slot r in a device with power leaves what its effect makes of the state. -/
theorem runRail_of_eq {r : Nat} {s t : State} (g : State → State) (hr : r < 4) (hp : s.powered) (h : g s = t) :
    runIf (r < 4) g s = .next (after s t) := h ▸ runIf_powered g (decide_eq_true hr) hp

/-! ### Transactions (R464) -/

section
variable {r word : Nat} {a : PmbAnswer} {s : State} {q : PmbReq} {rest : List PmbReq}

/-- The transaction in flight has been answered after some NACKs, and is counted with them. -/
def countTransaction (nacks : Nat) (s : State) : State :=
  s |> nextPmb |> inc 32 Obj.railTransactions |> addE 32 Obj.railNacks 0 nacks

/-- The transaction in flight is answered by the slot within three attempts. -/
structure Answered (s : State) (r nacks : Nat) (q : PmbReq) (rest : List PmbReq) : Prop where
  front : s.power.pmbus = q :: rest
  slot : q.slot = r
  inTime : nacks < 3

theorem Answered.pmbDo_eq {nacks : Nat} (h : Answered s r nacks q rest) {kinds : List PmbKind} (hk : q.kind ∈ kinds)
    (ok : PmbReq → State → State) : pmbDo kinds r nacks ok s = ok q (countTransaction nacks s) := by
  have hmine : (kinds.contains q.kind && q.slot == r) = true := by
    rw [List.contains_iff_mem.mpr hk, beq_iff_eq.mpr h.slot]; rfl
  have hfew : ¬3 ≤ nacks := Nat.not_le.mpr h.inTime
  simp only [pmbDo, h.front, if_pos hmine, if_neg hfew, Nat.min_eq_left (Nat.le_of_lt h.inTime), countTransaction]

/-- RAIL.READ_MV shows the voltage that a slot read back. -/
def showVout (r word : Nat) (s : State) : State := s |> wrE Obj.railReadMv r (s.voutMv r word) |> emit (.pmbus 0x8B r word)

/-- A voltage of mV read from slot r confirms the loop's request (R293; log entry 80). -/
abbrev State.confirms (s : State) (r mv : Nat) : Prop :=
  r = 0 ∧ mv ≤ s.rd Obj.supplyTargetMv + 10 ∧ s.rd Obj.supplyTargetMv ≤ mv + 10 ∧ s.voutWaits 0 = false

theorem Answered.readVout_eq (h : Answered s r a.nacks q rest) (hk : q.kind = .readVout) (hw : word < 65536) {u : State}
    (hu : countTransaction a.nacks s = u) (hmv : u.voutMv r word < 65536) :
    readVout r word a s = if (showVout r word u).confirms r (u.voutMv r word)
      then supplyConfirmed (u.voutMv r word) (showVout r word u) else showVout r word u := by
  unfold showVout State.confirms
  rw [readVout, h.pmbDo_eq (List.mem_singleton.mpr hk), hu]
  simp only [Nat.mod_eq_of_lt hw, if_pos hmv, Bool.and_eq_true, decide_eq_true_eq, Bool.not_eq_true', and_assoc]

theorem Answered.statusWord_eq (h : Answered s r a.nacks q rest) (hk : q.kind = .statusWord) (hw : word < 65536) :
    statusWord r word a s
      = (countTransaction a.nacks s |> wrE Obj.railStatus r word |> emit (.pmbus 0x79 r word)) := by
  rw [statusWord, h.pmbDo_eq (List.mem_singleton.mpr hk), Nat.mod_eq_of_lt hw]

theorem pmbusStretchTimeout_inFlight (h : s.power.pmbus = q :: rest) :
    pmbusStretchTimeout s
      = (s |> nextPmb |> inc 32 Obj.railTransactions |> detect powerBlock Src.powerPmbusTimeout) := by
  rw [pmbusStretchTimeout, h]; rfl

end

/-! ### Levels and alerts (R465, R466) -/

section
variable {r : Nat} {s u : State}

theorem execPgoodRise_powered (hr : r < 4) (hp : s.powered) : execPgoodRise r s = .next (after s (pgoodRise r s)) := by
  rw [execPgoodRise, if_pos hr, if_neg (Bool.eq_false_iff.mp hp), run_powered _ hp]

theorem execPgoodFall_powered (hr : r < 4) (hp : s.powered) : execPgoodFall r s = .next (after s (pgoodFall r s)) := by
  rw [execPgoodFall, if_pos hr, if_neg (Bool.eq_false_iff.mp hp), run_powered _ hp]

theorem pgoodRise_slot (hr : r < 4) : pgoodRise r s = updPower (fun p => { p with pgood := setBit p.pgood r }) s := if_pos hr

theorem pgoodFall_slot (hr : r < 4) {v : State} (hv : updPower (fun p => { p with pgood := clrBit p.pgood r }) s = v) :
    pgoodFall r s = if r = 0 then detect powerBlock Src.powerPgoodLostCore v
      else if v.rdE Obj.railOn r = 1 ∨ v.rdE Obj.railRole r = 5 then detect powerBlock Src.powerPgoodLost v else v := by
  simp only [pgoodFall, if_pos hr, hv, detectIf, Bool.or_eq_true, beq_iff_eq]

/-- The domains whose supply phase waits for the level of slot r. -/
def State.waitingFor (s : State) (r : Nat) : List Nat :=
  (List.range 54).filter (fun d => (s.domain d).phase == 1 && (s.domainRails d).contains r)

/-- The domains of a list that have waited for a level for the whole timeout go back to OFF, blocked. -/
def endLate (l : List Nat) (s : State) : State :=
  (l.filter (fun d => decide ((s.domain d).since + s.rd Obj.railPgoodTimeoutMs * 1000000 * nsUnit ≤ s.now))).foldl
    (fun s d => s |> block d 0 |> domainOff d |> dropRails d) s

/-- The timeout runs from the domain that has waited longest, and ends every wait that is over by then. -/
theorem pgoodTimeout_due {d : Nat} (hd : minBy (fun d => ((s.domain d).since : Int)) (s.waitingFor r) = some d)
    (hlow : bit s.power.pgood r = false)
    (hu : s.dueAt ((s.domain d).since + s.rd Obj.railPgoodTimeoutMs * 1000000 * nsUnit) = some u) :
    pgoodTimeout r s = detect powerBlock Src.powerPgoodTimeout (endLate (s.waitingFor r) u) := by
  obtain ⟨due, hdue⟩ := exists_dueAt
  unfold State.waitingFor at hd ⊢
  unfold endLate
  rw [pgoodTimeout, hdue]
  rw [hdue] at hu
  simp only [hd, if_neg (Bool.eq_false_iff.mp hlow), hu]

/-- The last alert that was answered is 10 ms ago or more. -/
theorem pmbAlert_apart (h : ∀ t, s.power.alertAt = some t → t + 10000000 * nsUnit ≤ s.now) :
    pmbAlert s = (s.enabledSlots.foldl (fun s r => pushPmb ⟨.statusWord, r, 0⟩ s) s
      |> updPower (fun p => { p with alertAt := some s.now }) |> detect powerBlock Src.powerPmbAlert) := by
  unfold pmbAlert
  cases ha : s.power.alertAt with
  | none => rfl
  | some t => exact if_neg (by simpa using h t ha)

end

/-! ### The obligation -/

/-- Settles O31: each kind of transaction at the front of the queue, then the levels and the alert. -/
theorem railsComplete : Obligations.RailsComplete := by
  refine ⟨fun r word a s q rest hr hw hp hfront hslot hn => ?_, fun r s u hr hp => ⟨?_, ?_, fun d hd hlow hu => ?_, fun h => ?_⟩⟩
  · have h : Answered s r a.nacks q rest := ⟨hfront, hslot, hn⟩
    refine ⟨fun hk => ?_, fun hk => ?_, fun hk => ?_, fun hk hmv => ?_, fun hk => ?_, ?_⟩
    · exact runRail_of_eq (operationOn r a) hr hp (h.pmbDo_eq (List.mem_singleton.mpr hk) _)
    · exact runRail_of_eq (operationOff r a) hr hp (h.pmbDo_eq (List.mem_singleton.mpr hk) _)
    · have hvout : q.kind ∈ [PmbKind.emergency, .vout] := by rwa [List.mem_cons, List.mem_singleton]
      exact runRail_of_eq (voutCommand r a) hr hp (h.pmbDo_eq hvout _)
    · exact runRail_of_eq (readVout r word a) hr hp (h.readVout_eq hk hw rfl hmv)
    · exact runRail_of_eq (statusWord r word a) hr hp (h.statusWord_eq hk hw)
    · rw [← pmbusStretchTimeout_inFlight hfront]; exact run_powered pmbusStretchTimeout hp
  · have hrun := execPgoodRise_powered hr hp
    rw [pgoodRise_slot hr] at hrun
    exact hrun
  · have hrun := execPgoodFall_powered hr hp
    rw [pgoodFall_slot hr rfl] at hrun
    exact hrun
  · have hrun := runPowerIf_powered (pgoodTimeout r) (decide_eq_true hr) hp
    rw [pgoodTimeout_due hd hlow hu] at hrun
    exact hrun
  · rw [← pmbAlert_apart h]; exact run_powered pmbAlert hp

end Sys2Proof.Machine
end

section
/-! ## The HOLD pairs -/
namespace Sys2Proof.Machine
open Sys2Proof

/-! ### What drives the HOLD pairs -/

/-- The objects that show HOLD pair n. -/
def holdObjects (n : Nat) : List Nat := [Obj.holdState n, Obj.holdCause n, Obj.holdChanges n]

theorem not_mem_holdObjects_iff {n addr : Nat} :
    addr ∉ holdObjects n ↔ addr ≠ Obj.holdState n ∧ addr ≠ Obj.holdCause n ∧ addr ≠ Obj.holdChanges n := by
  simp only [holdObjects, List.mem_cons, List.not_mem_nil, or_false, not_or]

/-- The HOLD records end below the fault records. -/
theorem not_mem_holdObjects {n addr : Nat} (hn : n < 16) (h : 0x700000 ≤ addr) : addr ∉ holdObjects n := by
  rw [not_mem_holdObjects_iff, Obj.holdState, Obj.holdCause, Obj.holdChanges]; omega

theorem holdState_not_mem_holdObjects {n m : Nat} (h : n ≠ m) : Obj.holdState n ∉ holdObjects m := by
  rw [not_mem_holdObjects_iff, Obj.holdState, Obj.holdState, Obj.holdCause, Obj.holdChanges]; omega

theorem holdPair_dict (n c : Nat) (s : State) : (holdPair n c s).dict = (wr (Obj.holdCause n) c (wr (Obj.holdState n) 0
    (if s.rd (Obj.holdState n) = 1 then inc 32 (Obj.holdChanges n) s else s))).dict := rfl

section
variable {addr e : Nat} (he : e < 2 ^ 24)
include he

theorem rdE_wr_ne {a : Nat} (v : Nat) (s : State) (h : addr ≠ a) : (wr a v s).rdE addr e = s.rdE addr e := by
  rw [wr, rdE_wrE s v (Nat.two_pow_pos 24) he, if_neg (fun h' => h h'.1.symm)]

theorem rdE_inc_ne {a : Nat} (w : Nat) (s : State) (h : addr ≠ a) : (inc w a s).rdE addr e = s.rdE addr e :=
  rdE_wr_ne he _ s h

theorem holdPair_rdE {n : Nat} (c : Nat) (s : State) (ha : addr ∉ holdObjects n) :
    (holdPair n c s).rdE addr e = s.rdE addr e := by
  obtain ⟨hstate, hcause, hchanges⟩ := not_mem_holdObjects_iff.mp ha
  rw [rdE_congr (holdPair_dict n c s), rdE_wr_ne he _ _ hcause, rdE_wr_ne he _ _ hstate]
  split
  · exact rdE_inc_ne he 32 s hchanges
  · rfl

theorem forceHold_rdE (c : Nat) (s : State) (ha : 0x700000 ≤ addr) : (forceHold c s).rdE addr e = s.rdE addr e :=
  List.foldlRecOn (motive := fun t : State => t.rdE addr e = s.rdE addr e) _ _ rfl fun t ht _ hn =>
    (holdPair_rdE he c t (not_mem_holdObjects (List.mem_range.mp hn) ha)).trans ht

theorem movePair_rdE {n : Nat} (w : DemandWord) (s : State) (ha : addr ∉ holdObjects n) :
    (movePair w n s).rdE addr e = s.rdE addr e := by
  obtain ⟨hstate, hcause, hchanges⟩ := not_mem_holdObjects_iff.mp ha
  unfold movePair
  split
  · exact holdPair_rdE he 6 s ha
  · split
    · exact holdPair_rdE he 1 s ha
    · split
      · rfl
      · dsimp only
        split
        · rw [rdE_inc_ne he _ _ hchanges, rdE_wr_ne he _ _ hcause, rdE_wr_ne he _ _ hstate, rdE_congr (updHold_dict ..)]
        · rw [rdE_wr_ne he _ _ hcause, rdE_congr (updHold_dict ..)]

theorem movePairs_rdE (w : DemandWord) (s : State) (ha : 0x700000 ≤ addr) :
    ((List.range 16).foldl (fun s n => movePair w n s) s).rdE addr e = s.rdE addr e :=
  List.foldlRecOn (motive := fun t : State => t.rdE addr e = s.rdE addr e) _ _ rfl fun t ht _ hn =>
    (movePair_rdE he w t (not_mem_holdObjects (List.mem_range.mp hn) ha)).trans ht

end

theorem holdPair_state (n c : Nat) (s : State) : (holdPair n c s).rd (Obj.holdState n) = 0 := by
  have hne : Obj.holdState n ≠ Obj.holdCause n := by simp
  show (holdPair n c s).rdE (Obj.holdState n) 0 = 0
  rw [rdE_congr (holdPair_dict n c s), rdE_wr_ne (Nat.two_pow_pos 24) _ _ hne, wr, rdE_wrE_same]

/-- Driving other pairs to HOLD leaves the state of pair n alone. -/
theorem holdPairs_state_of_not_mem {n c : Nat} {l : List Nat} (hn : n ∉ l) (s : State) :
    (l.foldl (fun s n => holdPair n c s) s).rd (Obj.holdState n) = s.rd (Obj.holdState n) :=
  List.foldlRecOn (motive := fun t : State => t.rd (Obj.holdState n) = s.rd (Obj.holdState n)) _ _ rfl fun t ht m hm =>
    (holdPair_rdE (Nat.two_pow_pos 24) c t (holdState_not_mem_holdObjects (fun h : n = m => hn (h ▸ hm)))).trans ht

theorem holdPairs_state {n c : Nat} {l : List Nat} (hn : n ∈ l) : ∀ s : State,
    (l.foldl (fun s n => holdPair n c s) s).rd (Obj.holdState n) = 0 := by
  induction l with
  | nil => cases hn
  | cons m l ih =>
    intro s
    rw [List.foldl_cons]
    by_cases hl : n ∈ l
    · exact ih hl _
    · obtain rfl : n = m := (List.mem_cons.mp hn).resolve_right hl
      rw [holdPairs_state_of_not_mem hl, holdPair_state]

/-- Forcing leaves every pair in HOLD (R327). -/
theorem forceHold_state {n : Nat} (hn : n < 16) (c : Nat) (s : State) : (forceHold c s).rd (Obj.holdState n) = 0 :=
  holdPairs_state (List.mem_range.mpr hn) s

theorem holdPair_tripped (n c : Nat) (s : State) : (holdPair n c s).hold.tripped = s.hold.tripped := by
  unfold holdPair; dsimp only; split <;> rfl

theorem forceHold_tripped (c : Nat) (s : State) : (forceHold c s).hold.tripped = s.hold.tripped :=
  foldl_keeps (fun n s => holdPair n c s) (fun s => s.hold.tripped) (fun n s => holdPair_tripped n c s) (List.range 16) s

theorem forceHold_reacts (c : Nat) (s : State) : (forceHold c s).reacts = s.reacts :=
  forceHold_keeps State.reacts (fun _ _ => rfl) (fun _ _ => rfl) (fun _ _ => rfl) c s

theorem forceHold_byteAt (c : Nat) (s : State) (a : Nat) : (forceHold c s).byteAt a = s.byteAt a :=
  forceHold_keeps (fun s => s.byteAt a) (fun _ _ => rfl) (fun _ _ => rfl) (fun _ _ => rfl) c s

/-! ### What a detection leaves -/

/-- What a new detection leaves before its reactions: its record, and the HOLD pairs forced where its source forces them. -/
def recordedAndForced (b i : Nat) (s : State) : State :=
  if forcesHold b i then forceHold 5 (recordDetection b i s) else recordDetection b i s

section
variable {b i : Nat} {s : State}

/-- A detection that is made repeats one that still stands, or is new, with or without a reaction that then waits (R473). -/
theorem detect_made (hd : s.canDetect b i = true) :
    detect b i s = recordDetection b i s ∨ detect b i s = recordedAndForced b i s ∨
      detect b i s = { recordedAndForced b i s with reacts := (recordedAndForced b i s).reacts ++ [(b, i)] } := by
  rw [detect, if_pos hd]
  by_cases hwas : s.sticky b i = true
  · exact .inl (if_pos hwas)
  · right
    by_cases hr : (recordedAndForced b i s).rdE (Obj.faultReact b) i % 16 = 0
    · exact .inl ((if_neg hwas).trans (if_pos hr))
    · exact .inr ((if_neg hwas).trans (if_neg hr))

theorem recordDetection_reacts : (recordDetection b i s).reacts = s.reacts :=
  recordDetection_keeps State.reacts (fun _ _ => rfl) b i s

theorem recordedAndForced_reacts : (recordedAndForced b i s).reacts = s.reacts := by
  unfold recordedAndForced
  split
  · rw [forceHold_reacts, recordDetection_reacts]
  · exact recordDetection_reacts

/-- At most the detection itself joins the reactions that wait (R473). -/
theorem detect_reacts (b i : Nat) (s : State) :
    (detect b i s).reacts = s.reacts ∨ (detect b i s).reacts = s.reacts ++ [(b, i)] := by
  cases hd : s.canDetect b i with
  | false => rw [detect_none hd]; exact .inl rfl
  | true =>
    rcases detect_made hd with h | h | h
    · exact .inl ((congrArg State.reacts h).trans recordDetection_reacts)
    · exact .inl ((congrArg State.reacts h).trans recordedAndForced_reacts)
    · exact .inr ((congrArg State.reacts h).trans (congrArg (· ++ [(b, i)]) recordedAndForced_reacts))

theorem detect_hold (hf : forcesHold b i = false) : (detect b i s).hold = s.hold := by
  have hrec : (recordDetection b i s).hold = s.hold := recordDetection_keeps State.hold (fun _ _ => rfl) b i s
  have hall : recordedAndForced b i s = recordDetection b i s := by rw [recordedAndForced, hf, if_neg Bool.false_ne_true]
  cases hd : s.canDetect b i with
  | false => rw [detect_none hd]
  | true =>
    rcases detect_made hd with h | h | h
    · rw [h, hrec]
    · rw [h, hall, hrec]
    · rw [h, hall]; exact hrec

/-- Among the fault objects a detection that is made reads as its record does: forcing the HOLD pairs touches none. -/
theorem detect_rdE_recorded {addr e : Nat} (hd : s.canDetect b i = true) (he : e < 2 ^ 24)
    (ha : 0x700000 ≤ addr) : (detect b i s).rdE addr e = (recordDetection b i s).rdE addr e := by
  have hforce : (recordedAndForced b i s).rdE addr e = (recordDetection b i s).rdE addr e := by
    unfold recordedAndForced
    split
    · exact forceHold_rdE he 5 _ ha
    · rfl
  rcases detect_made hd with h | h | h
  · rw [h]
  · rw [h, hforce]
  · rw [h]; exact hforce

/-- Beyond its own record a detection changes no fault object. -/
theorem detect_rdE {addr e : Nat} (hi : i < 2 ^ 24) (he : e < 2 ^ 24) (ha : 0x700000 ≤ addr)
    (hr : addr ∉ faultRecord b) : (detect b i s).rdE addr e = s.rdE addr e := by
  cases hd : s.canDetect b i with
  | false => rw [detect_none hd]
  | true => rw [detect_rdE_recorded hd he ha]; exact (recordDetection_framed s hi).rdE he hr

theorem recordDetection_sourceCount (hi : i < 2 ^ 24) :
    (recordDetection b i s).rdE (Obj.faultSourceCount b) i = satTo 16 (s.rdE (Obj.faultSourceCount b) i + 1) := by
  have hcount : ∀ a ∈ [Obj.faultSticky b, Obj.faultCount b, Obj.faultLastSource b, Obj.faultLastStep b, Obj.faultLastTime b,
      Obj.faultFirstSource b, Obj.faultFirstStep b], Obj.faultSourceCount b ≠ a := by simp
  simp only [List.forall_mem_cons] at hcount
  obtain ⟨hsticky, hcnt, hlast, hstep, htime, hfirst, hfstep, -⟩ := hcount
  unfold recordDetection
  dsimp only
  rw [rdE_wr_ne hi _ _ htime, rdE_wr_ne hi _ _ hstep, rdE_wr_ne hi _ _ hlast, satE, rdE_wrE_same, rdE_inc_ne hi _ _ hcnt,
    rdE_wr_ne hi _ _ hsticky]
  split
  · rw [rdE_wr_ne hi _ _ hfstep, rdE_wr_ne hi _ _ hfirst]
  · rfl

/-- A detection counts once for its source, up to the counter's limit (R471). -/
theorem detect_sourceCount (hd : s.canDetect b i = true) (hi : i < 2 ^ 24) :
    (detect b i s).rdE (Obj.faultSourceCount b) i = satTo 16 (s.rdE (Obj.faultSourceCount b) i + 1) := by
  rw [detect_rdE_recorded hd hi (by show 0x700000 ≤ 0x70000A + _; omega), recordDetection_sourceCount hi]

end

/-! ### Reactions that reset nothing -/

/-- From `s` to `t` at most interrupts were logged: the objects, the HOLD parts, the waiting reactions and every byte
outside the boot record are as they were. -/
structure OnlyLogged (s t : State) : Prop where
  dict : t.dict = s.dict
  hold : t.hold = s.hold
  reacts : t.reacts = s.reacts
  bytes : ∀ a, a < bootRecord ∨ bootRecord + 0x1000 ≤ a → t.byteAt a = s.byteAt a

theorem OnlyLogged.refl (s : State) : OnlyLogged s s := ⟨rfl, rfl, rfl, fun _ _ => rfl⟩

theorem OnlyLogged.trans {s t u : State} (h : OnlyLogged s t) (h' : OnlyLogged t u) : OnlyLogged s u where
  dict := h'.dict.trans h.dict
  hold := h'.hold.trans h.hold
  reacts := h'.reacts.trans h.reacts
  bytes a ha := (h'.bytes a ha).trans (h.bytes a ha)

theorem leBytes_length (k : Nat) : ∀ n, (leBytes k n).length = k := by
  induction k with
  | zero => intro n; rfl
  | succ k ih => intro n; rw [leBytes, List.length_cons, ih]

/-- A write of bytes within the boot record. -/
theorem putBytes_onlyLogged {a : Nat} {l : List Byte} (s : State) (hlo : bootRecord ≤ a)
    (hhi : a + l.length ≤ bootRecord + 0x1000) : OnlyLogged s (putBytes a l s) where
  dict := by rw [putBytes_frame]
  hold := by rw [putBytes_frame]
  reacts := by rw [putBytes_frame]
  bytes a' ha := by rw [byteAt_putBytes, if_neg (by omega)]

/-- The log's 480 entries and its count lie within the boot record (R508). -/
theorem logInterrupt_onlyLogged (b i kind : Nat) (s : State) : OnlyLogged s (logInterrupt b i kind s) := by
  unfold logInterrupt
  split
  · refine .trans (putBytes_onlyLogged s (by omega) ?_) (putBytes_onlyLogged _ (by omega) ?_)
    · simp only [List.length_append, leBytes_length]; omega
    · rw [leBytes_length]; omega
  · exact .refl s

theorem logInterrupts_onlyLogged (kind : Nat) (rs : List (Nat × Nat)) (s : State) :
    OnlyLogged s (rs.foldl (fun s r => logInterrupt r.1 r.2 kind s) s) :=
  List.foldlRecOn (motive := OnlyLogged s) _ _ (.refl s) fun t ht r _ => ht.trans (logInterrupt_onlyLogged r.1 r.2 kind t)

/-- The routing of a source without bits 2 and 3 resets neither its block nor the chip. -/
theorem reacts?_reset_false {s : State} {r : Nat × Nat} {k : Nat} (h : s.rdE (Obj.faultReact r.1) r.2 % 16 < 4)
    (hlo : 2 ≤ k) (hhi : k < 4) : s.reacts? k r = false := by
  have hbit : (s.rdE (Obj.faultReact r.1) r.2 % 2 ^ 4).testBit k = false :=
    Nat.testBit_lt_two_pow (Nat.lt_of_lt_of_le h (Nat.pow_le_pow_right Nat.two_pos hlo))
  rwa [Nat.testBit_mod_two_pow, decide_eq_true hhi, Bool.true_and] at hbit

/-- A round whose sources are routed to no reset logs interrupts and does no more. -/
theorem reactRound_onlyLogged {rs : List (Nat × Nat)} {s : State}
    (h : ∀ r ∈ rs, s.rdE (Obj.faultReact r.1) r.2 % 16 < 4) : OnlyLogged s (reactRound rs s) := by
  unfold reactRound
  extract_lets u v blocks
  have hlog : OnlyLogged s v := (logInterrupts_onlyLogged 0 _ s).trans (logInterrupts_onlyLogged 1 _ u)
  have hno (k : Nat) (hlo : 2 ≤ k) (hhi : k < 4) : ∀ r ∈ rs, ¬v.reacts? k r = true := fun r hr => by
    rw [reacts?_reset_false (by rw [rdE_congr hlog.dict]; exact h r hr) hlo hhi]
    exact Bool.false_ne_true
  have hchip : rs.find? (v.reacts? 3) = none := List.find?_eq_none.mpr (hno 3 (by decide) (by decide))
  have hblocks : blocks = [] := by
    show dedup ((rs.filter (v.reacts? 2)).map (·.1)) = []
    rw [List.filter_eq_nil_iff.mpr (hno 2 (by decide) (by decide))]; rfl
  rw [hchip, hblocks]
  exact hlog

theorem reactFuel_quiet (n : Nat) {s : State} (h : s.quiet) : reactFuel n s = s := by
  cases n with
  | zero => rfl
  | succ n => rw [reactFuel, h]; rfl

/-- Reactions routed to no reset end after one round of interrupts. -/
theorem react_onlyLogged {s : State} (h : ∀ r ∈ s.reacts, s.rdE (Obj.faultReact r.1) r.2 % 16 < 4) :
    OnlyLogged { s with reacts := [] } (react s) := by
  cases hr : s.reacts with
  | nil => rw [react_quiet hr]; exact ⟨rfl, rfl, hr, fun _ _ => rfl⟩
  | cons r rs =>
    have hlog : OnlyLogged { s with reacts := [] } (reactRound s.reacts { s with reacts := [] }) := reactRound_onlyLogged h
    have hne : s.reacts.isEmpty = false := by rw [hr]; rfl
    rw [react, hne, if_neg Bool.false_ne_true, reactFuel, hne, if_neg Bool.false_ne_true, reactFuel_quiet 15 hlog.reacts]
    exact hlog

/-! ### The watchdog -/

/-- The watchdog trips, before it forces the pairs (R328). -/
def watchdogTripped (s : State) : State :=
  s |> updHold (fun h => { h with tripped := true }) |> inc 32 Obj.paddockWatchdogTrips |> detect padBlock Src.padWatchdog

theorem holdWatchdog_due {s u : State} (ht : s.hold.tripped = false) (hf : s.hold.everFused = true)
    (hu : s.dueAt (s.hold.lastAt + s.pair 16 Obj.paddockWatchdog 0 * s.periodUs * 1000 * nsUnit) = some u) :
    holdWatchdog s = forceHold (if (watchdogTripped u).holdForced then 5 else 4) (watchdogTripped u) := by
  have harmed : ¬(s.hold.tripped || !s.hold.everFused) = true := by rw [ht, hf]; exact Bool.false_ne_true
  rw [holdWatchdog, if_neg harmed, hu]
  rfl

theorem watchdogTripped_tripped (s : State) : (watchdogTripped s).hold.tripped = true := by
  rw [watchdogTripped, detect_hold (by decide)]; rfl

theorem watchdogTripped_byteAt (s : State) (a : Nat) : (watchdogTripped s).byteAt a = s.byteAt a := detect_byteAt ..

theorem watchdogTripped_react (s : State) {e : Nat} (he : e < 2 ^ 24) :
    (watchdogTripped s).rdE (Obj.faultReact padBlock) e = s.rdE (Obj.faultReact padBlock) e := by
  rw [watchdogTripped, detect_rdE (by decide) he (by decide) (by decide)]
  exact rdE_wr_ne he _ _ (by decide)

theorem watchdogTripped_reacts {s : State} (hq : s.quiet) : ∀ r ∈ (watchdogTripped s).reacts, r = (padBlock, Src.padWatchdog) := by
  intro r hr
  rcases detect_reacts padBlock Src.padWatchdog (inc 32 Obj.paddockWatchdogTrips (updHold _ s)) with h | h
  · rw [watchdogTripped, h] at hr
    exact absurd (hq ▸ hr : r ∈ ([] : List (Nat × Nat))) List.not_mem_nil
  · rw [watchdogTripped, h] at hr
    exact List.mem_singleton.mp (hq ▸ hr : r ∈ [] ++ [(padBlock, Src.padWatchdog)])

/-- Settles O21: the trip forces the pairs, and the reactions that follow only log. -/
theorem watchdogForcesHold : Obligations.WatchdogForcesHold := by
  intro s u hp hq ht hf hu hreact
  have hframe : Framed [] s u := .dueAt hu
  have hq' : u.quiet := hframe.reacts.trans hq
  have hrun := run_powered holdWatchdog hp
  rw [holdWatchdog_due ht hf hu] at hrun
  generalize (if (watchdogTripped u).holdForced then 5 else 4) = cause at hrun
  have hlog : OnlyLogged { forceHold cause (watchdogTripped u) with reacts := [] } (react (forceHold cause (watchdogTripped u))) := by
    refine react_onlyLogged fun r hr => ?_
    rw [forceHold_reacts] at hr
    obtain rfl := watchdogTripped_reacts hq' r hr
    rw [forceHold_rdE (by decide) _ _ (by decide), watchdogTripped_react u (by decide), hframe.rdE (by decide) List.not_mem_nil]
    exact hreact
  refine ⟨_, hrun, ?_, fun n hn => ?_, fun a ha => ?_⟩
  · exact (congrArg HoldD0.tripped hlog.hold).trans ((forceHold_tripped ..).trans (watchdogTripped_tripped u))
  · exact (rdE_congr hlog.dict _ 0).trans (forceHold_state hn ..)
  · calc (outside s (react (forceHold cause (watchdogTripped u)))).byteAt a
        = (forceHold cause (watchdogTripped u)).byteAt a := hlog.bytes a ha
      _ = (watchdogTripped u).byteAt a := forceHold_byteAt ..
      _ = u.byteAt a := watchdogTripped_byteAt u a
      _ = s.byteAt a := by rw [State.byteAt, hframe.mem]; rfl

/-! ### Results -/

/-- The word as it arrives with bits in error on the way (R329). -/
def DemandWord.withErrors (w : DemandWord) (dErr cErr sErr rErr : Nat) : DemandWord :=
  { w with demand := (w.demand ^^^ dErr) % 2 ^ 16, complement := (w.complement ^^^ cErr) % 2 ^ 16,
           step8 := (w.step8 ^^^ sErr) % 2 ^ 8, rearm := (w.rearm ^^^ rErr) % 2, rearmN := (w.rearmN ^^^ rErr / 2) % 2 }

/-- What D0 finds wrong with a word (R329). -/
def DemandWord.bad (w : DemandWord) (ref : Option Nat) : Bool :=
  w.demand + w.complement != 0xFFFF || w.rearm == w.rearmN
    || (w.rearm == 0 && ref.any (fun r => w.step8 != (r + 1) % 256))

/-- D0 takes the word: the previous result is now this one, and the watchdog is re-armed. -/
def noteResult (w : DemandWord) (now : Nat) (s : State) : State :=
  updHold (fun h => { h with link := none, ref := some w.step8, lastAt := now, tripped := false, everFused := true }) s

theorem noteResult_dict (w : DemandWord) (now : Nat) (s : State) : (noteResult w now s).dict = s.dict := rfl
theorem noteResult_holdForced (w : DemandWord) (now : Nat) (s : State) : (noteResult w now s).holdForced = s.holdForced := rfl

/-- D0 drives the pairs by the word, unless something forces them (R327, R328). -/
def drivePairs (w : DemandWord) (s : State) : State :=
  if s.holdForced then forceHold 5 s else (List.range 16).foldl (fun s n => movePair w n s) s

theorem holdResult_link {s : State} {w : DemandWord} (hl : s.hold.link = some w) (dErr cErr sErr rErr : Nat) :
    holdResult dErr cErr sErr rErr s = (let v := w.withErrors dErr cErr sErr rErr
      s |> detectIf (v.bad s.hold.ref) padBlock Src.padPairPath |> noteResult v s.now
        |> checkPair 16 Obj.paddockWatchdog 0 |> drivePairs v) := by
  rw [holdResult, hl]
  dsimp only [DemandWord.bad]
  cases s.hold.ref <;> rfl

/-- A word of fields that fit arrives as it was sent where no bit is in error. -/
theorem DemandWord.withErrors_zero {w : DemandWord} (hd : w.demand < 2 ^ 16) (hc : w.complement < 2 ^ 16)
    (hs : w.step8 < 256) (hr : w.rearm < 2) (hn : w.rearmN < 2) : w.withErrors 0 0 0 0 = w := by
  simp only [withErrors, Nat.xor_zero, Nat.zero_div, Nat.mod_eq_of_lt hd, Nat.mod_eq_of_lt hc,
    Nat.mod_eq_of_lt (show w.step8 < 2 ^ 8 from hs), Nat.mod_eq_of_lt hr, Nat.mod_eq_of_lt hn]

theorem DemandWord.bad_false {w : DemandWord} {ref : Option Nat} (hc : w.demand + w.complement = 0xFFFF)
    (hr : w.rearm ≠ w.rearmN) (hseq : ∀ r, ref = some r → w.rearm = 0 → w.step8 = (r + 1) % 256) : w.bad ref = false := by
  have hstep : (w.rearm == 0 && ref.any (fun r => w.step8 != (r + 1) % 256)) = false := by
    rw [Bool.and_eq_false_imp, beq_iff_eq]
    intro h0
    cases ref with
    | none => rfl
    | some r => rw [Option.any_some, hseq r rfl h0, bne_self_eq_false]
  rw [bad, hstep, hc, bne_self_eq_false, beq_eq_false_iff_ne.mpr hr]; rfl

theorem drivePairs_unforced (w : DemandWord) {s : State} (h : s.holdForced = false) :
    drivePairs w s = (List.range 16).foldl (fun s n => movePair w n s) s := by rw [drivePairs, h, if_neg Bool.false_ne_true]

/-- Settles O19: the word arrives as it was sent, nothing is wrong with it, and nothing forces the pairs. -/
theorem holdResultMovesPairs : Obligations.HoldResultMovesPairs := by
  intro s w hp hl hd hc hs hr hn hseq hpair hforced
  have hsent : w.withErrors 0 0 0 0 = w := DemandWord.withErrors_zero hd (by omega) hs hr (by omega)
  have hgood : w.bad s.hold.ref = false := DemandWord.bad_false (by omega) (by omega) hseq
  have heffect : holdResult 0 0 0 0 s = drivePairs w (noteResult w s.now s) := by
    rw [holdResult_link hl, hsent]
    dsimp only
    rw [hgood, detectIf_false, checkPair_ok (s := noteResult w s.now s) hpair]
  have hrun := run_powered (holdResult 0 0 0 0) hp
  rw [heffect, drivePairs_unforced w ((noteResult_holdForced ..).trans hforced)] at hrun
  exact hrun

/-! ### Faults of the path -/

/-- A demand half with bits in error does not fit its complement. -/
theorem DemandWord.withErrors_bad {w : DemandWord} {e : Nat} (hd : w.demand < 2 ^ 16) (hc : w.complement = 0xFFFF - w.demand)
    (he : e % 2 ^ 16 ≠ 0) (ref : Option Nat) : (w.withErrors e 0 0 0).bad ref = true := by
  have hchanged : (w.demand ^^^ e) % 2 ^ 16 ≠ w.demand := by
    intro h
    rw [Nat.xor_mod_two_pow, Nat.mod_eq_of_lt hd] at h
    have hzero : e % 2 ^ 16 = 0 := by
      calc e % 2 ^ 16 = w.demand ^^^ (w.demand ^^^ e % 2 ^ 16) := by rw [← Nat.xor_assoc, Nat.xor_self, Nat.zero_xor]
        _ = 0 := by rw [h, Nat.xor_self]
    exact he hzero
  have hkept : (w.complement ^^^ 0) % 2 ^ 16 = w.complement := by rw [Nat.xor_zero]; omega
  have hsum : (w.demand ^^^ e) % 2 ^ 16 + w.complement ≠ 0xFFFF := by omega
  simp only [bad, withErrors, hkept, bne_iff_ne.mpr hsum, Bool.true_or]

section
variable {addr e : Nat} (he : e < 2 ^ 24) (ha : 0x700000 ≤ addr)
include he ha

theorem drivePairs_rdE (w : DemandWord) (s : State) : (drivePairs w s).rdE addr e = s.rdE addr e := by
  unfold drivePairs
  split
  · exact forceHold_rdE he 5 s ha
  · exact movePairs_rdE he w s ha

theorem checkPair_rdE {w a k : Nat} (s : State) (hr : addr ∉ faultRecord dictBlock) :
    (checkPair w a k s).rdE addr e = s.rdE addr e := by
  unfold checkPair detectIf
  split
  · exact detect_rdE (by split <;> decide) he ha hr
  · rfl

end

/-- Source PAIR_PATH lies in D0, which has power. -/
theorem canDetect_pairPath (s : State) : s.canDetect padBlock Src.padPairPath = true := by
  rw [State.canDetect, show inD0 padBlock Src.padPairPath = true by decide, Bool.true_or, Bool.and_true]
  decide

theorem holdResult_broken {s : State} {w : DemandWord} {e : Nat} (hl : s.hold.link = some w) (hd : w.demand < 2 ^ 16)
    (hc : w.complement = 0xFFFF - w.demand) (he : e % 2 ^ 16 ≠ 0) :
    (holdResult e 0 0 0 s).rdE (Obj.faultSourceCount padBlock) Src.padPairPath
      = satTo 16 (s.rdE (Obj.faultSourceCount padBlock) Src.padPairPath + 1) := by
  have hsrc : Src.padPairPath < 2 ^ 24 := by decide
  have haddr : 0x700000 ≤ Obj.faultSourceCount padBlock := by decide
  rw [holdResult_link hl]
  dsimp only
  rw [drivePairs_rdE hsrc haddr, checkPair_rdE hsrc haddr _ (by decide), DemandWord.withErrors_bad hd hc he, detectIf_true,
    rdE_congr (noteResult_dict ..), detect_sourceCount (canDetect_pairPath s) hsrc]

theorem holdReadback_long {pair ns : Nat} (s : State) (hp : pair < 16) (hns : 5000 < ns) :
    holdReadback pair ns s = detect padBlock Src.padPinReadback s := by
  rw [holdReadback, decide_eq_true hp, decide_eq_true hns]; rfl

theorem holdReadback_short (pair : Nat) {ns : Nat} (s : State) (hns : ns ≤ 5000) : holdReadback pair ns s = s := by
  rw [holdReadback, decide_eq_false (Nat.not_lt.mpr hns), Bool.and_false, detectIf_false]

/-- Settles O20: the broken word, then the two sides of the 5 µs. -/
theorem holdFaultsComplete : Obligations.HoldFaultsComplete := by
  refine ⟨fun s w e hp hl hd hc he => ?_, fun s pair ns negative hp hpair => ?_⟩
  · exact ⟨_, run_powered (holdResult e 0 0 0) hp, holdResult_broken hl hd hc he⟩
  · have hrun := runIf_powered (holdReadback pair ns) (decide_eq_true hpair) hp
    refine ⟨fun hlong => ?_, fun hshort => ?_⟩
    · rw [holdReadback_long s hpair hlong] at hrun; exact hrun
    · rw [holdReadback_short pair s hshort] at hrun; exact hrun

end Sys2Proof.Machine
end

section
/-! ## Barrow channels: what they refuse, and a poisoned read of host memory -/
namespace Sys2Proof.Machine
open Sys2Proof

/-! ### The commands of a channel -/

/-- A command of channel c that answers `a` and leaves `t` (R359). -/
theorem runChan_answers {c a : Nat} {f : State → Nat × State} {s t : State} (hc : c < 256) (hp : s.powered) (hs : s.serving)
    (hf : f s = (a, t)) : runIf (c < 256) (serverDo (fun s => withDetail Obj.chanCmd (f s))) s
      = .next (after s (answered a (abortAt a Obj.chanCmd).2 t)) := by
  obtain ⟨hup, hfree⟩ := hs
  rw [runIf_powered _ (decide_eq_true hc) hp, serverDo_serving _ hup hfree, hf, withDetail, abortAt_code]

section
variable {c : Nat} {s : State}

theorem chanStart_busy (h : s.chanState c ≠ 0) : chanStart c s = (Ab.blockRunning, s) := if_pos h

theorem chanPause_stopping (h : s.chanState c = 5) : chanPause c s = (Ab.blockRunning, s) := if_pos h
theorem chanPause_inactive (h1 : s.chanState c ≠ 1) (h2 : s.chanState c ≠ 2) (h5 : s.chanState c ≠ 5) :
    chanPause c s = (Ab.valueRange, s) := by rw [chanPause, if_neg h5, if_neg h2, if_neg h1]

theorem chanResume_stopping (h : s.chanState c = 5) : chanResume c s = (Ab.blockRunning, s) := if_pos h
theorem chanResume_unpaused (h4 : s.chanState c ≠ 4) (h5 : s.chanState c ≠ 5) : chanResume c s = (Ab.valueRange, s) := by
  rw [chanResume, if_neg h5, if_neg h4]

theorem chanStop_stopping (h : s.chanState c = 5) : chanStop c s = (Ab.blockRunning, s) := if_pos h

/-! ### Writes of the descriptor and of the trough -/

/-- A number that fits its object reaches the object: it exists, is writable, and the value is in range (R64, R535). -/
theorem objectWrite_ok {addr e n : Nat} {o : ObjRow} (hd : isDiag addr = false) (ho : findObj addr = .found o)
    (ht : ¬(o.ty = .str ∨ o.ty = .domain)) (he : o.inRange e 1 = true) (hw : o.writable addr = true)
    (hn : n < 2 ^ (8 * o.ty.size)) (hok : elemAbort o (.num n) = Ab.ok) :
    objectWrite addr e [n] s = writeValues hostWriter addr o e [.num n] s := by
  have hvals : valuesAbort o [.num n] = Ab.ok := by rw [valuesAbort, List.map_singleton, hok]; rfl
  simp only [objectWrite, hd, ho, if_neg ht, List.length_singleton, he, hw, Bool.not_true, Bool.false_eq_true, if_false,
    List.map_singleton, Nat.mod_eq_of_lt hn, hvals, bne_self_eq_false]

/-- R359: a channel that is not IDLE holds its descriptor and its trough. -/
theorem writeValues_chanHeld {addr n : Nat} {o : ObjRow} (ha : addr = Obj.chanDesc ∨ addr = Obj.chanTrough)
    (h : s.chanState c ≠ 0) :
    writeValues hostWriter addr o c [.num n] s = ((Ab.blockRunning, addr), s) := by
  have hobj : (addr == Obj.chanDesc || addr == Obj.chanTrough) = true := by
    rw [Bool.or_eq_true, beq_iff_eq, beq_iff_eq]; exact ha
  have hheld : s.chanHeld addr c [Val.num n].length = true := by
    rw [State.chanHeld, hobj, Bool.true_and, List.any_eq_true]
    exact ⟨0, List.mem_range.mpr Nat.one_pos, bne_iff_ne.mpr h⟩
  rw [writeValues, writeChunks, if_pos hheld]

theorem inRange_channel {o : ObjRow} (ho : o.cnt = 256) (hc : c < 256) : o.inRange c 1 = true := by
  rw [ObjRow.inRange, ho, decide_eq_true (show c + 1 ≤ 256 from hc)]; rfl

theorem objectWrite_chanDesc {a : Nat} (hc : c < 256) (ha : a < 2 ^ 64) (h : s.chanState c ≠ 0) :
    objectWrite Obj.chanDesc c [a] s = ((Ab.blockRunning, Obj.chanDesc), s) := by
  have ho : findObj Obj.chanDesc = .found ⟨0x01, 1, .u64, true, 256, .rw, .num 0, .any, 0⟩ := rfl
  rw [objectWrite_ok (by decide) ho (by decide) (inRange_channel rfl hc) (by decide) ha rfl, writeValues_chanHeld (.inl rfl) h]

theorem objectWrite_chanTrough {t : Nat} (hc : c < 256) (ht : t < 16384 ∨ t = 0xFFFF) (h : s.chanState c ≠ 0) :
    objectWrite Obj.chanTrough c [t] s = ((Ab.blockRunning, Obj.chanTrough), s) := by
  let o : ObjRow := ⟨0x02, 1, .u16, true, 256, .rwb, .num 65535, .trough, 0⟩
  have ho : findObj Obj.chanTrough = .found o := rfl
  have hfits : t < 2 ^ 16 := by omega
  have hrange : Rng.trough.ok 16 (t % 2 ^ 16) = true := by
    rw [Nat.mod_eq_of_lt hfits, Rng.ok, Bool.or_eq_true, decide_eq_true_eq, beq_iff_eq]; omega
  have hok : elemAbort o (.num t) = Ab.ok := by
    show (if !Rng.trough.ok 16 (t % 2 ^ 16) then Ab.valueRange else Ab.ok) = Ab.ok
    rw [hrange]; rfl
  rw [objectWrite_ok (by decide) ho (by decide) (inRange_channel rfl hc) (by decide) hfits hok,
    writeValues_chanHeld (.inr rfl) h]

end

/-- Settles O53: the commands by the state of the channel, and the two writes that it holds off. -/
theorem channelRefusals : Obligations.ChannelRefusals := by
  intro c s hc hp
  refine ⟨fun hs => ⟨fun h => ?_, fun h1 h2 h5 => ?_, fun h4 h5 => ?_, fun h => ⟨?_, ?_, ?_⟩⟩,
    fun hs hsig h => ⟨fun a ha => ?_, fun t ht => ?_⟩⟩
  · exact runChan_answers hc hp hs (chanStart_busy h)
  · exact runChan_answers hc hp hs (chanPause_inactive h1 h2 h5)
  · exact runChan_answers hc hp hs (chanResume_unpaused h4 h5)
  · exact runChan_answers hc hp hs (chanPause_stopping h)
  · exact runChan_answers hc hp hs (chanResume_stopping h)
  · exact runChan_answers hc hp hs (chanStop_stopping h)
  · have hrun := runPower_hostDo_open (objectWrite Obj.chanDesc c [a]) hp hs hsig
    rw [objectWrite_chanDesc hc ha h] at hrun
    exact hrun
  · have hrun := runPower_hostDo_open (objectWrite Obj.chanTrough c [t]) hp hs hsig
    rw [objectWrite_chanTrough hc ht h] at hrun
    exact hrun

/-! ### A poisoned read of host memory -/

/-- A descriptor that copies 64 bytes of host memory to the start of the loft. -/
def hostCopy : Desc := ⟨0x2000000000, 0x1000000000, 64, 0, 0, 0, 0, 0, 0⟩
/-- D1 and D2 are ON, the host window is open, and channel 0 is RUNNING with that descriptor. -/
def movingFromHost : State :=
  State.reset |> wr (Obj.domainState 1) 2 |> wr (Obj.domainState 2) 2 |> wr Obj.hostLinkState 3 |> setChan 0 2
    |> updChan 0 (fun ch => { ch with desc := some hostCopy }) |> updEngine 0 (fun e => { e with running := some 0 })

/-- What the model leaves where poison arrives before the first byte is moved: the host link counts it. -/
def poisonedEnd : State := endMove 0 (.readUncorrectable 0) movingFromHost
/-- What O34 says of the same end: the channel's part alone. -/
def poisonedEndOfChannel : State :=
  let moved := movingFromHost.moveLimit 0 hostCopy 0
  movingFromHost |> advanceMove 0 hostCopy moved |> undefineBytes hostCopy moved |> failChain 0 hostCopy moved 5 false

theorem movingFromHost_powered : movingFromHost.powered := rfl

theorem exec_poisonedEnd :
    exec (.descriptorEnd 0 (.readUncorrectable 0)) movingFromHost = .next (after movingFromHost poisonedEnd) :=
  runIf_powered (endMove 0 (.readUncorrectable 0)) (decide_eq_true (show 0 < 8 by decide)) movingFromHost_powered

theorem poisonedEnd_counted : (after movingFromHost poisonedEnd).rd Obj.hostPoisonedRx = 1 := by decide +kernel
theorem poisonedEndOfChannel_uncounted : (after movingFromHost poisonedEndOfChannel).rd Obj.hostPoisonedRx = 0 := by
  decide +kernel

/-- Refutes O34 in its clause of an uncorrectable read: it admits a source in host memory, where HOST.POISONED_RX counts the
poisoned read as well. -/
theorem not_barrowCompletes : ¬ Obligations.BarrowCompletes := by
  rintro ⟨-, hengines⟩
  obtain ⟨-, -, hread, -⟩ := hengines 0 movingFromHost (by decide) movingFromHost_powered
  have hclaim : exec (.descriptorEnd 0 (.readUncorrectable 0)) movingFromHost = .next (after movingFromHost poisonedEndOfChannel) :=
    hread 0 hostCopy 0 rfl rfl rfl rfl
  rw [exec_poisonedEnd] at hclaim
  have hcount : (1 : Nat) = 0 := by
    rw [← poisonedEnd_counted, Host.Outcome.next.inj hclaim, poisonedEndOfChannel_uncounted]
  cases hcount

end Sys2Proof.Machine
end

section
/-! ## The swap modes of the barrow -/
namespace Sys2Proof.Machine
open Sys2Proof

/-! ### The table of R351 -/

theorem swapUnit_pos (m : Nat) : 0 < swapUnit m := by
  unfold swapUnit
  split
  · decide
  · split
    · decide
    · split <;> decide

/-- Group after group takes its bytes from the same places. -/
theorem swapSource_add_unit {m : Nat} (hm : m ≤ 4) (i : Nat) :
    swapSource m (i + swapUnit m) = swapSource m i + swapUnit m := by
  obtain rfl | rfl | rfl | rfl | rfl : m = 0 ∨ m = 1 ∨ m = 2 ∨ m = 3 ∨ m = 4 := by omega
  · rfl
  · show (i + 2) / 2 * 2 + (1 - (i + 2) % 2) = i / 2 * 2 + (1 - i % 2) + 2; omega
  · show (i + 4) / 4 * 4 + (3 - (i + 4) % 4) = i / 4 * 4 + (3 - i % 4) + 4; omega
  · show (i + 8) / 8 * 8 + (7 - (i + 8) % 8) = i / 8 * 8 + (7 - i % 8) + 8; omega
  · show (i + 4) / 4 * 4 + ((i + 4) % 4 + 2) % 4 = i / 4 * 4 + (i % 4 + 2) % 4 + 4; omega

/-- Within the first group, modes 1 to 3 reverse the bytes. -/
theorem swapSource_reversed {m i : Nat} (hm : m = 1 ∨ m = 2 ∨ m = 3) (hi : i < swapUnit m) :
    swapSource m i = swapUnit m - 1 - i := by
  obtain rfl | rfl | rfl := hm
  · change i < 2 at hi; show i / 2 * 2 + (1 - i % 2) = 2 - 1 - i; omega
  · change i < 4 at hi; show i / 4 * 4 + (3 - i % 4) = 4 - 1 - i; omega
  · change i < 8 at hi; show i / 8 * 8 + (7 - i % 8) = 8 - 1 - i; omega

/-- The bytes of a group in a mode of the table. -/
theorem swapGroup_getD {m : Nat} {g : List Byte} (hm : m ≤ 4) (hg : g.length = swapUnit m) :
    (swapGroup m g).length = swapUnit m ∧
      ∀ i, i < swapUnit m → swapSource m i < swapUnit m ∧ (swapGroup m g).getD i 0 = g.getD (swapSource m i) 0 := by
  obtain rfl | hrev | rfl : m = 0 ∨ (m = 1 ∨ m = 2 ∨ m = 3) ∨ m = 4 := by omega
  · exact ⟨hg, fun i hi => ⟨hi, rfl⟩⟩
  · have hgroup : swapGroup m g = g.reverse := by rw [swapGroup, if_neg (by omega), if_neg (by omega)]
    refine ⟨by rw [hgroup, List.length_reverse, hg], fun i hi => ⟨by rw [swapSource_reversed hrev hi]; omega, ?_⟩⟩
    rw [hgroup, swapSource_reversed hrev hi, List.getD_eq_getElem?_getD, List.getD_eq_getElem?_getD,
      List.getElem?_reverse (by omega), hg]
  · obtain ⟨a, b, c, d, rfl⟩ : ∃ a b c d, g = [a, b, c, d] := by
      match g, hg with
      | [a, b, c, d], _ => exact ⟨a, b, c, d, rfl⟩
    refine ⟨rfl, fun i hi => ?_⟩
    match i, hi with
    | 0, _ | 1, _ | 2, _ | 3, _ => exact ⟨by decide, rfl⟩

/-! ### Bytes of the destination -/

section
variable {α : Type} {l : List α} (l' : List α) (d : α) {i : Nat}

theorem getD_append_of_lt (h : i < l.length) : (l ++ l').getD i d = l.getD i d := by
  rw [List.getD_eq_getElem?_getD, List.getD_eq_getElem?_getD, List.getElem?_append_left h]

theorem getD_append_of_le (h : l.length ≤ i) : (l ++ l').getD i d = l'.getD (i - l.length) d := by
  rw [List.getD_eq_getElem?_getD, List.getD_eq_getElem?_getD, List.getElem?_append_right h]

end

/-- What `swapBytes` does to whole groups, by the groups that are left. -/
theorem swapGroups_getD {m : Nat} (hm : m ≤ 4) : ∀ (fuel : Nat) (b : List Byte), b.length ≤ fuel → b.length % swapUnit m = 0 →
    ((chunksOf (swapUnit m) fuel b).flatMap (swapGroup m)).length = b.length ∧
      ∀ i, i < b.length → ((chunksOf (swapUnit m) fuel b).flatMap (swapGroup m)).getD i 0 = b.getD (swapSource m i) 0 := by
  have hpos := swapUnit_pos m
  intro fuel
  induction fuel with
  | zero =>
    intro b hb _
    obtain rfl := List.eq_nil_of_length_eq_zero (Nat.le_zero.mp hb)
    exact ⟨rfl, nofun⟩
  | succ fuel ih =>
    intro b hb hunit
    cases hempty : b.isEmpty with
    | true =>
      obtain rfl := List.isEmpty_iff.mp hempty
      exact ⟨rfl, nofun⟩
    | false =>
      have hfirst : swapUnit m ≤ b.length := by
        have hlen : 0 < b.length := List.length_pos_iff.mpr (List.isEmpty_eq_false_iff.mp hempty)
        exact Nat.le_of_dvd hlen (Nat.dvd_of_mod_eq_zero hunit)
      have htake : (b.take (swapUnit m)).length = swapUnit m := by rw [List.length_take]; omega
      obtain ⟨hglen, hg⟩ := swapGroup_getD hm htake
      obtain ⟨hrlen, hr⟩ := ih (b.drop (swapUnit m)) (by rw [List.length_drop]; omega)
        (by rw [List.length_drop, ← Nat.mod_eq_sub_mod hfirst, hunit])
      rw [List.length_drop] at hrlen hr
      rw [chunksOf, hempty, if_neg Bool.false_ne_true, List.flatMap_cons]
      refine ⟨by rw [List.length_append, hglen, hrlen]; omega, fun i hi => ?_⟩
      by_cases hin : i < swapUnit m
      · obtain ⟨hsrc, hbyte⟩ := hg i hin
        rw [getD_append_of_lt _ _ (by omega), hbyte, List.getD_eq_getElem?_getD, List.getD_eq_getElem?_getD,
          List.getElem?_take_of_lt hsrc]
      · obtain ⟨j, rfl⟩ : ∃ j, i = j + swapUnit m := ⟨i - swapUnit m, by omega⟩
        rw [getD_append_of_le _ _ (by omega), hglen, Nat.add_sub_cancel, hr j (by omega), swapSource_add_unit hm,
          List.getD_eq_getElem?_getD, List.getD_eq_getElem?_getD, List.getElem?_drop, Nat.add_comm]

theorem swapBytes_getD {m : Nat} {b : List Byte} (hm : m ≤ 4) (hb : b.length % swapUnit m = 0) :
    (swapBytes m b).length = b.length ∧ ∀ i, i < b.length → (swapBytes m b).getD i 0 = b.getD (swapSource m i) 0 :=
  swapGroups_getD hm b.length b (Nat.le_refl _) hb

/-- The bytes that a read without error gives. -/
theorem memRead_some {a n : Nat} {s v : State} {b : List Byte} (h : memRead a n s = (some b, v)) :
    b = (List.range n).map (fun i => s.readByte (a + i)) := by
  unfold memRead at h
  split at h
  · cases h; rfl
  · cases h

/-- Bytes that a descriptor moves to memory that is present lie there in order. -/
theorem byteAt_landBytes {a i : Nat} {b : List Byte} {s : State} (hp : s.presentAll a b.length = true) (hi : i < b.length) :
    (landBytes a b s).byteAt (s.phys a + i) = b.getD i 0 := by
  have hin : s.phys a ≤ s.phys a + i ∧ s.phys a + i < s.phys a + b.length := by omega
  unfold landBytes
  split
  · rw [byteAt_putBytes, if_pos hin, Nat.add_sub_cancel_left]
  · rw [byteAt_memWrite hp, if_pos hin, Nat.add_sub_cancel_left]

theorem Desc.still_iff (d : Desc) : d.still = true ↔ d.src = d.dst ∧ d.swap = 0 := by
  rw [still, Bool.and_eq_true, beq_iff_eq, beq_iff_eq]

theorem moveBytes_still {d : Desc} (h : d.still = true) (lo hi : Nat) (s : State) : moveBytes d lo hi s = s := if_pos h

/-- A whole move lands the source's bytes, swapped, from the first byte of the destination on. -/
theorem moveBytes_whole {d : Desc} (h : ¬d.still = true) (s : State) :
    moveBytes d 0 d.len s
      = drawn (landBytes d.dst (swapBytes d.swap ((List.range d.len).map (fun i => s.readByte (d.src + i)))) s) := by
  have hoff : d.offset 0 d.len = 0 := by
    unfold Desc.offset; split
    · exact Nat.sub_self _
    · rfl
  simp only [moveBytes, if_neg h, hoff, Nat.add_zero, Nat.sub_zero]

theorem byteAt_moveBytes {d : Desc} {s v : State} {b : List Byte} (hm : d.swap ≤ 4) (hunit : d.len % swapUnit d.swap = 0)
    (hmoves : d.swap = 0 → d.src ≠ d.dst) (hread : memRead d.src d.len s = (some b, v)) (hp : s.presentAll d.dst d.len = true)
    {i : Nat} (hi : i < d.len) : (moveBytes d 0 d.len s).byteAt (s.phys d.dst + i) = b.getD (swapSource d.swap i) 0 := by
  have hlen : b.length = d.len := by rw [memRead_some hread, List.length_map, List.length_range]
  have hstill : ¬d.still = true := fun h => hmoves ((d.still_iff.mp h).2) (d.still_iff.mp h).1
  obtain ⟨hslen, hbyte⟩ := swapBytes_getD hm (hlen ▸ hunit : b.length % swapUnit d.swap = 0)
  rw [moveBytes_whole hstill, ← memRead_some hread]
  exact (byteAt_landBytes (by rwa [hslen, hlen]) (by omega)).trans (hbyte i (by omega))

/-! ### What is refused before a byte moves (R352) -/

theorem descCheck_reserved {d : Desc} (s : State) (h : 4 < d.swap) : s.descCheck d = 4 :=
  if_pos (.inr (.inr (.inr (.inr (.inl h)))))

theorem descCheck_length {d : Desc} (s : State) (h : d.len % swapUnit d.swap ≠ 0) : s.descCheck d ∈ [2, 3, 4] := by
  unfold State.descCheck
  split
  · decide
  · split
    · decide
    · decide

/-- Settles O51: the bytes of the table, the bytes that a move leaves, and the refusals. -/
theorem swapModes : Obligations.SwapModes :=
  ⟨fun _ _ hm hb => swapBytes_getD hm hb,
    fun _ _ _ _ hm hunit hmoves hread hp _ hi => byteAt_moveBytes hm hunit hmoves hread hp hi,
    fun d s => ⟨descCheck_reserved s, descCheck_length s,
      fun hm heq lo hi => moveBytes_still (d.still_iff.mpr ⟨heq, hm⟩) lo hi s⟩⟩

end Sys2Proof.Machine
end

section
/-! ## Which addresses answer: what leaves that as it is -/
namespace Sys2Proof.Machine
open Sys2Proof

/-- Writes of other objects leave the states of the domains. -/
theorem isOn_wrV {addr e d : Nat} (v : Val) (s : State) (he : e < 2 ^ 24) (ha : addr ≠ Obj.domainState d) :
    (wrV addr e v s).isOn d = s.isOn d := by
  have hkey : dkey addr e ≠ dkey (Obj.domainState d) 0 := by
    rw [Ne, dkey_inj he (by decide)]
    exact fun h => ha h.1
  rw [State.isOn, State.isOn, State.domState, State.domState, State.rdZ, State.rdZ, wrV_dict, sfind_dset _ _ hkey]

/-- The states of the 54 domains lie below index 0x7000. -/
theorem domainState_ne {addr d : Nat} (ha : 0x700000 ≤ addr) (hd : d < 54) : addr ≠ Obj.domainState d := by
  show addr ≠ 0x604005 + d * 0x100; omega

/-- From `s` to `t` the same addresses answer, and each byte is kept at the same place (R361, R374, R378, R392). -/
structure SameMap (s t : State) : Prop where
  memctl : t.memctl = s.memctl
  on : ∀ d, d < 54 → t.isOn d = s.isOn d
  link : t.rd Obj.hostLinkState = s.rd Obj.hostLinkState
  window : t.rd Obj.hostWindowBase = s.rd Obj.hostWindowBase

namespace SameMap
variable {s t u : State}

theorem refl : SameMap s s := ⟨rfl, fun _ _ => rfl, rfl, rfl⟩

theorem trans (h : SameMap s t) (h' : SameMap t u) : SameMap s u where
  memctl := h'.memctl.trans h.memctl
  on d hd := (h'.on d hd).trans (h.on d hd)
  link := h'.link.trans h.link
  window := h'.window.trans h.window

theorem of_dict (hd : t.dict = s.dict) (hm : t.memctl = s.memctl) : SameMap s t where
  memctl := hm
  on d _ := by rw [State.isOn, State.isOn, State.domState, State.domState, State.rdZ, State.rdZ, hd]
  link := rdE_congr hd _ 0
  window := rdE_congr hd _ 0

/-- A write of an object of the troughs or of the barrow. -/
theorem wrE {addr e : Nat} (n : Nat) (h : SameMap s t) (hlo : 0x700000 ≤ addr) (hhi : addr < 0xA00000) (he : e < 2 ^ 24) :
    SameMap s (wrE addr e n t) := h.trans
  { memctl := rfl
    on := fun _ hd => isOn_wrV (.num n) t he (domainState_ne hlo hd)
    link := by
      show (Machine.wrE addr e n t).rdE _ 0 = t.rdE _ 0
      rw [rdE_wrE t n he (by decide), if_neg (by rintro ⟨rfl, -⟩; exact absurd hhi (by decide))]
    window := by
      show (Machine.wrE addr e n t).rdE _ 0 = t.rdE _ 0
      rw [rdE_wrE t n he (by decide), if_neg (by rintro ⟨rfl, -⟩; exact absurd hhi (by decide))] }

theorem gddrTop (h : SameMap s t) : t.gddrTop = s.gddrTop := by rw [State.gddrTop, State.gddrTop, h.memctl]

theorem region (h : SameMap s t) (a : Nat) : t.region a = s.region a := by rw [State.region, State.region, h.gddrTop]

theorem phys (h : SameMap s t) (a : Nat) : t.phys a = s.phys a := by rw [State.phys, State.phys, h.window]

end SameMap

/-- A loft bank of the map is one of eight, a stall one of 32 (R361). -/
theorem region_bounds (s : State) (a : Nat) :
    (∀ b, s.region a = .loft b → b < 8) ∧ (∀ i, s.region a = .stall i → i < 32) := by
  unfold State.region
  split
  · exact ⟨nofun, nofun⟩
  · split
    · exact ⟨fun b hb => by cases hb; omega, nofun⟩
    · split
      · exact ⟨nofun, fun i hi => by cases hi; omega⟩
      · split
        · exact ⟨nofun, nofun⟩
        · split <;> exact ⟨nofun, nofun⟩

namespace SameMap
variable {s t : State}

theorem present (h : SameMap s t) (a : Nat) : t.present a = s.present a := by
  obtain ⟨hloft, hstall⟩ := region_bounds s a
  rw [State.present, State.present, h.region a]
  cases hr : s.region a with
  | gddr => show t.gddrOn = s.gddrOn; rw [State.gddrOn, State.gddrOn, h.on 12 (by decide), h.on 13 (by decide)]
  | loft b => exact h.on _ (by have := hloft b hr; omega)
  | stall i => exact h.on _ (by have := hstall i hr; show 22 + i < 54; omega)
  | host => show (t.rd Obj.hostLinkState == 3) = (s.rd Obj.hostLinkState == 3); rw [h.link]
  | granary | none => rfl

theorem presentAll (h : SameMap s t) (a n : Nat) : t.presentAll a n = s.presentAll a n := by
  simp only [State.presentAll, h.present]

end SameMap

end Sys2Proof.Machine
end

section
/-! ## Troughs: HEAD -/
namespace Sys2Proof.Machine
open Sys2Proof

/-- A command of trough t in a device with power. -/
theorem runTrough_powered {t : Nat} (f : State → State) {s : State} (ht : t < 16384) (hp : s.powered) :
    runIf (t < 16384) f s = .next (after s (f s)) :=
  runIf_powered f (decide_eq_true ht) hp

/-! ### Writes of HEAD (R338) -/

/-- A write beyond COUNT leaves HEAD: it is counted and reported. -/
def headRefused (t : Nat) (s : State) : State := s |> incE 32 Obj.troughHeadRefused t |> detect troughBlock Src.troughHeadRefused

section
variable {t h : Nat} {s : State}

theorem writeHead_within (hh : h < 2 ^ 32) (hc : (h + 2 ^ 32 - s.rdE Obj.troughHead t) % 2 ^ 32 ≤ s.troughCount t) :
    writeHead t h s = (Ab.ok, wrE Obj.troughHead t h s) := by rw [writeHead, if_pos hc, Nat.mod_eq_of_lt hh]

theorem writeHead_beyond (hc : s.troughCount t < (h + 2 ^ 32 - s.rdE Obj.troughHead t) % 2 ^ 32) :
    writeHead t h s = (Ab.valueRange, headRefused t s) := if_neg (Nat.not_le.mpr hc)

theorem headWrite_on (hon : s.isOn 1 = true) (hh : h < 2 ^ 32) {a : Nat} {u : State} (hw : writeHead t h s = (a, u)) :
    headWrite t h s = emit (.abort a 0) u := by rw [headWrite, if_pos hon, Nat.mod_eq_of_lt hh, hw]

theorem exec_headWrite_within (ht : t < 16384) (hp : s.powered) (hon : s.isOn 1 = true) (hh : h < 2 ^ 32)
    (hc : (h + 2 ^ 32 - s.rdE Obj.troughHead t) % 2 ^ 32 ≤ s.troughCount t) :
    exec (.headWrite t h) s = .next (after s (answered Ab.ok 0 (wrE Obj.troughHead t h s))) := by
  have hrun := runTrough_powered (headWrite t h) ht hp
  rw [headWrite_on hon hh (writeHead_within hh hc)] at hrun
  rw [answered_plain _ _ (by decide) (by decide) (by decide)]
  exact hrun

theorem exec_headWrite_beyond (ht : t < 16384) (hp : s.powered) (hon : s.isOn 1 = true) (hh : h < 2 ^ 32)
    (hc : s.troughCount t < (h + 2 ^ 32 - s.rdE Obj.troughHead t) % 2 ^ 32) :
    exec (.headWrite t h) s = .next (after s (answered Ab.valueRange 0 (headRefused t s))) := by
  have hrun := runTrough_powered (headWrite t h) ht hp
  rw [headWrite_on hon hh (writeHead_beyond hc)] at hrun
  rw [answered_plain _ _ (by decide) (by decide) (by decide)]
  exact hrun

/-! ### Pops (R346) -/

theorem popWindow_entry {n : Nat} (hlo : 0 < n) (hhi : n ≤ 64) (hbars : s.barsUp = true) (hon : s.isOn 1 = true) (check : ReadCheck) :
    popWindow t 0 n check s = (let r := popRead t 0 n check s; emit (.completion false r.1) r.2) := by
  have hopen : (s.barsUp && s.isOn 1 && decide (0 + n ≤ 64) && n != 0) = true := by
    rw [hbars, hon, decide_eq_true (by omega), bne_iff_ne.mpr (by omega)]; rfl
  rw [popWindow, if_pos hopen]

/-- A trough that is enabled and does not lie behind the host window has its ring in device memory. -/
theorem ring_inDevice (hn : s.troughN t ≠ 0) (hb : inHostWindow (s.troughBase t) = false) :
    ¬(decide (s.troughN t = 0) || inHostWindow (s.troughBase t)) = true := by
  rw [hb, Bool.or_false, decide_eq_true_eq]; exact hn

theorem popRead_idle (hn : s.troughN t ≠ 0) (hb : inHostWindow (s.troughBase t) = false) (hc : s.troughCount t = 0) (n : Nat)
    (check : ReadCheck) : popRead t 0 n check s
      = (List.replicate n 0, updTrough t (fun tr => { tr with latch := List.replicate 64 0 }) s) := by
  rw [popRead, if_neg (fun h => h rfl), if_neg (ring_inDevice hn hb), if_pos hc]

/-- The address of the entry at HEAD. -/
def State.headSlot (s : State) (t : Nat) : Nat := s.troughBase t + s.rdE Obj.troughHead t % 2 ^ s.troughN t * 64

/-- The entry `b` is popped: HEAD passes it, and the latch holds it. -/
def popped (t : Nat) (b : List Byte) (s : State) : State :=
  s |> wrE Obj.troughHead t ((s.rdE Obj.troughHead t + 1) % 2 ^ 32) |> updTrough t (fun tr => { tr with latch := b })

theorem popped_sameMap (ht : t < 16384) (b : List Byte) : SameMap s (popped t b s) :=
  (SameMap.refl.wrE _ (by decide) (by decide) (by omega)).trans (.of_dict rfl rfl)

theorem popRead_entry (ht : t < 16384) (hn : s.troughN t ≠ 0) (hb : inHostWindow (s.troughBase t) = false)
    (hc : s.troughCount t ≠ 0) (hclean : s.poisoned (s.headSlot t) 64 = []) (hthere : s.presentAll (s.headSlot t) 64 = true)
    (n : Nat) : popRead t 0 n .ok s
      = ((s.bytesAt (s.headSlot t) 64).take n, popped t (s.bytesAt (s.headSlot t) 64) s) := by
  have hgood : (!(s.poisoned (s.headSlot t) 64).isEmpty || !s.presentAll (s.headSlot t) 64) = false := by
    rw [hclean, hthere]; rfl
  have hstill : (popped t (s.bytesAt (s.headSlot t) 64) s).presentAll (s.headSlot t) 64 = true := by
    rw [(popped_sameMap ht _).presentAll, hthere]
  unfold State.headSlot popped at *
  rw [popRead, if_neg (fun h => h rfl), if_neg (ring_inDevice hn hb), if_neg hc]
  simp only [hgood, hstill, reduceCtorEq, decide_false, Bool.or_self, Bool.false_eq_true, Bool.not_true, if_false]

end

/-- Settles O32: the two sides of COUNT, then the pop of an empty trough and of an entry. -/
theorem troughReadsComplete : Obligations.TroughReadsComplete := by
  intro t s ht hp hon
  refine ⟨fun h hh hc => exec_headWrite_within ht hp hon hh hc, fun h hh hc => exec_headWrite_beyond ht hp hon hh hc,
    fun n hlo hhi hbars hn hb => ⟨fun hc check => ?_, fun hc hclean hthere => ?_⟩⟩
  · have hrun := runTrough_powered (popWindow t 0 n check) ht hp
    rw [popWindow_entry hlo hhi hbars hon, popRead_idle hn hb hc] at hrun
    exact hrun
  · have hrun := runTrough_powered (popWindow t 0 n .ok) ht hp
    rw [popWindow_entry hlo hhi hbars hon, popRead_entry ht hn hb hc hclean hthere] at hrun
    exact hrun

/-! ### What a refused write leaves -/

/-- The record of block b lies at its index (R471). -/
theorem faultRecord_index {b addr : Nat} (h : addr ∈ faultRecord b) : addr / 256 = 0x7000 + b := by
  simp only [faultRecord, List.mem_cons, List.not_mem_nil, or_false, Obj.faultFirstSource, Obj.faultFirstStep, Obj.faultSticky,
    Obj.faultCount, Obj.faultSourceCount, Obj.faultLastSource, Obj.faultLastStep, Obj.faultLastTime] at h
  omega

section
variable {b i : Nat} {s : State}

theorem recordedAndForced_eq (hf : forcesHold b i = false) : recordedAndForced b i s = recordDetection b i s := by
  rw [recordedAndForced, hf, if_neg Bool.false_ne_true]

/-- A source that forces no HOLD pair changes its own record alone. -/
theorem detect_dget (hf : forcesHold b i = false) (hi : i < 2 ^ 24) {addr e : Nat} (he : e < 2 ^ 24) (ha : addr ∉ faultRecord b) :
    dget (detect b i s).dict addr e = dget s.dict addr e := by
  have hrec : dget (recordDetection b i s).dict addr e = dget s.dict addr e := (recordDetection_framed s hi).dict addr e he ha
  cases hd : s.canDetect b i with
  | false => rw [detect_none hd]
  | true =>
    rcases detect_made hd with h | h | h
    · rw [h, hrec]
    · rw [h, recordedAndForced_eq hf, hrec]
    · rw [h, recordedAndForced_eq hf]; exact hrec

theorem bit_setBit_same (n i : Nat) : bit (setBit n i) i = true := by
  rw [bit, setBit, Nat.testBit_or, Nat.testBit_two_pow_self, Bool.or_true]

theorem recordDetection_sticky (hi : i < 2 ^ 24) : (recordDetection b i s).sticky b i = true := by
  have h0 : 0 < 2 ^ 24 := by decide
  have hne : ∀ a ∈ [Obj.faultCount b, Obj.faultSourceCount b, Obj.faultLastSource b, Obj.faultLastStep b, Obj.faultLastTime b],
      Obj.faultSticky b ≠ a := by simp
  simp only [List.forall_mem_cons] at hne
  obtain ⟨hcount, hsource, hlast, hstep, htime, -⟩ := hne
  have hset : (recordDetection b i s).rdE (Obj.faultSticky b) 0 = setBit (s.rd (Obj.faultSticky b)) i := by
    unfold recordDetection
    dsimp only
    rw [rdE_wr_ne h0 _ _ htime, rdE_wr_ne h0 _ _ hstep, rdE_wr_ne h0 _ _ hlast, satE, rdE_wrE _ _ hi h0,
      if_neg (fun h => hsource h.1.symm), rdE_inc_ne h0 _ _ hcount, wr, rdE_wrE_same]
  show bit ((recordDetection b i s).rdE (Obj.faultSticky b) 0) i = true
  rw [hset, bit_setBit_same]

theorem detect_sticky (hd : s.canDetect b i = true) (hi : i < 2 ^ 24) : (detect b i s).sticky b i = true := by
  show bit ((detect b i s).rdE (Obj.faultSticky b) 0) i = true
  rw [detect_rdE_recorded hd (by decide) (by show 0x700000 ≤ 0x700001 + _; omega)]
  exact recordDetection_sticky hi

end

section
variable {t : Nat} {s : State}

theorem canDetect_trough {i : Nat} (hi : bit (faultPresent troughBlock) i = true) (hon : s.isOn 1 = true) :
    s.canDetect troughBlock i = true := by
  have hblock : s.isOn (blockDomain troughBlock) = true := hon
  rw [State.canDetect, hi, hblock, Bool.or_true]; rfl

/-- What an answer leaves whose reactions reset nothing: the objects and every byte outside the boot record. -/
theorem after_emit_logged {v : State} (h : ∀ r ∈ v.reacts, v.rdE (Obj.faultReact r.1) r.2 % 16 < 4) (o : Out) :
    (after s (emit o v)).dict = v.dict ∧
      ∀ a, a < bootRecord ∨ bootRecord + 0x1000 ≤ a → (after s (emit o v)).byteAt a = v.byteAt a := by
  have hlog : OnlyLogged { emit o v with reacts := [] } (react (emit o v)) := react_onlyLogged h
  exact ⟨hlog.dict, hlog.bytes⟩

theorem headRefused_count (ht : t < 16384) (s : State) :
    (headRefused t s).rdE Obj.troughHeadRefused t = (s.rdE Obj.troughHeadRefused t + 1) % 2 ^ 32 := by
  rw [headRefused, detect_rdE (by decide) (by omega) (by decide) (by decide), incE, addE, rdE_wrE_same]

theorem headRefused_sticky (ht : t < 16384) (hon : s.isOn 1 = true) :
    (headRefused t s).sticky troughBlock Src.troughHeadRefused = true := by
  refine detect_sticky (canDetect_trough (by decide) ?_) (by decide)
  rw [incE_eq, isOn_wrV _ _ (by omega) (domainState_ne (by decide) (by decide)), hon]

theorem headRefused_dget (ht : t < 16384) (s : State) {addr e : Nat} (he : e < 2 ^ 24) (ha : addr ≠ Obj.troughHeadRefused)
    (hblock : addr / 256 ≠ 0x7000 + troughBlock) : dget (headRefused t s).dict addr e = dget s.dict addr e := by
  rw [headRefused, detect_dget (by decide) (by decide) he (fun h => hblock (faultRecord_index h)), incE_eq, wrV_dict,
    dget_dset _ _ (by omega) he, if_neg (fun h => ha h.1.symm)]

theorem headRefused_byteAt (t : Nat) (s : State) (a : Nat) : (headRefused t s).byteAt a = s.byteAt a := detect_byteAt ..

/-- Where HEAD_REFUSED is routed to no reset, so is every reaction of a refused write. -/
theorem headRefused_route (ht : t < 16384) (hq : s.quiet)
    (hroute : s.rdE (Obj.faultReact troughBlock) Src.troughHeadRefused % 16 < 4) :
    ∀ r ∈ (headRefused t s).reacts, (headRefused t s).rdE (Obj.faultReact r.1) r.2 % 16 < 4 := by
  intro r hr
  have hbefore : (incE 32 Obj.troughHeadRefused t s).reacts = [] := hq
  obtain rfl : r = (troughBlock, Src.troughHeadRefused) := by
    rcases detect_reacts troughBlock Src.troughHeadRefused (incE 32 Obj.troughHeadRefused t s) with h | h
    · rw [headRefused, h, hbefore] at hr; cases hr
    · rw [headRefused, h, hbefore] at hr; exact List.mem_singleton.mp hr
  rwa [headRefused, detect_rdE (by decide) (by decide) (by decide) (by decide), incE, addE, rdE_wrE _ _ (by omega) (by decide),
    if_neg (fun h => absurd h.1 (by decide))]

end

/-! ### HEAD over the dictionary -/

theorem headWrites_nil (t : Nat) (s : State) : headWrites t [] s = (noAbort, s) := by rw [headWrites]

theorem headWrites_cons (t : Nat) (v : Val) (vs : List Val) (s : State) :
    headWrites t (v :: vs) s = (let r := writeHead t v.toNat s
      let q := headWrites (t + 1) vs r.2
      (if r.1 = Ab.ok then q.1 else (r.1, 0), q.2)) := by rw [headWrites]

/-- One write answers as `writeHead` does. -/
theorem headWrites_one {t h : Nat} {s : State} {r : Nat × State} (hw : writeHead t h s = r) :
    headWrites t [.num h] s = ((r.1, 0), r.2) := by
  have hval : writeHead t (Val.num h).toNat s = r := hw
  rw [headWrites_cons, hval]
  dsimp only
  rw [headWrites_nil]
  by_cases hok : r.1 = Ab.ok
  · rw [if_pos hok, hok]; rfl
  · rw [if_neg hok]

/-- A write of HEAD through the dictionary is `writeHead`, with its answer (R338). -/
theorem objectWrite_troughHead {t h : Nat} {s : State} {r : Nat × State} (ht : t < 16384) (hh : h < 2 ^ 32)
    (hw : writeHead t h s = r) : objectWrite Obj.troughHead t [h] s = ((r.1, 0), r.2) := by
  have ho : findObj Obj.troughHead = .found ⟨0x05, 1, .u32, true, 16384, .rw, .num 0, .any, 0⟩ := rfl
  have hrange : ObjRow.inRange ⟨0x05, 1, .u32, true, 16384, .rw, .num 0, .any, 0⟩ t 1 = true := by
    rw [ObjRow.inRange, decide_eq_true (show t + 1 ≤ 16384 from ht)]; rfl
  have hfree : s.chanHeld Obj.troughHead t 1 = false := by
    rw [State.chanHeld, show (Obj.troughHead == Obj.chanDesc || Obj.troughHead == Obj.chanTrough) = false by decide,
      Bool.false_and]
  rw [objectWrite_ok (by decide) ho (by decide) hrange (by decide) hh rfl, writeValues, writeChunks, List.length_singleton,
    hfree, if_neg Bool.false_ne_true, if_neg (by decide), if_pos rfl, headWrites_one hw]

theorem exec_registerWrite_troughHead {t h : Nat} {s : State} {r : Nat × State} (ht : t < 16384) (hh : h < 2 ^ 32)
    (hp : s.powered) (hs : (settle s).serving) (hsig : (settle s).rd Obj.mbxRequireSigned ≠ 1)
    (hw : writeHead t h (settle s) = r) :
    exec (.registerWrite (.object Obj.troughHead t [h])) s = .next (afterPower s (answered r.1 0 r.2)) := by
  have hrun := runPower_hostDo_open (objectWrite Obj.troughHead t [h]) hp hs hsig
  rw [objectWrite_troughHead ht hh hw] at hrun
  exact hrun

theorem writeHead_refused_iff {t h : Nat} {s : State} :
    (writeHead t h s).1 = Ab.valueRange ↔ s.troughCount t < (h + 2 ^ 32 - s.rdE Obj.troughHead t) % 2 ^ 32 := by
  unfold writeHead
  split
  · next hc => exact iff_of_false (by simp) (Nat.not_lt.mpr hc)
  · next hc => exact iff_of_true rfl (Nat.not_le.mp hc)

/-- Settles O50: the write that is accepted, what a refused one leaves, and the same through the dictionary. -/
theorem headWriteRule : Obligations.HeadWriteRule := by
  intro t h s ht hh hp
  refine ⟨fun hq hon hroute => ⟨fun hc => ⟨_, exec_headWrite_within ht hp hon hh hc, ?_⟩,
    fun hc => ⟨_, exec_headWrite_beyond ht hp hon hh hc, ?_⟩⟩,
    fun hs hsig => ⟨exec_registerWrite_troughHead ht hh hp hs hsig rfl, writeHead_refused_iff⟩⟩
  · rw [answered_plain _ _ (by decide) (by decide) (by decide), after_quiet (by exact hq)]
    exact rdE_wrE_same ..
  · rw [answered_plain _ _ (by decide) (by decide) (by decide)]
    obtain ⟨hdict, hbytes⟩ := after_emit_logged (s := s) (headRefused_route ht hq hroute) (.abort Ab.valueRange 0)
    refine ⟨?_, ?_, fun a ha => ?_, fun addr e he ha hblock => ?_⟩
    · rw [rdE_congr hdict, headRefused_count ht]
    · rw [State.sticky, State.rd, cfgN, hdict]; exact headRefused_sticky ht hon
    · rw [hbytes a ha, headRefused_byteAt]
    · rw [hdict, headRefused_dget ht s he ha hblock]

end Sys2Proof.Machine
end

section
/-! ## Troughs: TAIL -/
namespace Sys2Proof.Machine
open Sys2Proof

/-! ### Writes of whole blocks, and of blocks without poison -/

/-- From `s` to `t` bytes were written to memory that is present: neither the objects nor the troughs changed, nothing was
detected, and no block became poisoned. -/
structure Stored (s t : State) : Prop where
  dict : t.dict = s.dict
  memctl : t.memctl = s.memctl
  troughs : t.troughs = s.troughs
  reacts : t.reacts = s.reacts
  poison : ∀ p ∈ t.poison, p ∈ s.poison

namespace Stored
variable {s t u : State}

theorem refl : Stored s s := ⟨rfl, rfl, rfl, rfl, fun _ h => h⟩

theorem trans (h : Stored s t) (h' : Stored t u) : Stored s u where
  dict := h'.dict.trans h.dict
  memctl := h'.memctl.trans h.memctl
  troughs := h'.troughs.trans h.troughs
  reacts := h'.reacts.trans h.reacts
  poison p hp := h.poison p (h'.poison p hp)

theorem sameMap (h : Stored s t) : SameMap s t := .of_dict h.dict h.memctl

theorem trough (h : Stored s t) (k : Nat) : t.trough k = s.trough k := by rw [State.trough, State.trough, h.troughs]

theorem ite {c : Prop} [Decidable c] (h : Stored s t) (h' : Stored s u) : Stored s (if c then t else u) := by
  split
  · exact h
  · exact h'

end Stored

theorem reloadRows_stored (a n : Nat) (s : State) : Stored s (reloadRows a n s) := by
  unfold reloadRows
  exact .ite .refl ⟨rfl, rfl, rfl, rfl, fun _ h => h⟩

theorem putBytes_stored (a : Nat) (b : List Byte) (s : State) : Stored s (putBytes a b s) := by
  rw [putBytes_frame]
  exact ⟨rfl, rfl, rfl, rfl, fun _ h => h⟩

/-- Whether n bytes from a on cover the whole of block k. -/
def CoversBlock (a n k : Nat) : Prop := a ≤ k * 64 ∧ k * 64 + 64 ≤ a + n

/-- A write that covers every poisoned block that it touches counts no error (R368, R369). -/
theorem memWrite_stored {a : Nat} {b : List Byte} {s : State} (hp : s.presentAll a b.length = true)
    (hwhole : ∀ k ∈ s.poisoned a b.length, CoversBlock a b.length k) : Stored s (memWrite a b s) := by
  have htorn : (s.poisoned a b.length).filter
      (fun k => !(decide (a ≤ k * 64) && decide (k * 64 + 64 ≤ a + b.length))) = [] := by
    rw [List.filter_eq_nil_iff]
    intro k hk
    obtain ⟨hlo, hhi⟩ := hwhole k hk
    rw [decide_eq_true hlo, decide_eq_true hhi]
    exact Bool.false_ne_true
  rw [memWrite, if_pos hp, writePresent, htorn, List.foldl_nil]
  refine .trans (.trans ?_ (putBytes_stored ..)) (reloadRows_stored ..)
  exact ⟨rfl, rfl, rfl, rfl, fun p h => (List.mem_filter.mp h).1⟩

theorem blocksOf_block {a : Nat} (ha : a % 64 = 0) : blocksOf a 64 = [a / 64] := by rw [blocksOf, ha]; rfl

/-- A write of 64 bytes to a whole block. -/
theorem memWrite_block_stored {a : Nat} {b : List Byte} {s : State} (ha : a % 64 = 0) (hb : b.length = 64)
    (hp : s.presentAll a 64 = true) : Stored s (memWrite a b s) := by
  rw [← hb] at hp
  refine memWrite_stored hp fun k hk => ?_
  rw [hb, State.poisoned, blocksOf_block ha] at hk
  obtain rfl := List.mem_singleton.mp (List.mem_filter.mp hk).1
  rw [CoversBlock]; omega

/-- A block that is good stays so while the map stands and no block becomes poisoned. -/
theorem SameMap.poisoned_nil {s t : State} (h : SameMap s t) (hp : ∀ p ∈ t.poison, p ∈ s.poison) {a n : Nat}
    (hgood : s.poisoned a n = []) : t.poisoned a n = [] := by
  rw [State.poisoned, List.filter_eq_nil_iff] at hgood ⊢
  intro k hk hbad
  rw [List.contains_iff_mem, h.phys] at hbad
  exact hgood k hk (List.contains_iff_mem.mpr (hp _ hbad))

theorem present_of_presentAll {s : State} {a n : Nat} (hn : 0 < n) (h : s.presentAll a n = true) : s.present a = true := by
  rw [State.presentAll, Bool.and_eq_true, List.all_eq_true] at h
  have hfirst : a / 64 ∈ blocksOf a n := List.mem_map.mpr ⟨0, List.mem_range.mpr (by omega), rfl⟩
  have := h.1 _ hfirst
  rwa [Nat.max_eq_left (by omega)] at this

/-! ### The entries of a set in the ring (R336, R347) -/

/-- Induction over a list from its last element on. -/
theorem concatInduction {α : Type} {motive : List α → Prop} (nil : motive [])
    (concat : ∀ l a, motive l → motive (l ++ [a])) (l : List α) : motive l := by
  have hreverse : ∀ r : List α, motive r.reverse := by
    intro r
    induction r with
    | nil => exact nil
    | cons a r ih => rw [List.reverse_cons]; exact concat _ a ih
  rw [← List.reverse_reverse l]
  exact hreverse l.reverse

/-- The slot of the entry i places behind TAIL. -/
def State.tailSlot (s : State) (t i : Nat) : Nat :=
  s.troughBase t + (s.rdE Obj.troughTail t + i) % 2 ^ s.troughN t * 64

/-- The entries of a set written to the slots from TAIL on. -/
def storeEntries (t : Nat) (es : List (List Byte)) (s : State) : State :=
  ((List.range es.length).zip es).foldl (fun v (p : Nat × List Byte) =>
    memWrite (v.troughBase t + (s.rdE Obj.troughTail t + p.1) % 2 ^ s.troughN t * 64) p.2 v) s

/-- The ring of trough t takes the entries `es`: each fills a block, and the memory of its slot is there. -/
structure RingTakes (t : Nat) (es : List (List Byte)) (s : State) : Prop where
  lengths : ∀ e ∈ es, e.length = 64
  aligned : s.troughBase t % 64 = 0
  there : ∀ i, i < es.length → s.presentAll (s.tailSlot t i) 64 = true

section
variable {t : Nat} {s : State} {es : List (List Byte)} {e : List Byte}

/-- The last entry of a set is written behind the others, which leave the ring where it is. -/
theorem storeEntries_concat (hs : Stored s (storeEntries t es s)) :
    storeEntries t (es ++ [e]) s = memWrite (s.tailSlot t es.length) e (storeEntries t es s) := by
  rw [State.tailSlot, State.troughBase, ← rdE_congr hs.dict, storeEntries, List.length_append, List.length_singleton,
    List.range_succ, List.zip_append (by rw [List.length_range]), List.foldl_append]
  rfl

theorem RingTakes.init (h : RingTakes t (es ++ [e]) s) : RingTakes t es s where
  lengths x hx := h.lengths x (List.mem_append_left _ hx)
  aligned := h.aligned
  there i hi := h.there i (by rw [List.length_append]; omega)

theorem RingTakes.last (h : RingTakes t (es ++ [e]) s) : e.length = 64 ∧ s.presentAll (s.tailSlot t es.length) 64 = true :=
  ⟨h.lengths e (List.mem_append_right _ (List.mem_singleton_self e)),
    h.there es.length (by rw [List.length_append, List.length_singleton]; omega)⟩

theorem RingTakes.slot_aligned (h : RingTakes t es s) (i : Nat) : s.tailSlot t i % 64 = 0 := by
  have := h.aligned
  rw [State.tailSlot]; omega

theorem storeEntries_stored (h : RingTakes t es s) : Stored s (storeEntries t es s) := by
  induction es using concatInduction with
  | nil => exact .refl
  | concat es e ih =>
    have hs := ih h.init
    obtain ⟨hlen, hthere⟩ := h.last
    rw [storeEntries_concat hs]
    exact hs.trans (memWrite_block_stored (h.slot_aligned es.length) hlen (by rw [hs.sameMap.presentAll]; exact hthere))

/-- The last entry of a set lies in its slot, and every other byte is as the entries before it left it. -/
theorem byteAt_storeEntries_concat (h : RingTakes t (es ++ [e]) s) (a : Nat) :
    (storeEntries t (es ++ [e]) s).byteAt a
      = if s.phys (s.tailSlot t es.length) ≤ a ∧ a < s.phys (s.tailSlot t es.length) + 64
        then e.getD (a - s.phys (s.tailSlot t es.length)) 0 else (storeEntries t es s).byteAt a := by
  have hs := storeEntries_stored h.init
  obtain ⟨hlen, hthere⟩ := h.last
  have hp : (storeEntries t es s).presentAll (s.tailSlot t es.length) e.length = true := by
    rw [hlen, hs.sameMap.presentAll, hthere]
  rw [storeEntries_concat hs, byteAt_memWrite hp, hs.sameMap.phys, hlen]

/-- Outside its slots a set writes nothing. -/
theorem byteAt_storeEntries_outside (h : RingTakes t es s) {a : Nat}
    (ha : ∀ i, i < es.length → a < s.phys (s.tailSlot t i) ∨ s.phys (s.tailSlot t i) + 64 ≤ a) :
    (storeEntries t es s).byteAt a = s.byteAt a := by
  induction es using concatInduction with
  | nil => rfl
  | concat es e ih =>
    have hlen : (es ++ [e]).length = es.length + 1 := by rw [List.length_append, List.length_singleton]
    have hlast := ha es.length (by omega)
    rw [byteAt_storeEntries_concat h, if_neg (by omega), ih h.init fun i hi => ha i (by omega)]

/-- Below the host window an address is its own place. -/
theorem phys_device {a : Nat} (s : State) (ha : a < 0x2000000000) : s.phys a = a := if_neg (by omega)

/-- Slots of one turn of the ring are apart. -/
theorem tailSlot_apart {i k : Nat} (hik : i < k) (hk : k < 2 ^ s.troughN t) :
    s.tailSlot t i + 64 ≤ s.tailSlot t k ∨ s.tailSlot t k + 64 ≤ s.tailSlot t i := by
  have hne : (s.rdE Obj.troughTail t + i) % 2 ^ s.troughN t ≠ (s.rdE Obj.troughTail t + k) % 2 ^ s.troughN t := by
    intro heq
    have hdiff := Nat.sub_mod_eq_zero_of_mod_eq heq.symm
    rw [Nat.add_sub_add_left, Nat.mod_eq_of_lt (by omega)] at hdiff
    omega
  rw [State.tailSlot, State.tailSlot]; omega

theorem tailSlot_end (s : State) (t i : Nat) : s.tailSlot t i + 64 ≤ s.troughBase t + 64 * 2 ^ s.troughN t := by
  have := Nat.mod_lt (s.rdE Obj.troughTail t + i) (Nat.two_pow_pos (s.troughN t))
  rw [State.tailSlot]; omega

/-- A set that fits a ring of device memory lies there entry by entry. -/
theorem byteAt_storeEntries_slot (h : RingTakes t es s) (hfit : es.length ≤ 2 ^ s.troughN t)
    (htop : s.troughBase t + 64 * 2 ^ s.troughN t ≤ 0x2000000000) {i j : Nat} (hi : i < es.length) (hj : j < 64) :
    (storeEntries t es s).byteAt (s.tailSlot t i + j) = (es.getD i []).getD j 0 := by
  induction es using concatInduction with
  | nil => cases hi
  | concat es e ih =>
    have hlen : (es ++ [e]).length = es.length + 1 := by rw [List.length_append, List.length_singleton]
    have hend := tailSlot_end s t es.length
    rw [byteAt_storeEntries_concat h, phys_device s (by omega)]
    obtain hlt | rfl : i < es.length ∨ i = es.length := by omega
    · have hapart := tailSlot_apart (s := s) (t := t) hlt (by omega)
      rw [if_neg (by omega), ih h.init (by omega) hlt, getD_append_of_lt _ _ hlt]
    · rw [if_pos (by omega), Nat.add_sub_cancel_left, getD_append_of_le _ _ (Nat.le_refl _), Nat.sub_self]
      rfl

end

/-! ### TAIL and the shadow (R343, R344) -/

/-- TAIL moves to `tail` past a set of n entries, and the sets `rest` are left. -/
def tailPassed (t : Nat) (rest : List (List (List Byte))) (tail n : Nat) (s : State) : State :=
  let v := s |> updTrough t (fun tr => { tr with sets := rest }) |> wrE Obj.troughTail t tail |> addE 64 Obj.troughEntries 0 n
  wrE Obj.troughHighWater t (max (v.rdE Obj.troughHighWater t) (v.troughCount t)) v

/-- The state before the shadow is written: entries in the ring, TAIL past them. -/
def setPassed (t : Nat) (es : List (List Byte)) (rest : List (List (List Byte))) (s : State) : State :=
  tailPassed t rest ((s.rdE Obj.troughTail t + es.length) % 2 ^ 32) es.length (storeEntries t es s)

section
variable {t : Nat} {s : State}

theorem advanceTail_usable {es : List (List Byte)} {rest : List (List (List Byte))} (hsets : (s.trough t).sets = es :: rest)
    (hu : s.troughUsable t = true) : advanceTail t s = writeShadow t (setPassed t es rest s) := by
  rw [advanceTail, hsets, hu]
  rfl

section
variable (ht : t < 16384) (rest : List (List (List Byte))) (tail n : Nat) (s : State)
include ht

theorem tailPassed_sameMap : SameMap s (tailPassed t rest tail n s) := by
  have hsets : SameMap s (updTrough t (fun tr => { tr with sets := rest }) s) := .of_dict rfl rfl
  exact ((hsets.wrE _ (by decide) (by decide) (by omega)).wrE _ (by decide) (by decide) (by decide)).wrE _ (by decide) (by decide)
    (by omega)

/-- Beyond TAIL and the two counters no object changes. -/
theorem tailPassed_rdE {addr : Nat} (ha : addr ∉ [Obj.troughTail, Obj.troughEntries, Obj.troughHighWater]) :
    (tailPassed t rest tail n s).rdE addr t = s.rdE addr t := by
  simp only [List.mem_cons, List.not_mem_nil, or_false, not_or] at ha
  obtain ⟨htail, hentries, hhigh⟩ := ha
  have he : t < 2 ^ 24 := by omega
  rw [tailPassed, rdE_wrE _ _ he he, if_neg (fun h => hhigh h.1.symm), addE, rdE_wrE _ _ (by decide) he,
    if_neg (fun h => hentries h.1.symm), rdE_wrE _ _ he he, if_neg (fun h => htail h.1.symm)]
  rfl

theorem tailPassed_tail : (tailPassed t rest tail n s).rdE Obj.troughTail t = tail := by
  have he : t < 2 ^ 24 := by omega
  rw [tailPassed, rdE_wrE _ _ he he, if_neg (fun h => absurd h.1 (by decide)), addE, rdE_wrE _ _ (by decide) he,
    if_neg (fun h => absurd h.1 (by decide)), rdE_wrE_same]

omit ht in
theorem tailPassed_sets : ((tailPassed t rest tail n s).trough t).sets = rest :=
  congrArg Trough.sets (updTrough_same t (fun tr => { tr with sets := rest }) s)

end

/-- The shadow of trough t is off, or lies in good memory. -/
def State.shadowReady (s : State) (t : Nat) : Prop :=
  s.rdE Obj.troughShadow t = 0 ∨
    s.presentAll (s.rdE Obj.troughShadow t) 8 = true ∧ s.poisoned (s.rdE Obj.troughShadow t) 8 = []

/-- A shadow that is ready takes its eight bytes, and nothing is counted. -/
theorem writeShadow_ready (h : s.shadowReady t) : Stored s (writeShadow t s) ∧
    ∀ a, (s.rdE Obj.troughShadow t = 0 ∨ a < s.phys (s.rdE Obj.troughShadow t) ∨ s.phys (s.rdE Obj.troughShadow t) + 8 ≤ a) →
      (writeShadow t s).byteAt a = s.byteAt a := by
  by_cases hoff : s.rdE Obj.troughShadow t = 0
  · rw [writeShadow, if_pos hoff]
    exact ⟨.refl, fun _ _ => rfl⟩
  · obtain ⟨hthere, hgood⟩ := h.resolve_left hoff
    have hlen : (leBytes 4 (s.rdE Obj.troughTail t) ++ leBytes 4 (s.rdE Obj.troughDropped t)).length = 8 := by
      rw [List.length_append, leBytes_length, leBytes_length]
    rw [writeShadow, if_neg hoff, if_pos (present_of_presentAll (by decide) hthere)]
    generalize leBytes 4 (s.rdE Obj.troughTail t) ++ leBytes 4 (s.rdE Obj.troughDropped t) = b at hlen
    rw [← hlen] at hthere hgood
    refine ⟨memWrite_stored hthere (by rw [hgood]; exact nofun), fun a ha => ?_⟩
    rw [byteAt_memWrite hthere, if_neg (by have := ha.resolve_left hoff; omega)]

end

section
variable {t : Nat} {s : State} {es : List (List Byte)} {rest : List (List (List Byte))}

theorem setPassed_sameMap (ht : t < 16384) (h : RingTakes t es s) : SameMap s (setPassed t es rest s) :=
  (storeEntries_stored h).sameMap.trans (tailPassed_sameMap ht ..)

theorem setPassed_byteAt (a : Nat) : (setPassed t es rest s).byteAt a = (storeEntries t es s).byteAt a := rfl
theorem setPassed_reacts : (setPassed t es rest s).reacts = (storeEntries t es s).reacts := rfl
theorem setPassed_sets : ((setPassed t es rest s).trough t).sets = rest := tailPassed_sets ..

theorem setPassed_tail (ht : t < 16384) :
    (setPassed t es rest s).rdE Obj.troughTail t = (s.rdE Obj.troughTail t + es.length) % 2 ^ 32 := tailPassed_tail ht ..

theorem setPassed_rdE (ht : t < 16384) (h : RingTakes t es s) {addr : Nat}
    (ha : addr ∉ [Obj.troughTail, Obj.troughEntries, Obj.troughHighWater]) :
    (setPassed t es rest s).rdE addr t = s.rdE addr t := by
  rw [setPassed, tailPassed_rdE ht _ _ _ _ ha, rdE_congr (storeEntries_stored h).dict]

theorem setPassed_shadow (ht : t < 16384) (h : RingTakes t es s) :
    (setPassed t es rest s).rdE Obj.troughShadow t = s.rdE Obj.troughShadow t := setPassed_rdE ht h (by decide)

theorem setPassed_shadowReady (ht : t < 16384) (h : RingTakes t es s) (hsh : s.shadowReady t) :
    (setPassed t es rest s).shadowReady t := by
  have hmap : SameMap s (setPassed t es rest s) := setPassed_sameMap ht h
  rw [State.shadowReady, setPassed_shadow ht h]
  refine hsh.imp_right fun ⟨hthere, hgood⟩ => ⟨by rw [hmap.presentAll, hthere], ?_⟩
  exact hmap.poisoned_nil (storeEntries_stored h).poison hgood

end

theorem outside_rdE (s t : State) (addr e : Nat) : (outside s t).rdE addr e = t.rdE addr e := rfl
theorem outside_trough (s t : State) (k : Nat) : (outside s t).trough k = t.trough k := rfl

/-- Settles O33: the entries in the ring, TAIL past them, then the shadow; none of these detects anything. -/
theorem tailAdvanceStores : Obligations.TailAdvanceStores := by
  intro t s es rest ht hp hq hsets hlengths hu haligned tail slot sh hthere hsh
  have hring : RingTakes t es s := ⟨hlengths, haligned, hthere⟩
  obtain ⟨hshadow, houtside⟩ := writeShadow_ready (setPassed_shadowReady (rest := rest) ht hring hsh)
  have hrun := runTrough_powered (advanceTail t) ht hp
  rw [advanceTail_usable hsets hu,
    after_quiet (hshadow.reacts.trans (setPassed_reacts.trans ((storeEntries_stored hring).reacts.trans hq)))] at hrun
  rw [setPassed_shadow ht hring, (setPassed_sameMap ht hring).phys] at houtside
  refine ⟨_, hrun, ?_, ?_, ?_, fun a hslots ha => ?_, fun h0 hfit htop i j hi hj => ?_⟩
  · rw [outside_rdE, rdE_congr hshadow.dict, setPassed_tail ht]
  · rw [outside_trough, hshadow.trough, setPassed_sets]
  · rw [outside_rdE, rdE_congr hshadow.dict, setPassed_rdE ht hring (by decide)]
  · rw [outside_byteAt, houtside a ha, setPassed_byteAt]
    exact byteAt_storeEntries_outside hring hslots
  · rw [outside_byteAt, houtside _ (.inl h0), setPassed_byteAt]
    exact byteAt_storeEntries_slot hring hfit htop hi hj

end Sys2Proof.Machine
end

section
/-! ## Memory: training, zeroing, retraining, the scrubber and the granary's sweep -/
namespace Sys2Proof.Machine
open Sys2Proof

/-! ### Training, zeroing and retraining of GDDR6 -/

section
variable {s u : State} {h : Nat}

/-- A half's training ends with a rate of the table, or with none and a failure (R363). -/
theorem trainingDone_trains {rate n : Nat} (ht : s.trains h = true) (hrate : rate ∈ [0, 12, 14, 16]) (hn : n ∈ [8, 16]) :
    let v := updMemctl (fun m => { m with trained := setAt m.trained h true, rates := setAt m.rates h rate, fitted := n }) s
      |> wr Obj.memDevices n |> wr Obj.familyGddr6Devices n
    trainingDone h rate n s = settleTraining (if rate = 0 then detect (halfBlock h) Src.memTrainingFail v else v) := by
  have hfits : (n == 8 || n == 16) = true := by
    simpa only [List.mem_cons, List.not_mem_nil, or_false, Bool.or_eq_true, beq_iff_eq] using hn
  have hgo : (s.trains h && [0, 12, 14, 16].contains rate && (n == 8 || n == 16)) = true := by
    rw [ht, List.contains_iff_mem.mpr hrate, hfits]; rfl
  simp only [trainingDone, if_pos hgo, detectIf, beq_iff_eq]

theorem zeroingDone_trained (hh : h < 2) (ht : s.memctl.trained.getD h false = true) (hz : s.memctl.zeroed.getD h false = false)
    (hr : s.memctl.rates.getD h 0 ≠ 0) :
    let mine := fun (a : Nat) => decide (a < 0x700000000) && channelOf a / 8 == h
    zeroingDone h s = { s with
      mem := s.mem.filter (fun c => !mine c.1), poison := s.poison.filter (fun p => !mine (p * 64)),
      memctl := { s.memctl with zeroed := setAt s.memctl.zeroed h true } } := by
  have hgo : (decide (h < 2) && s.memctl.trained.getD h false && !s.memctl.zeroed.getD h false
      && s.memctl.rates.getD h 0 != 0) = true := by
    rw [decide_eq_true hh, ht, hz, bne_iff_ne.mpr hr]; rfl
  exact if_pos hgo

/-- A channel whose 250 ms have passed is retrained, whatever the temperature (R364). -/
theorem memRetrain_due {c : Nat} {ok : Bool} (hc : c < 16) (hon : s.isOn (12 + c / 8) = true)
    (hu : s.dueAt (sget 0 s.memctl.retrainedAt c + 250000000 * nsUnit) = some u) :
    let v := u |> inc 32 Obj.memRetrains |> updMemctl (fun m => { m with retrainedAt := sset 0 c u.now m.retrainedAt })
    memRetrain c ok false s = if ok then v else detect (halfBlock (c / 8)) Src.memRetrainFail v := by
  obtain ⟨due, hdue⟩ := exists_dueAt
  have hgo : (decide (c < 16) && s.isOn (12 + c / 8)) = true := by rw [decide_eq_true hc, hon]; rfl
  rw [memRetrain, if_pos hgo, hdue]
  rw [hdue] at hu
  simp only [Bool.false_eq_true, if_false, hu]
  cases ok <;> rfl

end

/-! ### The scrubber and the limit of corrected codewords -/

section
variable {s u : State}

/-- A codeword without a bad byte reads well (R367). -/
theorem codeword_clean (s : State) (a : Nat) : s.codeword a 0 = .ok := rfl

/-- A good codeword below the last moves the scrubber on and counts nothing (R371). -/
theorem scrubStep_clean (hclean : s.poison.contains (s.rd Obj.memScrubAddr / 64) = false)
    (hlast : s.rd Obj.memScrubAddr + 64 < s.rd Obj.memProtectedTop) :
    scrubStep 0 s = (s |> updMemctl (fun m => { m with scrubbedAt := s.now })
      |> wr Obj.memScrubAddr (s.rd Obj.memScrubAddr + 64)) := by
  simp only [scrubStep, updMemctl_poison, hclean, codeword_clean, Bool.false_eq_true, if_false, if_neg (Nat.not_le.mpr hlast)]

theorem scrubRead_due (n : Nat) (hon : s.gddrOn = true) (htop : s.rd Obj.memProtectedTop ≠ 0)
    (hu : s.dueAt (s.memctl.scrubbedAt + s.scrubGap) = some u) : scrubRead n s = scrubStep n u := by
  obtain ⟨due, hdue⟩ := exists_dueAt
  have hgo : (s.gddrOn && s.rd Obj.memProtectedTop != 0) = true := by rw [hon, bne_iff_ne.mpr htop]; rfl
  rw [scrubRead, if_pos hgo, hdue]
  rw [hdue] at hu
  simp only [hu]

theorem scrubWriteback_on (hon : s.gddrOn = true) :
    scrubWriteback s = updMemctl (fun m => { m with wbQueue := m.wbQueue.drop 1 }) s := if_pos hon

theorem ceLimit_exceeded {c : Nat} (hc : c < 16)
    (hn : s.rd Obj.memCeLimit < ((sget [] s.memctl.ceTimes c).filter (fun t => decide (s.now < t + hourUnit))).length) :
    ceLimit c s = detect (halfBlock (c / 8)) Src.memChannelDegraded s := by
  rw [ceLimit, decide_eq_true hc, decide_eq_true hn, Bool.and_self, detectIf_true]

/-- A sweep that finds no double error counts what it corrected, and reports it (R384). -/
theorem granarySweep_due {n : Nat} (hu : s.dueAt (s.memctl.sweptAt + 10 ^ 9 * nsUnit) = some u) :
    let v := u |> updMemctl (fun m => { m with sweptAt := u.now }) |> addE 32 Obj.granaryCorrected 0 n
      |> addE 32 Obj.granaryUncorrectable 0 0
    granarySweep n [] s = if n = 0 then v else detect granaryBlock Src.granaryGranaryEcc v := by
  -- Unfolded as a function: an equation at `s` would have the kernel evaluate `s.dueAt`.
  have hdef : granarySweep = granarySweep := rfl
  conv at hdef => rhs; delta granarySweep
  obtain ⟨due, hdue⟩ := exists_dueAt
  rw [hdef, hdue]
  rw [hdue] at hu
  have hnone : (dedup []).filter (· < 32768) = [] := rfl
  simp only [hu, hnone, List.filter_nil, List.append_nil, List.length_nil, List.foldl_nil, detectIf, bne_iff_ne, ne_eq, ite_not]

end

/-! ### The obligation -/

/-- Settles O35: each event of the memory controllers, with what it waits for. -/
theorem memoryCompletes : Obligations.MemoryCompletes := by
  intro s u hp
  refine ⟨fun h rate n hh ht hrate hn => ?_, fun h hh ht hz hr => ?_, fun c ok hc hon hu => ?_, fun hon hu hclean hlast => ?_,
    fun hon => ?_, fun c hc hn => ?_, fun n hu => ?_⟩
  · dsimp only
    rw [← trainingDone_trains ht hrate hn]
    exact runIf_powered (trainingDone h rate n) (decide_eq_true hh) hp
  · dsimp only
    rw [← zeroingDone_trained hh ht hz hr]
    exact runIf_powered (zeroingDone h) (decide_eq_true hh) hp
  · dsimp only
    rw [← memRetrain_due hc hon hu]
    exact runIf_powered (memRetrain c ok false) (decide_eq_true hc) hp
  · have hframe : Framed [] s u := .dueAt hu
    have htop : s.rd Obj.memProtectedTop ≠ 0 := by
      rw [State.rd, cfgN, ← State.rdE, ← hframe.rdE (by decide) List.not_mem_nil]; exact Nat.ne_zero_of_lt hlast
    rw [← scrubStep_clean hclean hlast, ← scrubRead_due 0 hon htop hu]
    exact run_powered (scrubRead 0) hp
  · rw [← scrubWriteback_on hon]; exact run_powered scrubWriteback hp
  · rw [← ceLimit_exceeded hc hn]; exact runIf_powered (ceLimit c) (decide_eq_true hc) hp
  · dsimp only
    rw [← granarySweep_due hu]
    exact run_powered (granarySweep n []) hp

end Sys2Proof.Machine
end

section
/-! ## The machine as a whole: the queue, the levels of the pins, and where a command stops -/
namespace Sys2Proof.Machine
open Sys2Proof

/-! ### Commands that set no reset pin -/

/-- The outcome `o` of a command on `s` is a next state, with the queue and the levels of the reset pins of `s`. -/
def Completes (s : State) (o : Host.Outcome State Fault Refusal) : Prop :=
  ∃ t, o = .next t ∧ t.pending = s.pending ∧ t.boot.powerReset = s.boot.powerReset ∧ t.boot.resetNLow = s.boot.resetNLow

theorem Contained.completes {s : State} {o : Host.Outcome State Fault Refusal} (h : Contained s o) : Completes s o := by
  rcases h with h | ⟨_, t, h⟩
  · exact ⟨s, h, rfl, rfl, rfl⟩
  · exact ⟨outside s t, h, rfl, rfl, rfl⟩

/-- A PGOOD input completes in power-on reset too, where only its level is followed. -/
theorem pgood_completes (r : Nat) (high : Bool) (f : State → State) (s : State) :
    Completes s (if r < 4 then (if s.boot.powerReset then .next (pinGood r high s) else run f s) else .next s) := by
  split
  · split
    · exact ⟨pinGood r high s, rfl, rfl, rfl, rfl⟩
    · exact (run_contained f s).completes
  · exact ⟨s, rfl, rfl, rfl, rfl⟩

theorem exec_completes {c : Instr} (s : State) (hc : pinCommand c = false) : Completes s (exec c s) := by
  cases hin : pinInput c with
  | false => exact (exec_contained c s hin).completes
  | true =>
    cases c
    case pgoodRise r => exact pgood_completes r true (pgoodRise r) s
    case pgoodFall r => exact pgood_completes r false (pgoodFall r) s
    case powerOnReset | powerOnResetRelease | resetNAssert | resetNRelease => cases hc
    all_goals cases hin


/-! ### The commands of the reset pins (R519, R523) -/

section
variable {s : State}

theorem powerOnResetRelease_next (high : Bool) (bootsel : Nat) :
    ∃ t, exec (.powerOnResetRelease high bootsel) s = .next t ∧ t.pending = s.pending := by
  show ∃ t, execPowerOnResetRelease high bootsel s = .next t ∧ _
  unfold execPowerOnResetRelease
  split <;> exact ⟨_, rfl, rfl⟩

theorem resetNRelease_next (bootsel : Nat) : ∃ t, exec (.resetNRelease bootsel) s = .next t ∧ t.pending = s.pending := by
  show ∃ t, execResetNRelease bootsel s = .next t ∧ _
  unfold execResetNRelease
  split
  · exact ⟨_, rfl, rfl⟩
  · split <;> exact ⟨_, rfl, rfl⟩

theorem resetNAssert_stops {n : Nat} (h : stops s (.resetNAssert n) = true) :
    exec (.resetNAssert n) s = .fault .resetPulseUnspecified := by
  simp only [stops, Bool.and_eq_true, decide_eq_true_eq, Bool.not_eq_true'] at h
  obtain ⟨⟨⟨hlong, hshort⟩, hhigh⟩, hp⟩ := h
  have hseen : ¬((decide (n < 100) || s.boot.resetNLow) = true) := by
    rw [hhigh, Bool.or_false, decide_eq_true_eq]; exact Nat.not_lt.mpr hlong
  show execResetNAssert n s = _
  rw [execResetNAssert, if_neg hseen, if_neg (Bool.eq_false_iff.mp hp), if_pos hshort]

theorem resetNAssert_next {n : Nat} (h : stops s (.resetNAssert n) = false) :
    ∃ t, exec (.resetNAssert n) s = .next t ∧ t.pending = s.pending := by
  show ∃ t, execResetNAssert n s = .next t ∧ _
  unfold execResetNAssert
  split
  · exact ⟨s, rfl, rfl⟩
  · next hseen =>
    split
    · exact ⟨_, rfl, rfl⟩
    · next hp =>
      split
      · next hshort =>
        have hstops : stops s (.resetNAssert n) = true := by
          simp only [Bool.or_eq_true, decide_eq_true_eq, not_or, Nat.not_lt, Bool.not_eq_true] at hseen hp
          simp only [stops, hseen, hp, hshort, decide_true, Bool.not_false, Bool.and_self]
        rw [h] at hstops; cases hstops
      · exact ⟨_, rfl, setPins_pending ..⟩

end

/-- Where a command does not stop by name, it completes and keeps the queue. -/
theorem exec_next (c : Instr) (s : State) (h : stops s c = false) : ∃ t, exec c s = .next t ∧ t.pending = s.pending := by
  cases hc : pinCommand c with
  | false =>
    obtain ⟨t, ht, hpending, _⟩ := exec_completes s hc
    exact ⟨t, ht, hpending⟩
  | true =>
    cases c
    case powerOnReset => exact ⟨setPins s true s.boot.resetNLow (powerOnReset s), rfl, setPins_pending ..⟩
    case powerOnResetRelease high bootsel => exact powerOnResetRelease_next high bootsel
    case resetNAssert => exact resetNAssert_next h
    case resetNRelease bootsel => exact resetNRelease_next bootsel
    all_goals cases hc

/-- The only command that can stop is a RESET_N pulse. -/
theorem exec_stops {c : Instr} {s : State} (h : stops s c = true) : exec c s = .fault .resetPulseUnspecified := by
  cases c
  case resetNAssert => exact resetNAssert_stops h
  all_goals cases h

/-! ### The obligations -/

/-- Settles O1: the queue has a front, so the step is that command's. -/
theorem stepRunsFront : Obligations.StepRunsFront := by
  intro c rest s hq
  rw [step, hq]

/-- Settles O3: a command that completes keeps the queue, and one that stops leaves no state. -/
theorem execKeepsQueue : Obligations.ExecKeepsQueue := by
  intro c s t h
  cases hs : stops s c with
  | false =>
    obtain ⟨t', ht', hpending⟩ := exec_next c s hs
    rw [h] at ht'
    cases ht'
    exact hpending
  | true => rw [exec_stops hs] at h; cases h

/-- Settles O4: a command that sets no reset pin completes inside them. -/
theorem onlyPinCommandsMovePins : Obligations.OnlyPinCommandsMovePins := by
  intro c s t hc h
  obtain ⟨t', ht', _, hpins⟩ := exec_completes s hc
  rw [h] at ht'
  cases ht'
  exact hpins

/-- Settles O5: where the pulse of RESET_N is of no open length, every command has a next state. -/
theorem commandsComplete : Obligations.CommandsComplete :=
  fun c s => ⟨fun h => let ⟨t, ht, _⟩ := exec_next c s h; ⟨t, ht⟩, exec_stops⟩

end Sys2Proof.Machine
end

section
/-! ## Commands that leave what their effect makes of the state -/
namespace Sys2Proof.Machine
open Sys2Proof

section
variable {f : State → State} {s t : State}

theorem run_of_eq (hp : s.powered) (h : f s = t) : run f s = .next (after s t) := h ▸ run_powered f hp

theorem runPower_of_eq (hp : s.powered) (h : f (settle s) = t) : runPower f s = .next (afterPower s t) := h ▸ runPower_powered f hp

theorem runIf_of_eq {c : Prop} [Decidable c] (hc : c) (hp : s.powered) (h : f s = t) : runIf c f s = .next (after s t) :=
  h ▸ runIf_powered f (decide_eq_true hc) hp

theorem runPowerIf_of_eq {c : Prop} [Decidable c] (hc : c) (hp : s.powered) (h : f (settle s) = t) :
    runPowerIf c f s = .next (afterPower s t) := h ▸ runPowerIf_powered f (decide_eq_true hc) hp

end

/-- A request that the server takes is answered with the code and the detail of its command. -/
theorem serverDo_of_eq {f : State → Abort × State} {s t : State} {a d : Nat} (hs : s.serving) (hf : f s = ((a, d), t)) :
    serverDo f s = answered a d t := by
  obtain ⟨hup, hfree⟩ := hs
  rw [serverDo_serving _ hup hfree, hf]

end Sys2Proof.Machine
end

section
/-! ## The host link, BAR2 and the recovery port -/
namespace Sys2Proof.Machine
open Sys2Proof

/-! ### The states of the link (R386, R392, R396) -/

section
variable {s : State}

theorem usb4LinkUp_down {r : Nat} (hon : s.isOn 2 = true) (hl : s.link = 0) (hlo : 1 ≤ r) (hhi : r ≤ 3) :
    usb4LinkUp r s = (s |> wr Obj.hostLinkState 1 |> wr Obj.hostLinkRate r) := by
  have hgo : (s.isOn 2 && s.link == 0 && decide (1 ≤ r) && decide (r ≤ 3)) = true := by
    rw [hon, hl, decide_eq_true hlo, decide_eq_true hhi]; rfl
  exact if_pos hgo

theorem pcieTunnelUp_usb4Up (hl : s.link = 1) :
    pcieTunnelUp s = (s |> wr Obj.hostLinkState 2 |> wr Obj.hostMaxPayload 128 |> wr Obj.hostReadRequest 512) := if_pos hl

theorem busMasterEnter_pcieUp (hl : s.link = 2) :
    busMasterEnter s = ({ s with host := { s.host with lost := false } } |> wr Obj.hostLinkState 3 |> inc 32 Obj.hostLinkEpoch) :=
  if_pos hl

/-- A cleared enable and D3hot both end BUS_MASTER; the latter alone is a fault. -/
theorem busMasterExit_busMaster (d3hot : Bool) (hl : s.link = 3) :
    busMasterExit d3hot s = (s |> wr Obj.hostLinkState 2 |> detectIf d3hot hostBlock Src.hostLinkDown) := if_pos hl

theorem functionReset_tunnel (hl : 2 ≤ s.link) :
    functionReset s = (s |> wr Obj.hostLinkState 2 |> leaveMaster s.link |> linkLoss |> resetConfigSpace) :=
  if_neg (Nat.not_lt.mpr hl)

theorem dropLink_up (hl : s.link ≠ 0) :
    dropLink s = (s |> wr Obj.hostLinkState 0 |> wr Obj.hostLinkRate 0 |> inc 32 Obj.hostLinkDowns |> leaveMaster s.link
      |> linkLoss) := if_neg hl

end

/-! ### BAR2 and the status page (R389, R391) -/

section
variable {s : State} {o n : Nat}

/-- An access of BAR2 is made where the BARs answer and it covers a byte. -/
theorem bar2Access_guard (hb : s.barsUp = true) (hn : 0 < n) : ¬(!s.barsUp || decide (n = 0)) = true := by
  rw [hb, decide_eq_false (Nat.ne_of_gt hn)]; decide

theorem bar2Access_absent (hb : s.barsUp = true) (hn : 0 < n)
    (ha : s.bar2Present o = false ∨ s.bar2Present (o + n - 1) = false) (isWrite : Bool) (data : List Byte) :
    bar2Access isWrite o n data s
      = if isWrite then bar2Absent s else emit (.completion false (List.replicate n 0xFF)) (bar2Absent s) := by
  have habsent : (!(s.bar2Present o && s.bar2Present (o + n - 1))) = true := by
    rw [Bool.not_eq_true', Bool.and_eq_false_iff]; exact ha
  rw [bar2Access, if_neg (bar2Access_guard hb hn), if_pos habsent]

section
variable {a : Nat} {data : List Byte} (hb : s.barsUp = true) (hn : 0 < n) (hfirst : s.bar2Present o = true)
  (hlast : s.bar2Present (o + n - 1) = true) (ha : bar2Addr o = some a)
include hb hn hfirst hlast ha

theorem bar2Access_write : bar2Access true o n data s = memWrite a (padTo n data) s := by
  rw [bar2Access, if_neg (bar2Access_guard hb hn), hfirst, hlast, ha]; rfl

theorem bar2Access_read {b : List Byte} {u : State} (hr : memRead a n s = (some b, u)) :
    bar2Access false o n data s = emit (.completion false b) u := by
  rw [bar2Access, if_neg (bar2Access_guard hb hn), hfirst, hlast, ha]
  simp only [Bool.and_self, Bool.not_true, Bool.false_eq_true, if_false, Option.getD_some, hr]

end

theorem timeSecondsLatch_barsUp (hb : s.barsUp = true) :
    timeSecondsLatch s = ({ s with host := { s.host with nsLatch := s.nowNs % 1000000000 } }
      |> emit (.completion false (leBytes 8 (s.nowNs / 1000000000)))) := if_pos hb

theorem statusClear_badAccess (hb : s.barsUp = true) :
    statusClear 0x40 s
      = (s |> emit (.completion false (leBytes 4 (s.rd Obj.hostBadAccess))) |> wr Obj.hostBadAccess 0) := by
  rw [statusClear, hb]; rfl

theorem statusClear_bar2Absent (hb : s.barsUp = true) :
    statusClear 0x44 s
      = (s |> emit (.completion false (leBytes 4 (s.rd Obj.hostBar2Absent))) |> wr Obj.hostBar2Absent 0) := by
  rw [statusClear, hb]; rfl

end

/-! ### Transfers of the recovery port (R398) -/

section
variable {s u : State} {h : RecHdr} {op st : Nat} {data : List Byte} {f : State → Nat × List Byte × State}

theorem usbTransfer_good (hr : s.romServes 2 = true) (hg : h.good = true) (hf : f s = (st, data, u)) :
    usbTransfer op h f s = emit (.recovery op st h.tag data) u := by
  simp only [usbTransfer, hr, hg, hf, Bool.not_true, Bool.false_eq_true, if_false]

theorem usbTransfer_bad (hr : s.romServes 2 = true) (hg : h.good = false) :
    usbTransfer op h f s = emit (.recovery op 1 h.tag []) s := by
  rw [usbTransfer, hr, hg]; rfl

theorem usbLoad_good {o : Nat} {b : List Byte} (hr : s.romServes 2 = true) (hg : h.good = true) (hotp : s.otpLost = false)
    (hload : romLoad o 65536 b s = (st, u)) : usbLoad h o b s = emit (.recovery 2 st h.tag []) u := by
  rw [usbLoad, if_neg (Bool.eq_false_iff.mp hotp)]
  exact usbTransfer_good hr hg (by rw [hload])

theorem usbBoot_good {n : Nat} (hr : s.romServes 2 = true) (hg : h.good = true) (hotp : s.otpLost = false)
    (hboot : romBoot n s = (st, u)) : usbBoot h n s = emit (.recovery 3 st h.tag []) u := by
  rw [usbBoot, if_neg (Bool.eq_false_iff.mp hotp)]
  exact usbTransfer_good hr hg (by rw [hboot])

end

/-! ### The obligations -/

/-- Settles O36: the commands of the link, then accesses of the host. -/
theorem hostLinkCompletes : Obligations.HostLinkCompletes := by
  refine ⟨fun s hp => ⟨fun r hon hl hlo hhi => ?_, fun hl => ?_, fun hl => ?_, fun hl => ?_, fun hl => ?_, fun hl => ?_, fun hl => ?_⟩,
    fun s hp hb => ⟨fun o n a data hn hfirst hlast ha => ⟨?_, fun b u hr => ?_⟩, ?_, ?_, ?_⟩⟩
  · exact run_of_eq hp (usb4LinkUp_down hon hl hlo hhi)
  · exact run_of_eq hp (pcieTunnelUp_usb4Up hl)
  · exact run_of_eq hp (busMasterEnter_pcieUp hl)
  · exact run_of_eq hp (busMasterExit_busMaster false hl)
  · exact run_of_eq hp (busMasterExit_busMaster true hl)
  · exact run_of_eq hp (functionReset_tunnel hl)
  · exact run_of_eq hp (dropLink_up hl)
  · exact run_of_eq hp (bar2Access_write hb hn hfirst hlast ha)
  · exact run_of_eq hp (bar2Access_read hb hn hfirst hlast ha hr)
  · exact run_of_eq hp (timeSecondsLatch_barsUp hb)
  · exact run_of_eq hp (statusClear_badAccess hb)
  · exact run_of_eq hp (statusClear_bar2Absent hb)

/-- Settles O58: an absent place answers as such, whether it is read or written. -/
theorem absentBar2 : Obligations.AbsentBar2 := by
  intro s o n data hp hb hn ha
  exact ⟨run_of_eq hp (bar2Access_absent hb hn ha false data), run_of_eq hp (bar2Access_absent hb hn ha true data)⟩

/-- Settles O37: the four transfers with a good header, then the two with a bad one. -/
theorem recoveryCompletes : Obligations.RecoveryCompletes := by
  intro s h hp hr
  refine ⟨fun hg => ⟨?_, fun o b st u hotp hload => ?_, fun n st u hotp hboot => ?_, ?_⟩, fun hg => ⟨?_, ?_⟩⟩
  · exact run_of_eq hp (usbTransfer_good hr hg rfl)
  · exact run_of_eq hp (usbLoad_good hr hg hotp hload)
  · exact run_of_eq hp (usbBoot_good hr hg hotp hboot)
  · exact run_of_eq hp (usbTransfer_good hr hg rfl)
  · exact run_of_eq hp (usbTransfer_bad hr hg)
  · exact run_of_eq hp (usbTransfer_bad hr hg)

end Sys2Proof.Machine
end

section
/-! ## Fault records -/
namespace Sys2Proof.Machine
open Sys2Proof

/-! ### The record of one detection (R471) -/

section
variable {b i : Nat} {s : State}

theorem rd_inc (w a a' : Nat) (s : State) : (inc w a s).rd a' = if a = a' then (s.rd a + 1) % 2 ^ w else s.rd a' := rd_wr ..

theorem rd_satE_ne {w a a' e : Nat} (n : Nat) (s : State) (he : e < 2 ^ 24) (h : a ≠ a') : (satE w a e n s).rd a' = s.rd a' :=
  (rdE_wrE s _ he (Nat.two_pow_pos 24)).trans (if_neg fun h' => h h'.1)

/-- The first detection since the sticky word was 0 is kept apart. -/
def noteFirst (b i : Nat) (s : State) : State :=
  if s.rd (Obj.faultSticky b) = 0 then s |> wr (Obj.faultFirstSource b) i |> wr (Obj.faultFirstStep b) s.openStep else s

theorem noteFirst_rdE {addr e : Nat} (he : e < 2 ^ 24) (hsource : addr ≠ Obj.faultFirstSource b)
    (hstep : addr ≠ Obj.faultFirstStep b) : (noteFirst b i s).rdE addr e = s.rdE addr e := by
  unfold noteFirst
  split
  · rw [rdE_wr_ne he _ _ hstep, rdE_wr_ne he _ _ hsource]
  · rfl

theorem recordDetection_eq (b i : Nat) (s : State) :
    recordDetection b i s = (noteFirst b i s |> wr (Obj.faultSticky b) (setBit (s.rd (Obj.faultSticky b)) i)
      |> inc 32 (Obj.faultCount b) |> satE 16 (Obj.faultSourceCount b) i 1 |> wr (Obj.faultLastSource b) i
      |> wr (Obj.faultLastStep b) s.openStep |> wr (Obj.faultLastTime b) (s.nowNs % 2 ^ 64)) := by
  have htime : (noteFirst b i s).nowNs = s.nowNs := by unfold noteFirst; split <;> rfl
  rw [← htime]; rfl

/-- A scalar of the record that no detection but the first writes. -/
theorem recordDetection_rd_first (hi : i < 2 ^ 24) {a : Nat} (ha : a = Obj.faultFirstSource b ∨ a = Obj.faultFirstStep b) :
    (recordDetection b i s).rd a = (noteFirst b i s).rd a := by
  rw [recordDetection_eq]
  rcases ha with rfl | rfl <;> simp [rd_wr, rd_inc, rd_satE_ne _ _ hi]

theorem recordDetection_first_new (hi : i < 2 ^ 24) (hz : s.rd (Obj.faultSticky b) = 0) :
    (recordDetection b i s).rd (Obj.faultFirstSource b) = i ∧ (recordDetection b i s).rd (Obj.faultFirstStep b) = s.openStep := by
  rw [recordDetection_rd_first hi (.inl rfl), recordDetection_rd_first hi (.inr rfl), noteFirst, if_pos hz]
  simp [rd_wr]

theorem recordDetection_first_old (hi : i < 2 ^ 24) (hz : s.rd (Obj.faultSticky b) ≠ 0) :
    (recordDetection b i s).rd (Obj.faultFirstSource b) = s.rd (Obj.faultFirstSource b) ∧
      (recordDetection b i s).rd (Obj.faultFirstStep b) = s.rd (Obj.faultFirstStep b) := by
  rw [recordDetection_rd_first hi (.inl rfl), recordDetection_rd_first hi (.inr rfl), noteFirst, if_neg hz]
  exact ⟨rfl, rfl⟩

theorem recordDetection_last : (recordDetection b i s).rd (Obj.faultLastSource b) = i ∧
    (recordDetection b i s).rd (Obj.faultLastStep b) = s.openStep ∧
    (recordDetection b i s).rd (Obj.faultLastTime b) = s.nowNs % 2 ^ 64 := by
  rw [recordDetection_eq]
  simp [rd_wr]

theorem recordDetection_stickyWord (hi : i < 2 ^ 24) :
    (recordDetection b i s).rd (Obj.faultSticky b) = setBit (s.rd (Obj.faultSticky b)) i := by
  rw [recordDetection_eq]
  simp [rd_wr, rd_inc, rd_satE_ne _ _ hi]

theorem recordDetection_count (hi : i < 2 ^ 24) :
    (recordDetection b i s).rd (Obj.faultCount b) = (s.rd (Obj.faultCount b) + 1) % 2 ^ 32 := by
  have hfirst : (noteFirst b i s).rd (Obj.faultCount b) = s.rd (Obj.faultCount b) :=
    noteFirst_rdE (Nat.two_pow_pos 24) (by simp) (by simp)
  rw [recordDetection_eq]
  simp [rd_wr, rd_inc, rd_satE_ne _ _ hi, hfirst]

theorem recordDetection_sourceCount_ne {j : Nat} (hi : i < 2 ^ 24) (hj : j < 2 ^ 24) (hne : j ≠ i) :
    (recordDetection b i s).rdE (Obj.faultSourceCount b) j = s.rdE (Obj.faultSourceCount b) j := by
  rw [recordDetection_eq, rdE_wr_ne hj _ _ (by simp), rdE_wr_ne hj _ _ (by simp), rdE_wr_ne hj _ _ (by simp), satE,
    rdE_wrE _ _ hi hj, if_neg (fun h => hne h.2.symm), rdE_inc_ne hj _ _ (by simp), rdE_wr_ne hj _ _ (by simp),
    noteFirst_rdE hj (by simp) (by simp)]

theorem bit_setBit_ne {n i j : Nat} (h : j ≠ i) : bit (setBit n i) j = bit n j := by
  rw [bit, setBit, Nat.testBit_or, Nat.testBit_two_pow_of_ne h.symm, Bool.or_false, bit]

theorem faultRecord_le {a : Nat} (h : a ∈ faultRecord b) : 0x700000 ≤ a :=
  Nat.le_of_not_lt fun ha => not_mem_faultRecord ha h

/-- A detection that is made leaves the sticky bits of the other sources. -/
theorem detect_sticky_ne {j : Nat} (hd : s.canDetect b i = true) (hi : i < 2 ^ 24) (hne : j ≠ i) :
    (detect b i s).sticky b j = s.sticky b j := by
  have hword : (detect b i s).rd (Obj.faultSticky b) = setBit (s.rd (Obj.faultSticky b)) i :=
    (detect_rdE_recorded hd (Nat.two_pow_pos 24) (faultRecord_le (b := b) (by simp [faultRecord]))).trans (recordDetection_stickyWord hi)
  rw [State.sticky, hword, bit_setBit_ne hne, State.sticky]

end

theorem bitsOf_ascending (w n : Nat) : (bitsOf w n).Pairwise (· < ·) := List.pairwise_lt_range.filter _

/-! ### Clearing and forcing (R472, R476, R477) -/

section
variable {b mask : Nat} {s : State}

theorem faultClear_grave (hb : b < 93) (hg : s.rd (Obj.faultSticky b) &&& mask &&& faultGrave b ≠ 0) :
    faultClear b mask s = (Ab.valueRange, s) := by
  rw [faultClear, if_neg (Nat.not_le.mpr hb), if_pos hg]

/-- The named sources of block b are cleared, whatever their conditions. -/
def clearSticky (b mask : Nat) (s : State) : State :=
  s |> wr (Obj.faultSticky b) (andNot (s.rd (Obj.faultSticky b)) mask) |> unkeepPins b (s.rd (Obj.faultSticky b) &&& mask)

/-- Those of the sources `l` that are forced or whose state lasts are detected again. -/
def detectLasting (b : Nat) (l : List Nat) (s : State) : State :=
  l.foldl (fun s i => detectIf (s.forcedSource b i || s.lasting b i) b i s) s

theorem faultClear_plain (hb : b < 93) (hg : s.rd (Obj.faultSticky b) &&& mask &&& faultGrave b = 0) :
    faultClear b mask s
      = (Ab.ok, detectLasting b (bitsOf 32 (s.rd (Obj.faultSticky b) &&& mask)) (clearSticky b mask s)) := by
  rw [faultClear, if_neg (Nat.not_le.mpr hb), if_neg (not_not_intro hg)]; rfl

theorem detectLasting_none {l : List Nat} (h : ∀ i ∈ l, s.forcedSource b i = false ∧ s.lasting b i = false) :
    detectLasting b l s = s := by
  unfold detectLasting
  induction l with
  | nil => rfl
  | cons i l ih =>
    obtain ⟨hforced, hlasting⟩ := h i List.mem_cons_self
    rw [List.foldl_cons, hforced, hlasting, Bool.or_false, detectIf_false]
    exact ih fun j hj => h j (List.mem_cons_of_mem i hj)

theorem mem_bitsOf_lt {w n i : Nat} (h : i ∈ bitsOf w n) : i < w := List.mem_range.mp (List.mem_filter.mp h).1

theorem faultForce_on (hb : b < 93) (hon : s.isOn (blockDomain b) = true) :
    faultForce b mask s = (Ab.ok, (bitsOf 32 (andNot (mask &&& faultPresent b) (s.rd (Obj.faultForce b)))).foldl
      (fun s i => detect b i s) (wr (Obj.faultForce b) (mask &&& faultPresent b) s)) := by
  rw [faultForce, if_neg (Nat.not_le.mpr hb), hon]; rfl

theorem faultClearCounts_block (hb : b < 93) : faultClearCounts b s = (s |> wr (Obj.faultCount b) 0
    |> wr (Obj.faultFirstStep b) 0 |> wr (Obj.faultLastStep b) 0 |> wr (Obj.faultLastTime b) 0
    |> clearObj (Obj.faultSourceCount b) 32 |> wr (Obj.faultFirstSource b) 0xFF |> wr (Obj.faultLastSource b) 0xFF) :=
  if_neg (Nat.not_le.mpr hb)

/-- A request that names a domain and succeeds answers OK without a detail. -/
theorem serverDo_withDomain_ok {d : Nat} {f : State → Nat × State} {t : State} (hs : s.serving) (hf : f s = (Ab.ok, t)) :
    serverDo (fun s => withDomain d (f s)) s = answered Ab.ok 0 t :=
  serverDo_of_eq hs (by rw [hf]; rfl)

end

/-! ### The obligations -/

/-- Settles O54, field after field of the record: forcing the HOLD pairs, and the reaction that waits, touch none. -/
theorem detectionRecorded : Obligations.DetectionRecorded := by
  refine ⟨fun b i s _ hi hd => ?_, bitsOf_ascending 32⟩
  have hi : i < 2 ^ 24 := Nat.lt_trans hi (by decide)
  have hrd : ∀ a ∈ faultRecord b, (detect b i s).rd a = (recordDetection b i s).rd a :=
    fun a ha => detect_rdE_recorded hd (Nat.two_pow_pos 24) (faultRecord_le ha)
  simp only [faultRecord, List.forall_mem_cons] at hrd
  obtain ⟨hfirst, hfirstStep, -, hcount, -, hlast, hlastStep, hlastTime, -⟩ := hrd
  dsimp only
  rw [hfirst, hfirstStep, hcount, hlast, hlastStep, hlastTime]
  obtain ⟨hsource, hstep, htime⟩ := recordDetection_last (b := b) (i := i) (s := s)
  refine ⟨detect_sticky hd hi, fun j hne => detect_sticky_ne hd hi hne, recordDetection_count hi, detect_sourceCount hd hi,
    fun j hj hne => ?_, hsource, hstep, htime, recordDetection_first_new hi, recordDetection_first_old hi, detect_mem b i s⟩
  have hj : j < 2 ^ 24 := Nat.lt_trans hj (by decide)
  rw [detect_rdE_recorded hd hj (faultRecord_le (b := b) (by simp [faultRecord])), recordDetection_sourceCount_ne hi hj hne]

/-- Settles O55: a GRAVE bit stops the command before it clears anything, and without a lasting state nothing is detected
again. -/
theorem graveBitsStay : Obligations.GraveBitsStay := by
  intro s b mask hp hb hm hs
  refine ⟨fun hg => runPower_of_eq hp (serverDo_of_eq hs ?_), fun hg hnone => ?_⟩
  · rw [Nat.mod_eq_of_lt hm, faultClear_grave hb hg]; rfl
  · rw [faultClear_plain hb hg, detectLasting_none (s := clearSticky b mask s) fun i hi => hnone i (mem_bitsOf_lt hi)]; rfl

/-- Settles O48, one command after the other. -/
theorem faultCommandsComplete : Obligations.FaultCommandsComplete := by
  intro s b mask hp hb hm
  refine ⟨fun hs hg => runPower_of_eq hp (serverDo_withDetail_ok hs ?_),
    fun hs hon => runPower_of_eq hp (serverDo_withDomain_ok hs ?_), fun hs => run_of_eq hp (serverDo_of_eq hs ?_)⟩
  · rw [Nat.mod_eq_of_lt hm]; exact faultClear_plain hb hg
  · rw [Nat.mod_eq_of_lt hm]; exact faultForce_on hb hon
  · rw [faultClearCounts_block hb]; rfl

end Sys2Proof.Machine
end

section
/-! ## PTP: messages received -/
namespace Sys2Proof.Machine
open Sys2Proof

section
variable {h : PtpHdr} {s u : State}

/-! ### Event messages and their stamps (R409) -/

theorem eventIn_stamped (hup : s.portUp h.port = true) (hst : h.stamped = true) (f : State → State) :
    eventIn h f s = f (frameIn h.port s) := by
  rw [eventIn, if_pos hup, if_pos hst]

theorem eventIn_unstamped (hup : s.portUp h.port = true) (hst : h.stamped = false) (f : State → State) :
    eventIn h f s = stampLost (frameIn h.port s) := by
  rw [eventIn, if_pos hup, if_neg (Bool.eq_false_iff.mp hst)]

/-! ### Messages of the master (R413, R414) -/

/-- From the master a one-step Sync is a sample, and a two-step Sync waits for its Follow_Up. -/
theorem syncRx_fromMaster (hup : s.portUp h.port = true) (hst : h.stamped = true)
    (hu : forward 0 true ((frameIn h.port s).syncExtra h.port) h (frameIn h.port s) = u) (hm : u.fromMaster h = true)
    (two : Bool) (t1 : Nat) :
    syncRx h two t1 s
      = if two then updPtp (fun p => { p with pendingSync := some ⟨h, u.now⟩ }) u else takeSync h t1 h.correction u := by
  rw [syncRx, eventIn_stamped hup hst]
  dsimp only
  rw [hu, if_pos hm]

/-- The Sync `q` waits in `u` for the Follow_Up `h`, and one sync interval has not passed. -/
structure Awaited (u : State) (q : PendingSync) (h : PtpHdr) : Prop where
  waits : u.ptp.pendingSync = some q
  master : u.fromMaster h = true
  seq : q.h.seq = h.seq
  port : q.h.port = h.port
  clockId : q.h.clockId = h.clockId
  portNumber : q.h.portNumber = h.portNumber
  inTime : u.now ≤ q.at' + u.syncInterval

theorem followUpRx_awaited {q : PendingSync} (hup : s.portUp h.port = true) (hu : forward 8 false 0 h (frameIn h.port s) = u)
    (hq : Awaited u q h) (t1 : Nat) :
    followUpRx h t1 s = (u |> updPtp (fun p => { p with pendingSync := none })
      |> takeSync q.h t1 (q.h.correction + h.correction)) := by
  have hmine : (u.fromMaster h && q.h.seq == h.seq && q.h.port == h.port && q.h.clockId == h.clockId
      && q.h.portNumber == h.portNumber && decide (u.now ≤ q.at' + u.syncInterval)) = true := by
    simp only [hq.master, hq.seq, hq.port, hq.clockId, hq.portNumber, hq.inTime, beq_self_eq_true, decide_true, Bool.and_self]
  rw [followUpRx, if_pos hup]
  simp only [hu, hq.waits, if_pos hmine]

theorem delayRespRx_awaited {seq t3 : Nat} {diff : Int} (hup : s.portUp h.port = true)
    (hu : forward 9 false 0 h (frameIn h.port s) = u) (hreq : u.ptp.delayReqAt = some (seq, t3))
    (hdiff : u.ptp.syncDiff = some diff) (hm : u.fromMaster h = true) (he2e : u.p2p = false) (hseq : seq = h.seq) (t4 : Nat) :
    let x := u.filtered (u.rdI 64 Obj.ptpMeanDelay 0) (diff + ((t4 : Int) * 65536 - (t3 : Int) - h.correction))
    delayRespRx h t4 s
      = (u |> wr Obj.ptpMeanDelay (ofSigned 64 x) |> updPtp (fun p => { p with delayReqAt := none })) := by
  have hmine : (u.fromMaster h && !u.p2p && seq == h.seq) = true := by rw [hm, he2e, hseq, beq_self_eq_true]; rfl
  dsimp only
  rw [delayRespRx, if_pos hup]
  simp only [hu, hreq, hdiff, if_pos hmine]

/-! ### The best master clock algorithm (R408) -/

/-- The sender of an Announce is known with it, and with the instant of the one before. -/
def noteAnnounce (h : PtpHdr) (a : AnnounceData) (s : State) : State :=
  let same := fun (f : Foreign) => f.port == h.port && f.clockId == h.clockId && f.portNumber == h.portNumber
  updPtp (fun p => { p with foreign := p.foreign.filter (fun f => !same f)
    ++ [⟨h.port, h.clockId, h.portNumber, a, s.now, (s.ptp.foreign.find? same).map (·.at')⟩] }) s

theorem announceRx_foreign {a : AnnounceData} (hup : s.portUp h.port = true)
    (hu : forward 0xB false 0 h (frameIn h.port s) = u) (hd : u.ownDomain h = true) (ha : a.stepsRemoved < 255)
    (hm : u.fromMaster h = false) : announceRx h a s = selectBest (noteAnnounce h a u) := by
  have htaken : (u.ownDomain h && decide (a.stepsRemoved < 255)) = true := by rw [hd, decide_eq_true ha]; rfl
  have hother : ¬(noteAnnounce h a u).fromMaster h = true := Bool.eq_false_iff.mp hm
  unfold noteAnnounce at hother ⊢
  rw [announceRx, if_pos hup]
  simp only [hu, if_pos htaken]
  exact congrArg selectBest (if_neg hother)

/-! ### Requests (R410) -/

theorem delayReqRx_master (hup : s.portUp h.port = true) (hst : h.stamped = true)
    (hu : forward 1 true 0 h (frameIn h.port s) = u) (hd : u.ownDomain h = true) (he2e : u.p2p = false)
    (hm : u.rd Obj.ptpState = ptpMaster) : delayReqRx h s = sendPtp 9 h.port (u.rxTime h) (h.seq : Int) u := by
  have hanswers : (u.ownDomain h && !u.p2p && u.rd Obj.ptpState == ptpMaster) = true := by
    rw [hd, he2e, hm]; rfl
  rw [delayReqRx, eventIn_stamped hup hst]
  simp only [hu, if_pos hanswers]

theorem pdelayReqRx_p2p (hup : s.portUp h.port = true) (hst : h.stamped = true) (hu : frameIn h.port s = u)
    (hp2p : u.p2p = true) (hon : u.ptpOn = true) (hd : h.domain = u.rd Obj.ptpDomain) (stamp : Nat) :
    pdelayReqRx h stamp s = sendPtp 3 h.port (u.txTime h.port stamp - u.rxTime h) (h.seq : Int) u := by
  have hanswers : (u.ptpOn && h.domain == u.rd Obj.ptpDomain) = true := by rw [hon, hd, beq_self_eq_true]; rfl
  rw [pdelayReqRx, eventIn_stamped hup hst]
  simp only [hu, if_pos hp2p, if_pos hanswers]

theorem pdelayRespRx_awaited {seq t1 : Nat} (hup : s.portUp h.port = true) (hst : h.stamped = true)
    (hu : frameIn h.port s = u) (hp2p : u.p2p = true) (hon : u.ptpOn = true)
    (hreq : u.ptp.pdelayAt.getD h.port none = some (seq, t1)) (hseq : seq = h.seq) :
    let x := u.filtered (u.rdI 64 Obj.ptpLinkDelay h.port) (u.rxTime h - (t1 : Int) - h.correction)
    pdelayRespRx h s = (u |> wrE Obj.ptpLinkDelay h.port (ofSigned 64 x)
      |> updPtp (fun p => { p with pdelayAt := setAt p.pdelayAt h.port none })) := by
  have hmine : (u.ptpOn && seq == h.seq) = true := by rw [hon, hseq, beq_self_eq_true]; rfl
  dsimp only
  rw [pdelayRespRx, eventIn_stamped hup hst]
  simp only [hu, if_pos hp2p, hreq, if_pos hmine]

theorem managementRx_portUp (hup : s.portUp h.port = true) :
    managementRx h s = (s |> frameIn h.port |> forward 0xD false 0 h) := if_pos hup

end

/-! ### The obligation -/

/-- Settles O38: each kind of message with its stamp, then the event messages without one. -/
theorem ptpReceiveCompletes : Obligations.PtpReceiveCompletes := by
  intro h s hp
  refine ⟨fun hup hst hm t1 => ⟨?_, ?_⟩, fun hup q t1 hq hm hseq hport hid hnum hnow => ?_,
    fun hup seq t3 t4 diff hreq hdiff hm he2e hseq => ?_, fun hup a hd ha hm => ?_, fun hup hst hd he2e hm => ?_,
    fun hup hst hp2p hon hd stamp => ?_, fun hup hst seq t1 hp2p hon hreq hseq => ?_, fun hup => ?_,
    fun hst => ⟨fun hup two t1 => ?_, fun hup stamp => ⟨?_, ?_, ?_⟩⟩⟩
  · exact runPower_of_eq hp (syncRx_fromMaster hup hst rfl hm false t1)
  · exact runPower_of_eq hp (syncRx_fromMaster hup hst rfl hm true t1)
  · exact runPower_of_eq hp (followUpRx_awaited hup rfl ⟨hq, hm, hseq, hport, hid, hnum, hnow⟩ t1)
  · exact runPower_of_eq hp (delayRespRx_awaited hup rfl hreq hdiff hm he2e hseq t4)
  · exact run_of_eq hp (announceRx_foreign hup rfl hd ha hm)
  · exact run_of_eq hp (delayReqRx_master hup hst rfl hd he2e hm)
  · exact run_of_eq hp (pdelayReqRx_p2p hup hst rfl hp2p hon hd stamp)
  · exact run_of_eq hp (pdelayRespRx_awaited hup hst rfl hp2p hon hreq hseq)
  · exact run_of_eq hp (managementRx_portUp hup)
  · exact runPower_of_eq hp (eventIn_unstamped hup hst _)
  · exact run_of_eq hp (eventIn_unstamped hup hst _)
  · exact run_of_eq hp (eventIn_unstamped hup hst _)
  · exact run_of_eq hp (eventIn_unstamped hup hst _)

end Sys2Proof.Machine
end

section
/-! ## PTP: messages sent, and timeouts -/
namespace Sys2Proof.Machine
open Sys2Proof

/-- `ptpDue` as a function of which nothing is known but this equation (see `exists_dueAt`). -/
theorem exists_ptpDue : ∃ due, State.ptpDue = due := ⟨_, rfl⟩

section
variable {s u : State}

/-! ### Messages of the clock's own (R408, R410, R414) -/

/-- A Sync with the stamp of its own departure as origin. -/
def sendSync (stamp p : Nat) (s : State) : State := sendPtp 0 p (s.txTime p stamp / 65536) (s.txTime p stamp % 65536) s
/-- An Announce with the clock's priorities. -/
def sendAnnounce (p : Nat) (s : State) : State := sendPtp 0xB p (s.rd Obj.ptpPriority1 : Int) (s.rd Obj.ptpPriority2 : Int) s

theorem masterSends_guard (hon : s.ptpOn = true) (hm : s.rd Obj.ptpState = ptpMaster) :
    (s.ptpOn && s.rd Obj.ptpState == ptpMaster) = true := by rw [hon, hm]; rfl

theorem syncTx_due (stamp : Nat) (hon : s.ptpOn = true) (hm : s.rd Obj.ptpState = ptpMaster)
    (hu : s.ptpDue 0 s.syncInterval = some u) :
    syncTx stamp s = (u |> sendSync stamp 0 |> sendSync stamp 1 |> noteTx 0) := by
  obtain ⟨due, hdue⟩ := exists_ptpDue
  rw [syncTx, if_pos (masterSends_guard hon hm), hdue]
  rw [hdue] at hu
  simp only [hu, sendSync]

theorem announceTx_due (hon : s.ptpOn = true) (hm : s.rd Obj.ptpState = ptpMaster)
    (hu : s.ptpDue 0xB s.announceInterval = some u) :
    announceTx s = (u |> sendAnnounce 0 |> sendAnnounce 1 |> noteTx 0xB) := by
  obtain ⟨due, hdue⟩ := exists_ptpDue
  rw [announceTx, if_pos (masterSends_guard hon hm), hdue]
  rw [hdue] at hu
  simp only [hu, sendAnnounce]

theorem delayReqTx_due {m : Foreign} (req : Option Nat) (hm : s.ptp.master = some m) (hon : s.ptpOn = true)
    (hslave : s.isSlave = true) (he2e : s.p2p = false) (hu : s.ptpDue 1 s.delayInterval = some u) :
    delayReqTx req s = (u |> sendPtp 1 m.port (u.ptp.seq : Int) 0
      |> updPtp (fun p => { p with delayReqAt := sentAt p.seq m.port req u }) |> noteTx 1 |> leaveStamp req) := by
  obtain ⟨due, hdue⟩ := exists_ptpDue
  have hgo : (s.ptpOn && s.isSlave && !s.p2p) = true := by rw [hon, hslave, he2e]; rfl
  rw [delayReqTx, hdue]
  rw [hdue] at hu
  simp only [hm, if_pos hgo, hu]

theorem pdelayReqTx_due {p : Nat} (req : Option Nat) (hlt : p < 2) (hon : s.ptpOn = true) (hp2p : s.p2p = true)
    (hu : s.ptpDue (16 + p) s.delayInterval = some u) :
    pdelayReqTx p req s = (u |> sendPtp 2 p (u.ptp.seq : Int) 0
      |> updPtp (fun q => { q with pdelayAt := setAt q.pdelayAt p (sentAt q.seq p req u) }) |> noteTx (16 + p)
      |> leaveStamp req) := by
  obtain ⟨due, hdue⟩ := exists_ptpDue
  have hgo : (s.ptpOn && s.p2p && decide (p < 2)) = true := by rw [hon, hp2p, decide_eq_true hlt]; rfl
  rw [pdelayReqTx, if_pos hgo, hdue]
  rw [hdue] at hu
  simp only [hu]

/-! ### Timeouts (R408, R413, R416) -/

/-- No master is taken, and the foreign masters whose last Announce is too old are forgotten. -/
def forgetSilent (s : State) : State :=
  s |> dropMaster |> updPtp (fun p => { p with
    foreign := p.foreign.filter (fun f => decide (s.now < f.at' + s.rd Obj.ptpAnnounceTimeout * s.announceInterval)),
    lastAnnounceAt := s.now })

/-- Where there was no master and no other is heard, the clock takes its own role. -/
theorem announceTimeout_alone (hon : s.ptpOn = true) (hst : s.rd Obj.ptpState = ptpListening ∨ s.isSlave = true)
    (hu : s.dueAt (s.ptp.lastAnnounceAt + s.rd Obj.ptpAnnounceTimeout * s.announceInterval) = some u)
    (hm : u.ptp.master = none) {v : State} (hv : forgetSilent u = v) (hf : v.bestForeign = none) :
    announceTimeout s = if v.rd Obj.ptpSlaveOnly = 1 then wr Obj.ptpState ptpListening v else takeRole ptpMaster v := by
  obtain ⟨due, hdue⟩ := exists_dueAt
  have hlistens : (s.rd Obj.ptpState == ptpListening || s.isSlave) = true := by rwa [Bool.or_eq_true, beq_iff_eq]
  have hgo : ¬(!s.ptpOn || !(s.rd Obj.ptpState == ptpListening || s.isSlave)) = true := by rw [hon, hlistens]; decide
  unfold forgetSilent at hv
  unfold announceTimeout
  rw [hdue]
  rw [hdue] at hu
  simp only [if_neg hgo, hu, hm, Option.isSome_none, Bool.false_eq_true, if_false, hv, hf]

theorem syncTimeout_due (hm : s.ptp.master.isSome = true) (hservo : s.rd Obj.ptpServo ≠ 0)
    (hu : s.dueAt (s.ptp.lastSyncAt + 3 * s.syncInterval) = some u) :
    syncTimeout s = (u |> holdover Src.timeMasterLost |> updPtp (fun p => { p with lastSyncAt := u.now })) := by
  obtain ⟨due, hdue⟩ := exists_dueAt
  have hgo : (s.ptp.master.isSome && s.rd Obj.ptpServo != 0) = true := by rw [hm, bne_iff_ne.mpr hservo]; rfl
  rw [syncTimeout, if_pos hgo, hdue]
  rw [hdue] at hu
  simp only [hu]

theorem followUpTimeout_due {q : PendingSync} (hq : s.ptp.pendingSync = some q)
    (hu : s.dueAt (q.at' + s.syncInterval) = some u) :
    followUpTimeout s = updPtp (fun p => { p with pendingSync := none }) u := by
  obtain ⟨due, hdue⟩ := exists_dueAt
  rw [followUpTimeout, hdue]
  rw [hdue] at hu
  simp only [hq, hu]

theorem qualificationTimeout_due (hst : s.rd Obj.ptpState = ptpPreMaster) (hu : s.dueAt s.ptp.qualifyAt = some u) :
    qualificationTimeout s = wr Obj.ptpState ptpMaster u := by
  obtain ⟨due, hdue⟩ := exists_dueAt
  rw [qualificationTimeout, if_pos hst, hdue]
  rw [hdue] at hu
  simp only [hu]

end

/-! ### The obligation -/

/-- Settles O39: the messages that are due, then the timeouts. -/
theorem ptpTransmitCompletes : Obligations.PtpTransmitCompletes := by
  refine ⟨fun s u stamp req hp hon => ⟨fun hm hu => ?_, fun hm hu => ?_, fun m hm hslave he2e hu => ?_, fun p hlt hp2p hu => ?_⟩,
    fun s u hp => ⟨fun hon hst hu hm hf => ?_, fun hm hservo hu => ?_, fun q hq hu => ?_, fun hst hu => ?_⟩⟩
  · exact run_of_eq hp (syncTx_due stamp hon hm hu)
  · exact run_of_eq hp (announceTx_due hon hm hu)
  · exact run_of_eq hp (delayReqTx_due req hm hon hslave he2e hu)
  · exact runIf_of_eq hlt hp (pdelayReqTx_due req hlt hon hp2p hu)
  · exact run_of_eq hp (announceTimeout_alone hon hst hu hm rfl hf)
  · exact run_of_eq hp (syncTimeout_due hm hservo hu)
  · exact run_of_eq hp (followUpTimeout_due hq hu)
  · exact run_of_eq hp (qualificationTimeout_due hst hu)

end Sys2Proof.Machine
end

section
/-! ## The time unit: device time, GSYNC, TOUT, TCAP and the clock monitor -/
namespace Sys2Proof.Machine
open Sys2Proof

section
variable {s u : State} {i : Nat}

theorem timeSet_unbarred {ns : Nat} (h : s.stepBarred = none) : timeSet ns s = (Ab.ok, stepTime (ns * nsUnit) s) := by
  rw [timeSet, h]

/-- A pulse of GSYNC is in progress, and ends (R418). -/
theorem gsyncPulseEnd_due (ha : s.time.gsyncActive ≠ 0) (hu : s.dueAt s.time.gsyncEnd = some u) :
    gsyncPulseEnd s = updTime (fun t => { t with gsyncActive := 0 }) u := by
  obtain ⟨due, hdue⟩ := exists_dueAt
  rw [gsyncPulseEnd, if_neg ha, hdue]
  rw [hdue] at hu
  simp only [hu]

/-- Output i starts a pulse, unless it is off or has had its pulse of once mode (R421). -/
theorem toutPulse_due (hi : i < 8) (hmode : s.rd (Obj.toutMode i) ≠ 0)
    (honce : s.rd (Obj.toutMode i) = 1 → (s.tout i).next = 0)
    (hu : s.dueAt (max (s.toutTarget i (s.tout i).next) (if (s.tout i).active then (s.tout i).endAt else 0)) = some u) :
    toutPulse i s = (u |> updTout i (fun t => { t with
      active := true, endAt := u.now + u.rd (Obj.toutWidthNs i) * nsUnit, next := t.next + 1 }) |> inc 64 (Obj.toutEdges i)) := by
  obtain ⟨due, hdue⟩ := exists_dueAt
  have hgo : ¬(decide (8 ≤ i) || decide (s.rd (Obj.toutMode i) = 0)
      || (decide (s.rd (Obj.toutMode i) = 1) && (s.tout i).next != 0)) = true := by
    rw [decide_eq_false (Nat.not_le.mpr hi), decide_eq_false hmode, Bool.or_self, Bool.false_or, Bool.and_eq_true,
      decide_eq_true_eq, bne_iff_ne]
    exact fun h => h.2 (honce h.1)
  rw [toutPulse, if_neg hgo, hdue]
  rw [hdue] at hu
  simp only [hu]

theorem toutPulseEnd_due (hi : i < 8) (ha : (s.tout i).active = true) (hu : s.dueAt (s.tout i).endAt = some u) :
    toutPulseEnd i s = updTout i (fun t => { t with active := false }) u := by
  obtain ⟨due, hdue⟩ := exists_dueAt
  have hgo : (decide (i < 8) && (s.tout i).active) = true := by rw [decide_eq_true hi, ha]; rfl
  rw [toutPulseEnd, if_pos hgo, hdue]
  rw [hdue] at hu
  simp only [hu]

/-- An edge that TCAP.EDGE selects, stable for 12 ns and 24 ns after the one before (R423). -/
theorem tcapEdge_selected {rising : Bool} {ns : Nat} (hi : i < 2) (hstable : 12 ≤ ns)
    (hlast : sget 0 s.time.tcapLast i = 0 ∨ sget 0 s.time.tcapLast i + 24 * nsUnit ≤ s.now + 1)
    (hsel : bit (field (s.rd Obj.tcapEdge) (2 * i + 1) (2 * i)) (if rising then 0 else 1) = true) :
    tcapEdge i rising ns s = (updTime (fun t => { t with tcapLast := sset 0 i (s.now + 1) t.tcapLast }) s
      |> wrE Obj.tcapTime (i * 16 + s.rdE Obj.tcapCaptures i % 16) (s.nowNs % 2 ^ 63 + 2 ^ 63 * boolNat rising)
      |> incE 64 Obj.tcapCaptures i) := by
  have hgo : ¬(decide (2 ≤ i) || decide (ns < 12)
      || (sget 0 s.time.tcapLast i != 0 && decide (s.now + 1 < sget 0 s.time.tcapLast i + 24 * nsUnit))) = true := by
    rw [decide_eq_false (Nat.not_le.mpr hi), decide_eq_false (Nat.not_lt.mpr hstable), Bool.or_self, Bool.false_or,
      Bool.and_eq_true, decide_eq_true_eq, bne_iff_ne]
    exact fun h => hlast.elim h.1 (Nat.not_le.mpr h.2)
  unfold tcapEdge
  rw [if_neg hgo]
  exact if_pos hsel

end

/-- Settles O40, one command of the time unit after the other. -/
theorem timeUnitCompletes : Obligations.TimeUnitCompletes := by
  intro s u i hp
  refine ⟨fun ns hns hs hbar => ?_, fun ha hu => ?_, fun hi hmode honce hu => ?_, fun hi ha hu => ?_,
    fun rising ns hi hstable hlast hsel => ?_, ?_, ?_⟩
  · refine runPower_of_eq hp (serverDo_withDetail_ok hs ?_)
    rw [Nat.mod_eq_of_lt hns]; exact timeSet_unbarred hbar
  · exact run_of_eq hp (gsyncPulseEnd_due ha hu)
  · exact runIf_of_eq hi hp (toutPulse_due hi hmode honce hu)
  · exact runIf_of_eq hi hp (toutPulseEnd_due hi ha hu)
  · exact runIf_of_eq hi hp (tcapEdge_selected hi hstable hlast hsel)
  · exact run_powered (clockLoss .tclk) hp
  · exact run_powered (clockLoss .cclk) hp

end Sys2Proof.Machine
end

section
/-! ## Fieldnet: yard frames, partners and ports -/
namespace Sys2Proof.Machine
open Sys2Proof

/-! ### Frames that are accepted (R433, R434) -/

/-- The frame `f` comes in at a port whose link is up, is well formed and new, and is a partner's. -/
structure NewFrame (s : State) (f : YardFrame) : Prop where
  portUp : s.portUp f.port = true
  wellFormed : (frameIn f.port s).frameBad f = false
  foreign : f.src ≠ (frameIn f.port s).rd Obj.nodeNumber
  partner : (frameIn f.port s).partners.contains f.src = true
  unseen : ((frameIn f.port s).peer f.src).repeated f.seq = false

section
variable {s x : State} {f : YardFrame} {n : Nat} {ps : List (List Byte)}

theorem NewFrame.receiveFrame_eq (h : NewFrame s f) (hk : f.kind = n) (use : State → State) :
    receiveFrame n f use s = use (acceptFrame f (frameIn f.port s)) := by
  have hmine : ¬(!s.portUp f.port || (f.kind != n && decide (1 ≤ f.kind) && decide (f.kind ≤ 6))) = true := by
    rw [h.portUp, hk, bne_self_eq_false]; simp
  have hunseen : ¬((frameIn f.port s).peer f.src).repeated f.seq = true := Bool.eq_false_iff.mp h.unseen
  rw [receiveFrame, if_neg hmine]
  simp only [h.wellFormed, h.partner, if_neg h.foreign, if_neg hunseen, Bool.not_true, Bool.false_eq_true, if_false]

theorem withSet_complete (hc : collect f s = (some ps, x)) (use : List (List Byte) → State → State) :
    withSet f use s = use ps x := by
  rw [withSet, hc]

/-- A frame that completes its set has the set used. -/
theorem NewFrame.receiveSet_eq (h : NewFrame s f) (hk : f.kind = n) (hc : collect f (acceptFrame f (frameIn f.port s)) = (some ps, x))
    (use : List (List Byte) → State → State) : receiveFrame n f (withSet f use) s = use ps x := by
  rw [h.receiveFrame_eq hk, withSet_complete hc]

theorem NewFrame.remapRx_eq (h : NewFrame s f) (hk : f.kind = 6) (hlead : (acceptFrame f (frameIn f.port s)).leadOf f.src ≠ [])
    (hc : collect f (acceptFrame f (frameIn f.port s)) = (some ps, x)) : remapRx f s = takeRemap f ps x := by
  have hserves : ¬((acceptFrame f (frameIn f.port s)).leadOf f.src).isEmpty = true := by rwa [List.isEmpty_iff]
  rw [remapRx, h.receiveFrame_eq hk]
  rw [if_neg hserves, withSet_complete hc]

end

/-- Settles O41: each kind of frame is accepted alike, and its use is the kind's. -/
theorem yardFramesComplete : Obligations.YardFramesComplete := by
  intro s f powered hp
  cases powered with
  | false =>
    intro v u hup hbad hsrc hpart hseq
    have hnew : NewFrame s f := ⟨hup, hbad, hsrc, hpart, hseq⟩
    refine ⟨nofun, fun ps x hc => ⟨fun _ hk => ?_, nofun, fun _ hk => ?_, fun _ hk => ?_, nofun⟩⟩
    · exact run_of_eq hp (hnew.receiveSet_eq hk hc (takeHalo f))
    · exact run_of_eq hp (hnew.receiveSet_eq hk hc (takeRecords f))
    · exact run_of_eq hp (hnew.receiveSet_eq hk hc (takeTracks f))
  | true =>
    intro v u hup hbad hsrc hpart hseq
    have hnew : NewFrame (settle s) f := ⟨hup, hbad, hsrc, hpart, hseq⟩
    refine ⟨fun _ hk => ?_, fun ps x hc => ⟨nofun, fun _ hk => ?_, nofun, nofun, fun _ hk hlead => ?_⟩⟩
    · exact runPower_of_eq hp (hnew.receiveFrame_eq hk (takeBeat f))
    · exact runPower_of_eq hp (hnew.receiveSet_eq hk hc (takeDelivery f))
    · exact runPower_of_eq hp (hnew.remapRx_eq hk hlead hc)

/-! ### Partners (R437, R438) -/

section
variable {s u : State} {n : Nat}

/-- The members that are records of partner n fail, in every yard of a running job, as of boundary B_k. -/
def failPartner (n k : Nat) (s : State) : State :=
  s.runningSlots.foldl (fun s j => ((remoteMembers s.dict (s.jobYard j)).filter (fun m => m.1 == n)).foldl
    (fun s m => failRemote j m.1 m.2 (s.boundaryUs k) s) s) s

theorem peerLost_silent (hpart : s.partners.contains n = true) (hst : s.rdE Obj.netPeerState n ≠ 2)
    (hsteps : s.rd Obj.netLostSteps ≤ s.openStep) (hnow : s.boundary s.openStep ≤ s.now)
    (hlast : (s.peer n).lastAt < s.boundary (s.openStep - s.rd Obj.netLostSteps)) :
    peerLost n s = failPartner n s.openStep
      (s |> wrE Obj.netPeerState n 2 |> inc 32 Obj.netLosses |> detect (portBlock 0) Src.portPeerLost) := by
  have hgo : (s.partners.contains n && s.rdE Obj.netPeerState n != 2 && decide (s.rd Obj.netLostSteps ≤ s.openStep)
      && decide (s.boundary s.openStep ≤ s.now)
      && decide ((s.peer n).lastAt < s.boundary (s.openStep - s.rd Obj.netLostSteps))) = true := by
    rw [hpart, bne_iff_ne.mpr hst, decide_eq_true hsteps, decide_eq_true hnow, decide_eq_true hlast]; rfl
  exact if_pos hgo

/-- The yards that this device serves for a lead without a complete REMAP set, with the apply steps that the lead has
announced. -/
def State.lateRemaps (s : State) : List (Nat × Nat) :=
  s.runningSlots.flatMap (fun j =>
    let y := s.jobYard j
    let lead := s.rd (Obj.yardLead y)
    if lead < 4096 && (s.yard y).serveEnd.isNone then
      ((s.announced lead y).filter (fun k => s.openStep < k && !s.net.remaps.any (fun r => r.1 == k && r.2.1 == lead))).map
        (fun k => (y, k))
    else [])

/-- The serving of the yards `ys` ends at step j. -/
def endServing (j : Nat) (ys : List Nat) (s : State) : State :=
  ys.foldl (fun s y => updYard y (fun yd => { yd with serveEnd := some j }) s) s

theorem remapDeadline_due {y j : Nat} (hmin : minBy (fun x => (x.2 : Int)) s.lateRemaps = some (y, j))
    (hu : s.dueAt (s.boundary (j - 1)) = some u) :
    remapDeadline s = detect (portBlock 0) Src.portRemapIncomplete
      (endServing j ((s.lateRemaps.filter (fun x => x.2 == j)).map (·.1)) u) := by
  obtain ⟨due, hdue⟩ := exists_dueAt
  unfold State.lateRemaps at hmin ⊢
  unfold endServing
  rw [remapDeadline, hdue]
  rw [hdue] at hu
  simp only [hmin, hu]

end

/-- Settles O42: the partner's members fail, and the serving that lacks its REMAP ends. -/
theorem partnersComplete : Obligations.PartnersComplete := by
  intro s hp
  refine ⟨fun n hn hpart hst hsteps hnow hlast => ?_, fun y j u hmin hu => ?_⟩
  · exact runPowerIf_of_eq hn hp (peerLost_silent hpart hst hsteps hnow hlast)
  · exact runPower_of_eq hp (remapDeadline_due hmin hu)

/-! ### Links, and what the ports answer and drop (R426, R427, R432) -/

section
variable {s : State} {p : Nat}

theorem portLinkUp_on (hp : p < 2) (hon : s.isOn 3 = true) (hmode : s.rdE Obj.portMode p ≠ 0) :
    portLinkUp p s = wrE Obj.portLink p 1 s := by
  have hgo : (decide (p < 2) && s.isOn 3 && s.rdE Obj.portMode p != 0) = true := by
    rw [decide_eq_true hp, hon, bne_iff_ne.mpr hmode]; rfl
  exact if_pos hgo

section
variable (hup : s.portUp p = true)
include hup

theorem portLinkDown_portUp :
    portLinkDown p s = (s |> wrE Obj.portLink p 0 |> detect (portBlock p) Src.portLinkDown) := if_pos hup

theorem portUp_guard : ¬(!s.portUp p) = true := by rw [hup]; decide

theorem arpRequest_own {target : Nat} (h0 : target ≠ 0) (hown : target = (frameIn p s).rdE Obj.portIpv4 p) :
    arpRequest p target s = answer 1 p target ((frameIn p s).macBytes p) (frameIn p s) := by
  have hmine : (target != 0 && target == (frameIn p s).rdE Obj.portIpv4 p) = true := by
    rw [bne_iff_ne.mpr h0, ← hown, beq_self_eq_true]; rfl
  rw [arpRequest, if_neg (portUp_guard hup)]
  exact if_pos hmine

theorem icmpEcho_own {target source : Nat} {data : List Byte} (h0 : target ≠ 0)
    (hown : target = (frameIn p s).rdE Obj.portIpv4 p)
    (hback : (frameIn p s).reaches p (mappedPrefix * 2 ^ 32 + source) = true) :
    icmpEcho p false target source data s = answer 2 p source data (frameIn p s) := by
  have hmine : (target != 0 && target == (frameIn p s).rdE Obj.portIpv4 p
      && (frameIn p s).reaches p (mappedPrefix * 2 ^ 32 + source)) = true := by
    rw [bne_iff_ne.mpr h0, ← hown, beq_self_eq_true, hback]; rfl
  rw [icmpEcho, if_neg (portUp_guard hup)]
  exact if_pos hmine

theorem icmpEcho_ownV6 {target source : Nat} {data : List Byte} (hown : (frameIn p s).ownV6 p target = true)
    (hback : (frameIn p s).reaches p source = true) :
    icmpEcho p true target source data s = answer 3 p source data (frameIn p s) := by
  have hmine : ((frameIn p s).ownV6 p target && (source / 2 ^ 118 == 0x3FA || (frameIn p s).reaches p source)) = true := by
    rw [hown, hback, Bool.or_true]; rfl
  rw [icmpEcho, if_neg (portUp_guard hup)]
  exact if_pos hmine

theorem neighbourSolicitation_own {target : Nat} (hown : (frameIn p s).ownV6 p target = true) :
    neighbourSolicitation p target s = answer 4 p target ((frameIn p s).macBytes p) (frameIn p s) := by
  rw [neighbourSolicitation, if_neg (portUp_guard hup)]
  exact if_pos hown

theorem unwantedFrame_notForPort : unwantedFrame p .notForPort s = s := if_neg (portUp_guard hup)

theorem unwantedFrame_counted {why : Unwanted} (hw : why ≠ .notForPort) :
    unwantedFrame p why s = incE 32 Obj.portRxDropped p s := by
  cases why
  case notForPort => exact absurd rfl hw
  all_goals exact if_neg (portUp_guard hup)

theorem frameErrorRx_noBuffer :
    frameErrorRx p .noBuffer s = (s |> incE 32 Obj.portRxDropped p |> detect (portBlock p) Src.portRxOverflow) :=
  if_neg (portUp_guard hup)

theorem frameErrorRx_error {why : FrameError} (hw : why ≠ .noBuffer) :
    frameErrorRx p why s = (s |> incE 32 Obj.portRxErrors p |> detect (portBlock p) Src.portRxError) := by
  cases why
  case noBuffer => exact absurd rfl hw
  all_goals exact if_neg (portUp_guard hup)

end

end

/-- Settles O43: the link first, then what a port does whose link is up. -/
theorem portsComplete : Obligations.PortsComplete := by
  intro p s hlt hp
  refine ⟨fun hon hmode => ?_, fun hup => ⟨?_, ⟨fun target h0 hown => ?_, fun target source data h0 hown hback => ?_,
    fun target source data hown hback => ?_, fun target hown => ?_⟩, ?_, fun why hw => ?_, ?_, fun why hw => ?_⟩⟩
  · exact runIf_of_eq hlt hp (portLinkUp_on hlt hon hmode)
  · exact runIf_of_eq hlt hp (portLinkDown_portUp hup)
  · exact runIf_of_eq hlt hp (arpRequest_own hup h0 hown)
  · exact runIf_of_eq hlt hp (icmpEcho_own hup h0 hown hback)
  · exact runIf_of_eq hlt hp (icmpEcho_ownV6 hup hown hback)
  · exact runIf_of_eq hlt hp (neighbourSolicitation_own hup hown)
  · exact runIf_of_eq hlt hp (unwantedFrame_notForPort hup)
  · exact runIf_of_eq hlt hp (unwantedFrame_counted hup hw)
  · exact runIf_of_eq hlt hp (frameErrorRx_noBuffer hup)
  · exact runIf_of_eq hlt hp (frameErrorRx_error hup hw)

end Sys2Proof.Machine
end

section
/-! ## Power: domains, wakes, sleep and the reset pins -/
namespace Sys2Proof.Machine
open Sys2Proof

/-! ### The phases of a domain (R447, R448) -/

section
variable {s u : State} {d : Nat}

/-- Where D1 is ON already the boot ROM has run, and a ready phase is the domain's own business. -/
theorem phaseReady_on (hon : s.isOn 1 = true) (d : Nat) : phaseReady d s = domainPhaseReady d s := by
  rw [phaseReady, hon]
  exact if_neg (by simp)

section
variable (hlo : 2 ≤ d) (hhi : d < 54)
include hlo hhi

theorem domain_inRange : (decide (1 ≤ d) && decide (d < 54)) = true := by
  rw [decide_eq_true (Nat.le_of_lt hlo), decide_eq_true hhi]; rfl

section
variable (hrise : s.domState d = 1 ∨ s.domState d = 5)
include hrise

theorem risingDomain_guard : ¬(!(decide (1 ≤ d) && decide (d < 54)) || !(s.domState d == 1 || s.domState d == 5)) = true := by
  have hstate : (s.domState d == 1 || s.domState d == 5) = true := by rwa [Bool.or_eq_true, beq_iff_eq, beq_iff_eq]
  rw [domain_inRange hlo hhi, hstate]; decide

/-- The supply is good: the clock phase begins. Only D1 can skip it (R453). -/
theorem domainPhaseReady_supply (hph : (s.domain d).phase = 1) (hgood : s.supplyReady d = true) :
    domainPhaseReady d s = updDomain d (fun x => { x with phase := 2 }) s := by
  have hother : ¬(decide (d = 1) && s.rdZ Obj.powerStartMode == 1 && s.domState d == 1) = true := by
    rw [decide_eq_false (Nat.ne_of_gt hlo)]; simp
  rw [domainPhaseReady, if_neg (risingDomain_guard hlo hhi hrise)]
  dsimp only
  rw [if_pos hph, if_pos hgood, if_neg hother]

theorem domainPhaseReady_clock (hph : (s.domain d).phase = 2) :
    domainPhaseReady d s = updDomain d (fun x => { x with phase := 3 }) s := by
  rw [domainPhaseReady, if_neg (risingDomain_guard hlo hhi hrise), hph]; rfl

theorem domainPhaseReady_logic (hph : (s.domain d).phase = 4) : domainPhaseReady d s = domainUp d s := by
  rw [domainPhaseReady, if_neg (risingDomain_guard hlo hhi hrise), hph]; rfl

end

omit hlo in
theorem quiescing_guard (hph : (s.domain d).phase = 5) : (decide (d < 54) && (s.domain d).phase == 5) = true := by
  rw [decide_eq_true hhi, hph]; rfl

omit hlo in
theorem quiesceDone_quiescing (hph : (s.domain d).phase = 5) :
    quiesceDone d s = updDomain d (fun x => { x with phase := 6 }) s := if_pos (quiescing_guard hhi hph)

omit hlo in
theorem quiesceTimeout_due (hph : (s.domain d).phase = 5)
    (hu : s.dueAt ((s.domain d).since + s.rd Obj.powerQuiesceUs * 1000 * nsUnit) = some u) :
    quiesceTimeout d s
      = (u |> updDomain d (fun x => { x with phase := 6 }) |> detect powerBlock Src.powerQuiesceTimeout) := by
  obtain ⟨due, hdue⟩ := exists_dueAt
  rw [quiesceTimeout, if_pos (quiescing_guard hhi hph), hdue]
  rw [hdue] at hu
  simp only [hu]

theorem switchesOpen_guard (hph : (s.domain d).phase = 6) :
    (decide (1 ≤ d) && decide (d < 54) && (s.domain d).phase == 6) = true := by
  rw [domain_inRange hlo hhi, hph]; rfl

theorem switchesOpen_saving (hph : (s.domain d).phase = 6) (hst : s.domState d = 3) :
    switchesOpen d s = (s |> endTransition d 4 |> updPower (fun p => { p with saves := sput d true p.saves })) := by
  rw [switchesOpen, if_pos (switchesOpen_guard hlo hhi hph), if_pos hst]

theorem switchesOpen_falling (hph : (s.domain d).phase = 6) (hst : s.domState d ≠ 3) :
    switchesOpen d s = (s |> endTransition d 0 |> domainOff d |> dropRails d) := by
  rw [switchesOpen, if_pos (switchesOpen_guard hlo hhi hph), if_neg hst]

theorem switchFail_rising (hph : (s.domain d).phase = 1) (hst : s.domState d = 1) :
    switchFail d s = (s |> block d 0 |> dropRails d |> detect powerBlock Src.powerSwitchFail) := by
  have hgo : (decide (1 ≤ d) && decide (d < 54) && ((s.domain d).phase == 1 || (s.domain d).phase == 6)) = true := by
    rw [domain_inRange hlo hhi, hph]; rfl
  rw [switchFail, if_pos hgo]
  dsimp only
  rw [if_pos hst]

end

end

/-- Settles O44: the phases of a rise, then those of a fall, then a switch that fails. -/
theorem domainPhasesComplete : Obligations.DomainPhasesComplete := by
  intro d s hlo hhi hp
  refine ⟨fun hrise hon => ⟨fun hph => ?_, fun hph hgood => ?_, fun hph => ?_⟩, fun hph => ?_, fun u hph hu => ?_,
    fun hph hst => ?_, fun hph hst => ?_, fun hph hst => ?_⟩
  · exact runPower_of_eq hp ((phaseReady_on hon d).trans (domainPhaseReady_clock hlo hhi hrise hph))
  · exact runPower_of_eq hp ((phaseReady_on hon d).trans (domainPhaseReady_supply hlo hhi hrise hph hgood))
  · exact runPower_of_eq hp ((phaseReady_on hon d).trans (domainPhaseReady_logic hlo hhi hrise hph))
  · exact runPower_of_eq hp (quiesceDone_quiescing hhi hph)
  · exact runPower_of_eq hp (quiesceTimeout_due hhi hph hu)
  · exact runPower_of_eq hp (switchesOpen_saving hlo hhi hph hst)
  · exact runPower_of_eq hp (switchesOpen_falling hlo hhi hph hst)
  · exact runPower_of_eq hp (switchFail_rising hlo hhi hph hst)

/-! ### Wake and sleep (R457, R459) -/

section
variable {s t : State} {n : Nat} {w : WakeSignal}

theorem wakeInput_level (hn : n < 4) (hsel : wakeSelects (s.rdE Obj.wakeMode n) w = some true)
    (hnew : bit s.power.wakeAsserted n = false) :
    wakeInput n w s = (true, s |> updPower (fun p => { p with wakeAsserted := setBit p.wakeAsserted n }) |> wakeEvent n) := by
  rw [wakeInput, if_pos hn, hsel]
  exact if_neg (Bool.eq_false_iff.mp hnew)

theorem wakeInput_edge (hn : n < 4) (hsel : wakeSelects (s.rdE Obj.wakeMode n) w = some false)
    (harmed : s.power.blindUntil ≤ s.now) : wakeInput n w s = (true, s |> putBit Obj.wakeLatched n true |> wakeEvent n) := by
  rw [wakeInput, if_pos hn, hsel]
  exact if_neg (Nat.not_lt.mpr harmed)

/-- A wake event of a device that does not sleep is noted, and no more. -/
theorem wakeUp_awake (hw : wakeInput n w s = (true, t)) (hawake : t.power.sleep = 0) : wakeUp n w s = t := by
  have h1 : ¬t.power.sleep = 1 := by omega
  have h2 : ¬t.power.sleep = 2 := by omega
  rw [wakeUp, hw]
  dsimp only
  rw [if_neg h1, if_neg h2]

theorem wakeClear_mask {mask : Nat} (hm : mask < 16) :
    wakeClear mask s = wr Obj.wakeLatched (andNot (s.rd Obj.wakeLatched) mask) s := by
  rw [wakeClear, Nat.mod_eq_of_lt hm]

/-- Sleep needs a wake that is set up, and no active schedule (R459). -/
theorem sleepCommand_allowed {v : Nat} (hv : v = 1 ∨ v = 2) (hn : n < 4) (hidle : s.scheduleActive = false)
    (hmode : s.rdE Obj.wakeMode n ≠ 0) : sleepCommand v s = ((Ab.ok, 0), updPower (fun p => { p with sleep := v }) s) := by
  have hknown : ¬(v ≠ 1 ∧ v ≠ 2) := by omega
  have hwakes : ¬((List.range 4).all (fun n => s.rdE Obj.wakeMode n == 0)) = true := fun hall =>
    hmode (beq_iff_eq.mp (List.all_eq_true.mp hall n (List.mem_range.mpr hn)))
  have hstart : startSleep v s = (Ab.ok, 0, updPower (fun p => { p with sleep := v }) s) := by
    rw [startSleep, if_neg hknown, if_neg (Bool.eq_false_iff.mp hidle), if_neg hwakes]
  rw [sleepCommand, hstart]; rfl

end

/-- Settles O45: wakes by level and by edge and their ends, both sleeps, and the trim. -/
theorem wakeAndSleepComplete : Obligations.WakeAndSleepComplete := by
  intro s n hp hn
  refine ⟨fun w hsel hnew hawake => ?_, fun w hsel harmed hawake => ?_, ?_, fun mask hm hs => ?_,
    fun hs hidle hmode => ⟨?_, ?_⟩, ?_⟩
  · exact runPowerIf_of_eq hn hp (wakeUp_awake (wakeInput_level hn hsel hnew) hawake)
  · exact runPowerIf_of_eq hn hp (wakeUp_awake (wakeInput_edge hn hsel harmed) hawake)
  · exact runPowerIf_of_eq (f := wakeRelease n) hn hp rfl
  · exact runPower_of_eq hp (serverDo_of_eq hs (congrArg (noAbort, ·) (wakeClear_mask hm)))
  · exact runPower_of_eq hp (serverDo_of_eq hs (sleepCommand_allowed (.inl rfl) hn hidle hmode))
  · exact runPower_of_eq hp (serverDo_of_eq hs (sleepCommand_allowed (.inr rfl) hn hidle hmode))
  · exact run_powered pclkTrim hp

/-! ### The reset pins (R452, R519, R523) -/

section
variable {s : State}

theorem execPowerOnResetRelease_held (high : Bool) (sel : Nat) (hp : s.boot.powerReset = true) :
    execPowerOnResetRelease high sel s = .next (setPins s false (!high) (powerOnRelease high sel s)) := by
  rw [execPowerOnResetRelease, if_pos hp]

theorem execResetNAssert_long {ns : Nat} (hns : 1000 ≤ ns) (hhigh : s.boot.resetNLow = false) (hp : s.powered) :
    execResetNAssert ns s = .next (setPins s false true (heldReset s)) := by
  have hseen : ¬(decide (ns < 100) || s.boot.resetNLow) = true := by
    rw [decide_eq_false (by omega), hhigh]; decide
  rw [execResetNAssert, if_neg hseen, if_neg (Bool.eq_false_iff.mp hp), if_neg (Nat.not_lt.mpr hns)]

theorem execResetNRelease_low (sel : Nat) (hlow : s.boot.resetNLow = true) (hp : s.powered) :
    execResetNRelease sel s = .next (setPins s false false (startUp sel s)) := by
  have hheld : ¬(!s.boot.resetNLow) = true := by rw [hlow]; decide
  rw [execResetNRelease, if_neg hheld, if_neg (Bool.eq_false_iff.mp hp)]

end

/-- Settles O46, one pin command after the other. -/
theorem resetPinsComplete : Obligations.ResetPinsComplete :=
  fun _ sel => ⟨rfl, fun high hp => execPowerOnResetRelease_held high sel hp,
    fun _ hns hhigh hp => execResetNAssert_long hns hhigh hp, fun hlow hp => execResetNRelease_low sel hlow hp⟩

end Sys2Proof.Machine
end

section
/-! ## Boot, QSPI and fuses -/
namespace Sys2Proof.Machine
open Sys2Proof

section
variable {s u : State}

/-! ### Starts and resets (R454, R475, R503) -/

theorem startFirmware_verified (h : s.boot.phase = .verified) : startFirmware s = mbxHandOver (firmwareStart s) := if_pos h

/-- The chip reset follows once the response is out. -/
theorem bootReset_serving (hs : s.serving) :
    afterResponse (serverDo bootResetCommand s)
      = chipReset 5 0xFF 0xFF 0xFF (answered Ab.ok 0 (updBoot (fun b => { b with resetAfterResponse := true }) s)) := by
  have hdone : serverDo bootResetCommand s = answered Ab.ok 0 (updBoot (fun b => { b with resetAfterResponse := true }) s) :=
    serverDo_of_eq hs rfl
  rw [hdone]
  exact if_pos rfl

theorem fwWatchdog_running (h : s.boot.phase = .running) : fwWatchdog s = detect cpBlock Src.cpFwWatchdog s := if_pos h

/-! ### QSPI writes (R501, R502) -/

section
variable (hfree : s.qspiBusy = false)
include hfree

theorem qspiWrite_image : qspiWrite 1 s = (Ab.ok, qspiImage s) := by rw [qspiWrite, hfree]; rfl
theorem qspiWrite_config : qspiWrite 2 s = (Ab.ok, qspiConfig s) := by rw [qspiWrite, hfree]; rfl
theorem qspiWrite_pointer : qspiWrite 3 s = (Ab.ok, qspiPointer s) := by rw [qspiWrite, hfree]; rfl

end

/-- An image that can be read is written where it is valid, and otherwise its status reported. -/
theorem qspiImage_read {b : List Byte} (hplace : s.imagePlace (s.rd Obj.bootImageAddr) (s.rd Obj.bootImageLen) = true)
    (hlen : s.rd Obj.bootImageLen ≤ imageLimit)
    (hread : memRead (s.rd Obj.bootImageAddr) (s.rd Obj.bootImageLen) s = (some b, u)) (hotp : u.otpLost = false) :
    qspiImage s = if u.imageStatus b = 0 then startQspi 1 b 0x10000 (s.rd Obj.bootImageLen) u
      else failQspi (u.imageStatus b) u := by
  have hgo : ¬(!s.imagePlace (s.rd Obj.bootImageAddr) (s.rd Obj.bootImageLen)
      || decide (imageLimit < s.rd Obj.bootImageLen)) = true := by
    rw [hplace, decide_eq_false (Nat.not_lt.mpr hlen)]; decide
  rw [qspiImage, if_neg hgo]
  simp only [hread, hotp, Bool.false_eq_true, if_false, bne_iff_ne, ne_eq, ite_not]

theorem qspiConfig_pointer {p : Pointer} (hp : s.pointer = some p) (hotp : s.otpLost = false) :
    qspiConfig s = if s.imageStatus (s.qspiAt p.image p.imageLen) = 0 then startQspi 2 [] p.image p.imageLen s
      else failQspi (s.imageStatus (s.qspiAt p.image p.imageLen)) s := by
  rw [qspiConfig, hp]
  simp only [hotp, Bool.false_eq_true, if_false, bne_iff_ne, ne_eq, ite_not]

/-- A write of an image puts it behind the boot pointer's sector; a write of a block alone has none. -/
def programImage (op : QspiOp) (s : State) : State :=
  if op.image.isEmpty then s else s |> qspiErase 0x10000 (sectorUp op.image.length) |> qspiProgram 0x10000 op.image

theorem qspiDone_written {op : QspiOp} (hop : s.boot.op = some op) (hv : op.value ≠ 3) :
    qspiDone false s = (s |> updBoot (fun b => { b with op := none }) |> wr Obj.bootQspiState 4 |> programImage op
      |> qspiErase op.at' (sectorUp op.block.length) |> qspiProgram op.at' op.block |> qspiProgram 0 op.pointer
      |> wr Obj.bootConfigSequence (leAt op.block 16 8)) := by
  unfold programImage
  rw [qspiDone, hop]
  exact if_neg hv

theorem qspiDone_failed {op : QspiOp} (hop : s.boot.op = some op) :
    qspiDone true s = (s |> failQspi 6 |> detect secBlock Src.secQspiWriteFail) := by
  rw [qspiDone, hop]; rfl

/-! ### Fuses (R500) -/

theorem rollbackAdvance_running (hfree : s.qspiBusy = false) :
    rollbackAdvance (s.rd Obj.secImageSecurity) s
      = (Ab.ok, s |> wr Obj.secRollback (max (s.rd Obj.secImageSecurity) (s.rd Obj.secRollback))
        |> wr Obj.secRootRevoked (s.rd Obj.secRootRevoked ||| fwRevoke s.boot.image)) := by
  rw [rollbackAdvance, if_neg (not_not_intro rfl), if_neg (Bool.eq_false_iff.mp hfree)]

end

/-- Settles O47: the starts, the requests of a free server, and the ends of QSPI writes. -/
theorem bootCompletes : Obligations.BootCompletes := by
  intro s hp
  refine ⟨fun hph _ => ?_, fun hs => ?_, fun hs hfree => ⟨?_, fun b u hplace hlen hread hotp => ?_, fun p hptr hotp => ?_, ?_⟩,
    fun op hop hv => ?_, fun op hop => ?_, fun hph => ?_⟩
  · exact runPower_of_eq hp (startFirmware_verified hph)
  · exact run_of_eq (f := fun s => afterResponse (serverDo bootResetCommand s)) hp (bootReset_serving hs)
  · exact run_of_eq hp (serverDo_withDetail_ok hs (qspiWrite_pointer hfree))
  · refine run_of_eq hp (serverDo_withDetail_ok hs ?_)
    rw [qspiWrite_image hfree, qspiImage_read hplace hlen hread hotp]
  · refine run_of_eq hp (serverDo_withDetail_ok hs ?_)
    rw [qspiWrite_config hfree, qspiConfig_pointer hptr hotp]
  · exact run_of_eq hp (serverDo_withDetail_ok hs (rollbackAdvance_running hfree))
  · exact run_of_eq hp (qspiDone_written hop hv)
  · exact run_of_eq hp (qspiDone_failed hop)
  · exact run_of_eq hp (fwWatchdog_running hph)

end Sys2Proof.Machine
end

section
/-! ## Muck-out: passes and slices -/
namespace Sys2Proof.Machine
open Sys2Proof

section
variable {u : Nat} {s v : State}

/-! ### Passes (R488, R491) -/

/-- A unit whose settings allow slices is of a kind that has them, and D1 is ON. -/
theorem muckAllowed_kind (h : s.muckAllowed u = true) : muckKind u ≠ 7 ∧ s.isOn 1 = true := by
  simp only [State.muckAllowed, Bool.and_eq_true, bne_iff_ne] at h
  obtain ⟨⟨⟨hkind, hon⟩, _⟩, _⟩ := h
  exact ⟨hkind, hon⟩

section
variable (hall : s.muckAllowed u = true) (hmark : s.marked u = false) (hidle : (s.muckUnit u).active = false)
include hall hmark hidle

theorem passStart_guard : ¬(decide (muckKind u = 7) || !s.isOn 1 || s.marked u
    || ((s.muckUnit u).active && (s.muckUnit u).late)) = true := by
  obtain ⟨hkind, hon⟩ := muckAllowed_kind hall
  rw [decide_eq_false hkind, hon, hmark, hidle, Bool.false_and]; decide

omit hmark in
theorem passAllowed_guard : ¬(!(s.muckUnit u).active && !s.muckAllowed u) = true := by rw [hidle, hall]; decide

theorem muckPassStart_queued (hq : (s.muckUnit u).queued = true) : muckPassStart u s = beginPass u true false s := by
  have hstart : (!(s.muckUnit u).active && (s.muckUnit u).queued) = true := by rw [hidle, hq]; rfl
  rw [muckPassStart, if_neg (passStart_guard hall hmark hidle), if_neg (passAllowed_guard hall hidle), if_pos hstart]

/-- A unit that has run a pass begins the next one after the period. -/
theorem muckPassStart_due (hq : (s.muckUnit u).queued = false) (hran : (s.muckUnit u).everRan = true)
    (hv : s.dueAt ((s.muckUnit u).startedAt + s.rd Obj.muckPassPeriod * 10 ^ 9 * nsUnit) = some v) :
    muckPassStart u s = beginPass u false false v := by
  obtain ⟨due, hdue⟩ := exists_dueAt
  have hqueued : ¬(!(s.muckUnit u).active && (s.muckUnit u).queued) = true := by rw [hq, Bool.and_false]; decide
  have hfirst : ¬(!(s.muckUnit u).active && !(s.muckUnit u).everRan) = true := by
    rw [hran, Bool.not_true, Bool.and_false]; decide
  rw [muckPassStart, if_neg (passStart_guard hall hmark hidle), if_neg (passAllowed_guard hall hidle), if_neg hqueued,
    if_neg hfirst, hdue]
  rw [hdue] at hv
  simp only [hv, hidle, Bool.false_eq_true, if_false]

end

theorem muckRequest_unit (hk : muckKind u ≠ 7) :
    muckRequest u s = (Ab.ok, updMuck u (fun m => { m with queued := true }) s) := if_neg hk

theorem muckRelease_marked (hu : u < 32) (hon : s.isOn (stallDomain u) = true) (hmark : s.marked u = true) :
    muckRelease u s = (Ab.ok, s |> wrE Obj.muckPosition u 0 |> beginPass u true true) := by
  rw [muckRelease, if_neg (Nat.not_le.mpr hu), hon, hmark]; rfl

/-! ### Slices (R485, R486, R489) -/

/-- A slice starts on an idle unit of a pass, with room among the slices that run, under a vote of its domain. -/
theorem sliceStart_idle (hall : s.muckAllowed u = true) (hact : (s.muckUnit u).active = true)
    (hrun : (s.muckUnit u).running = false) (hroom : s.muckRunning < 8) (hidle : s.unitIdle u = true)
    (hon : s.isOn (muckDomain u) = true) (htarget : s.target (muckDomain u) = 2) (hmark : s.marked u = false) :
    let w := updMuck u (fun m => { m with running := true, sliceAt := s.now }) s
    sliceStart u s = { w with power := { w.power with muckVotes := w.power.muckVotes ++ [muckDomain u] } } := by
  have hgo : (s.muckAllowed u && (s.muckUnit u).active && !(s.muckUnit u).running && decide (s.muckRunning < 8) && s.unitIdle u
      && s.isOn (muckDomain u) && s.target (muckDomain u) == 2 && (!s.marked u || (s.muckUnit u).releasing)) = true := by
    rw [hall, hact, hrun, decide_eq_true hroom, hidle, hon, htarget, hmark]; rfl
  exact if_pos hgo

theorem slicePreempt_work (hrun : (s.muckUnit u).running = true) (hbusy : s.unitIdle u = false) :
    slicePreempt u .work s
      = (endSlice u s |> inc 64 Obj.muckPreemptions |> updMuck u (fun m => { m with preempted := m.preempted + 1 })) := by
  have hgo : ((s.muckUnit u).running && s.preempts u .work) = true := by rw [hrun, State.preempts, hbusy]; rfl
  exact if_pos hgo

section
variable {seen : Nat} (hrun : (s.muckUnit u).running = true) (hfirst : (s.muckUnit u).retry = none)
  (hv : s.dueAt ((s.muckUnit u).sliceAt + muckSliceUs u * 1000 * nsUnit) = some v) (hseen : seen < 2 ^ 32)
include hrun hfirst hv hseen

/-- The signature of a slice that has run for its length, and is no repetition, decides how the pass goes on. -/
theorem sliceEnd_due : sliceEnd u seen s
    = if seen = (Config.muckExpected (muckKind u) (v.nextSlice u)).toNat then nextOfPass u (v.nextSlice u) (endSlice u v)
      else sliceFailed u (v.nextSlice u) (Config.muckExpected (muckKind u) (v.nextSlice u)).toNat seen (endSlice u v) := by
  obtain ⟨due, hdue⟩ := exists_dueAt
  rw [sliceEnd, if_pos hrun, hdue]
  rw [hdue] at hv
  simp only [hv, hfirst, Nat.mod_eq_of_lt hseen, Option.isSome_none, Bool.false_eq_true, if_false, bne_iff_ne, ne_eq, ite_not]

end

end

/-- Settles O49: the starts of a pass, the slices, and the two requests. -/
theorem muckCompletes : Obligations.MuckCompletes := by
  intro u s hu hp
  refine ⟨fun hall hmark hidle => ⟨fun hq => ?_, fun v hq hran hv => ?_⟩,
    fun hall hact hrun hroom hidle hon htarget hmark => ?_, fun hrun hbusy => ?_,
    fun w seen hrun hfirst hw hseen => ⟨fun heq => ?_, fun hne => ?_⟩, fun hs hk => ?_, fun hlt hs hon hmark => ?_⟩
  · exact runIf_of_eq hu hp (muckPassStart_queued hall hmark hidle hq)
  · exact runIf_of_eq hu hp (muckPassStart_due hall hmark hidle hq hran hv)
  · exact runPowerIf_of_eq hu hp (sliceStart_idle hall hact hrun hroom hidle hon htarget hmark)
  · exact runPowerIf_of_eq hu hp (slicePreempt_work hrun hbusy)
  · exact runPowerIf_of_eq hu hp ((sliceEnd_due hrun hfirst hw hseen).trans (if_pos heq))
  · exact runPowerIf_of_eq hu hp ((sliceEnd_due hrun hfirst hw hseen).trans (if_neg hne))
  · exact run_of_eq hp (serverDo_withDetail_ok hs (muckRequest_unit hk))
  · exact run_of_eq hp (serverDo_withDomain_ok hs (muckRelease_marked hlt hon hmark))

end Sys2Proof.Machine
end
